-- ==== Sys2Proof/Word.lean ====
section
/-! DEFINITION. The word types of the 2240 (00_scope.md, section 6): a halfword is 16 bits, a word is 32 bits, the width
of the local bus. Times are natural numbers of 10 ns, the unit of the hop time (R23) and the finest unit the spec uses. -/

namespace Sys2Proof

/-- A halfword: one access of the register window, one event word, one command word, one halfword of payload. -/
abbrev Halfword := BitVec 16

/-- A word of the local bus. -/
abbrev Word := BitVec 32

/-- A moment, or a span of time, in units of 10 ns. -/
abbrev Time := Nat

end Sys2Proof
end

