-- ==== Sys2Proof/Syntax.lean ====
section
/-! DEFINITION. The frames of a link (R6, 11.1) and the commands of the 2240: one constructor of `Instr` for each row of
spec/opcode_table.json. Nothing here has a meaning; the meanings stand in `Sys2Proof/Machine/`.

The table gives its rows no operands; the operands here are what the rows' rules speak of (DESIGN CHOICE,
notes/assumptions/1.md). A frame body is written field by field with its spare bits, so that every one of its 32 bits
stands in exactly one field and a forwarded frame keeps the bits that no rule changes (R3, R184). -/

namespace Sys2Proof

/-- HEAD body (11.1.1). -/
structure HeadBody where
  source  : BitVec 5
  stream  : BitVec 6
  seq     : BitVec 8
  length  : BitVec 7
  hop     : BitVec 5
  attempt : Bool
  deriving DecidableEq, Repr

/-- DATA body (11.1.1). `spare` are the five spare bits of R3. -/
structure DataBody where
  source : BitVec 5
  index  : BitVec 6
  spare  : BitVec 5
  word   : Halfword
  deriving DecidableEq, Repr

/-- TAIL body (11.1.1). -/
structure TailBody where
  source  : BitVec 5
  seq     : BitVec 8
  attempt : Bool
  accept  : BitVec 5
  held    : BitVec 5
  refused : Bool
  damaged : Bool
  spare   : BitVec 6
  deriving DecidableEq, Repr

/-- CLAIM body (11.1.2): `spareHigh` is bits 28–24, `spareLow` bits 7–0. -/
structure ClaimBody where
  spareHigh : BitVec 5
  mark      : BitVec 16
  spareLow  : BitVec 8
  deriving DecidableEq, Repr

/-- NUMBER body (11.1.2): `spare` is bits 22–0. -/
structure NumberBody where
  count    : BitVec 5
  overfull : Bool
  spare    : BitVec 23
  deriving DecidableEq, Repr

/-- RING_UP body (11.1.2): `spare` is bits 22–16. -/
structure RingUpBody where
  size     : BitVec 5
  overfull : Bool
  spare    : BitVec 7
  hopTime  : BitVec 16
  deriving DecidableEq, Repr

/-- ANNOUNCE body (11.1.2): `spare` is bits 7–5. -/
structure AnnounceBody where
  number : BitVec 5
  mark   : BitVec 16
  spare  : BitVec 3
  hop    : BitVec 5
  deriving DecidableEq, Repr

/-- TRIGGER body (11.1.2): `spare` is bits 20–5. -/
structure TriggerBody where
  source : BitVec 5
  group  : BitVec 3
  spare  : BitVec 16
  hop    : BitVec 5
  deriving DecidableEq, Repr

/-- VOID body (11.1.2): `station` is the detecting station's ring number, `spare` bits 23–5. -/
structure VoidBody where
  station : BitVec 5
  spare   : BitVec 19
  hop     : BitVec 5
  deriving DecidableEq, Repr

/-- DEPART body (11.1.2): `spare` is bits 23–5. -/
structure DepartBody where
  source : BitVec 5
  spare  : BitVec 19
  hop    : BitVec 5
  deriving DecidableEq, Repr

/-- The 40 content bits of a frame as they arrived (R1), and which of its symbols did not decode (R2): the bits of
`undecoded` stand as those of kind, body and check do, bit 39 for the content bit that arrives first and bit 0 for the last,
and a set bit marks a content bit whose symbol did not decode. -/
structure RawFrame where
  kind      : BitVec 2
  body      : BitVec 32
  check     : BitVec 6
  undecoded : BitVec 40
  deriving DecidableEq, Repr

/-- A frame on a link. The structured forms carry the check computed over their content (R2, R184); `raw` is a frame
whose content the station does not read: a bad or malformed frame as it arrived (R8). -/
inductive Frame where
  | head (b : HeadBody)
  | data (b : DataBody)
  | tail (b : TailBody)
  | claim (b : ClaimBody)
  | number (b : NumberBody)
  | ringUp (b : RingUpBody)
  | announce (b : AnnounceBody)
  | trigger (b : TriggerBody)
  | void (b : VoidBody)
  | depart (b : DepartBody)
  | raw (r : RawFrame)
  deriving DecidableEq, Repr

/-- The blocks of which one step can make more than one post events (R171): the send unit, the trigger unit and the
membership unit. -/
inductive Poster where
  | send | trigger | member
  deriving DecidableEq, Repr

/-- When a command happens: its moment (the clock moves on to it, never back), and whose turn each of its simultaneous
postings is. R171: "Either may be taken first"; the sender of the command says which (notes/assumptions/2.md). -/
structure Occasion where
  time  : Time
  order : List Poster
  deriving DecidableEq, Repr

/-- The bus partner's answer: to the presented word, without an error or with one (R144), or to a word whose transfer has
ended by a timeout or a reset (R145). `data` is the read word; for a write word it is not used. -/
inductive BusAnswer where
  | ok (data : Word)
  | error
  | late
  deriving DecidableEq, Repr

/-- The commands: one constructor for each row of spec/opcode_table.json, in the table's order. A row that is one of the
nine host commands stands for the host writing that command's whole record to COMMAND, word after word (R151, R152); a
record whose words other events separate is written with `commandWordCollected`, one word a step. -/
inductive Instr where
  /-- RESET_ASSERTED (R1). -/
  | resetAsserted (o : Occasion)
  /-- RESET_RELEASED (R1). -/
  | resetReleased (o : Occasion)
  /-- LINK_UP (R4). -/
  | linkUp (o : Occasion)
  /-- LINK_LOSS (R4). `truncationFirst`: the truncation of an open record is taken before the census entry (R62, R95). -/
  | linkLoss (o : Occasion) (truncationFirst : Bool)
  /-- FILL (R15). -/
  | fill (o : Occasion)
  /-- BAD_FRAME_ARRIVES (R12). -/
  | badFrameArrives (o : Occasion) (r : RawFrame)
  /-- HEAD_ARRIVES (R17). -/
  | headArrives (o : Occasion) (b : HeadBody)
  /-- DATA_ARRIVES (R16). -/
  | dataArrives (o : Occasion) (b : DataBody)
  /-- TAIL_ARRIVES (R85). -/
  | tailArrives (o : Occasion) (b : TailBody)
  /-- CLAIM_ARRIVES (R32). -/
  | claimArrives (o : Occasion) (b : ClaimBody)
  /-- NUMBER_ARRIVES (R36). -/
  | numberArrives (o : Occasion) (b : NumberBody)
  /-- RING_UP_ARRIVES (R38). -/
  | ringUpArrives (o : Occasion) (b : RingUpBody)
  /-- ANNOUNCE_ARRIVES (R46). -/
  | announceArrives (o : Occasion) (b : AnnounceBody)
  /-- TRIGGER_ARRIVES (R130). -/
  | triggerArrives (o : Occasion) (b : TriggerBody)
  /-- VOID_ARRIVES (R13). -/
  | voidArrives (o : Occasion) (b : VoidBody)
  /-- DEPART_ARRIVES (R27). -/
  | departArrives (o : Occasion) (b : DepartBody)
  /-- OWN_CLAIM_SENT (R31). -/
  | ownClaimSent (o : Occasion)
  /-- OWN_NUMBER_SENT (R35). -/
  | ownNumberSent (o : Occasion)
  /-- OWN_ANNOUNCE_SENT (R47). -/
  | ownAnnounceSent (o : Occasion)
  /-- OWN_DEPART_SENT (R26). -/
  | ownDepartSent (o : Occasion)
  /-- ATTEMPT_BEGINS (R58). -/
  | attemptBegins (o : Occasion)
  /-- OWN_RECORD_FRAME_SENT (R20). -/
  | ownRecordFrameSent (o : Occasion)
  /-- OWN_TRIGGER_SENT (R124). -/
  | ownTriggerSent (o : Occasion)
  /-- BYPASS_BUFFER_FRAME_SENT (R18). -/
  | bypassBufferFrameSent (o : Occasion)
  /-- CENSUS_TIMER_EXPIRES (R40). -/
  | censusTimerExpires (o : Occasion)
  /-- ISOLATION_INTERVAL_EXPIRES (R41). -/
  | isolationIntervalExpires (o : Occasion)
  /-- DEPART_LIMIT_TIMER_EXPIRES (R26). -/
  | departLimitTimerExpires (o : Occasion)
  /-- RETURN_TIMER_EXPIRES (R64). -/
  | returnTimerExpires (o : Occasion)
  /-- RETRY_GAP_TIMER_EXPIRES (R68). -/
  | retryGapTimerExpires (o : Occasion)
  /-- TRIGGER_RETURN_TIMER_EXPIRES (R126). -/
  | triggerReturnTimerExpires (o : Occasion)
  /-- FIRE_DUE (R133). `entry` is the position in the fire schedule: where two due times fall together, either is taken
  first. -/
  | fireDue (o : Occasion) (entry : Nat)
  /-- TRIG_PULSE_TIMER_EXPIRES (R134). -/
  | trigPulseTimerExpires (o : Occasion)
  /-- BUS_TIMEOUT (R145). -/
  | busTimeout (o : Occasion)
  /-- BUS_WORD_ANSWERED (R144). -/
  | busWordAnswered (o : Occasion) (answer : BusAnswer)
  /-- CONFIGURE (R157). -/
  | configure (o : Occasion) (address : Word)
  /-- JOIN (R24). -/
  | join (o : Occasion)
  /-- LEAVE (R25). -/
  | leave (o : Occasion)
  /-- SEND (R52). -/
  | send (o : Occasion) (stream length : BitVec 8) (address : Word) (tag : Halfword)
  /-- CANCEL (R70). -/
  | cancel (o : Occasion) (tag : Halfword)
  /-- TRIGGER (R123). -/
  | trigger (o : Occasion) (group : BitVec 8)
  /-- RELEASE (R114). -/
  | release (o : Occasion) (ring n : BitVec 8)
  /-- RESUME without skip (R112). -/
  | resume (o : Occasion)
  /-- RESUME with skip (R113). -/
  | resumeWithSkip (o : Occasion)
  /-- QUERY COUNTERS (R179). -/
  | queryCounters (o : Occasion)
  /-- QUERY ROSTER (R178). -/
  | queryRoster (o : Occasion)
  /-- QUERY RING (R178). -/
  | queryRing (o : Occasion)
  /-- QUERY QUEUES (R178). -/
  | queryQueues (o : Occasion)
  /-- UNKNOWN_COMMAND (R151): the first word as written. -/
  | unknownCommand (o : Occasion) (word : Halfword)
  /-- COMMAND_WORD_COLLECTED (R152): one word written to COMMAND. -/
  | commandWordCollected (o : Occasion) (word : Halfword)
  /-- COMMAND_CLEAR (R153): the value written. -/
  | commandClear (o : Occasion) (value : Halfword)
  /-- EVENT_READ (R172). -/
  | eventRead (o : Occasion)
  /-- STATION_STATUS_FIRST_READ (R166). -/
  | stationStatusFirstRead (o : Occasion)
  /-- INTERRUPT_ENABLE_WRITE (R175). -/
  | interruptEnableWrite (o : Occasion) (value : Halfword)
  /-- IGNORED_WRITE (R150): the five slave address bits of the window and the value. -/
  | ignoredWrite (o : Occasion) (address : BitVec 5) (value : Halfword)
  /-- OWN_RING_UP_SENT (R37). -/
  | ownRingUpSent (o : Occasion)
  /-- ARRIVING_FRAME_FORWARDED (R19). -/
  | arrivingFrameForwarded (o : Occasion)
  /-- FILL_SYMBOL_ARRIVES (R4). -/
  | fillSymbolArrives (o : Occasion)
  /-- QUERY with a subject that is none of the four (R177). -/
  | querySubjectOutOfRange (o : Occasion) (subject : BitVec 8)
  deriving DecidableEq, Repr

/-- The occasion of a command. -/
def Instr.occasion : Instr → Occasion
  | .resetAsserted o | .resetReleased o | .linkUp o | .linkLoss o _ | .fill o | .badFrameArrives o _
  | .headArrives o _ | .dataArrives o _ | .tailArrives o _ | .claimArrives o _ | .numberArrives o _
  | .ringUpArrives o _ | .announceArrives o _ | .triggerArrives o _ | .voidArrives o _ | .departArrives o _
  | .ownClaimSent o | .ownNumberSent o | .ownAnnounceSent o | .ownDepartSent o | .attemptBegins o
  | .ownRecordFrameSent o | .ownTriggerSent o | .bypassBufferFrameSent o | .censusTimerExpires o
  | .isolationIntervalExpires o | .departLimitTimerExpires o | .returnTimerExpires o | .retryGapTimerExpires o
  | .triggerReturnTimerExpires o | .fireDue o _ | .trigPulseTimerExpires o | .busTimeout o | .busWordAnswered o _
  | .configure o _ | .join o | .leave o | .send o _ _ _ _ | .cancel o _ | .trigger o _ | .release o _ _ | .resume o
  | .resumeWithSkip o | .queryCounters o | .queryRoster o | .queryRing o | .queryQueues o | .unknownCommand o _
  | .commandWordCollected o _ | .commandClear o _ | .eventRead o | .stationStatusFirstRead o
  | .interruptEnableWrite o _ | .ignoredWrite o _ _ | .ownRingUpSent o | .arrivingFrameForwarded o
  | .fillSymbolArrives o | .querySubjectOutOfRange o _ => o

end Sys2Proof
end

