-- ==== Sys2Proof/Decode.lean ====
section
/-! DEFINITION. The 2240 decodes no instruction words: no row of spec/opcode_table.json gives bits. What it does decode, a
frame's 40 content bits and a command record's words, stands in `Machine/Operands.lean` (`RawFrame.arrival`,
`HostCommand.ofWords`). -/

namespace Sys2Proof

/-- The command a word spells by the table's bits: none, since no row of the table has any. -/
def decodeTableWord (_nbits _w : Nat) : Option Instr := none

end Sys2Proof
end

