-- ==== Sys2Proof/Config.lean ====
section
/-! DEFINITION. What is fixed for every 2240. What a CONFIGURE loads is state (R160, R162) and stands in `Machine/State.lean`;
capacities and spans stand with the rules that give them. The spec leaves no result of a command open, so no free value
stands here (NOTES.md). -/

namespace Sys2Proof

/-- The value of IDENT (R150, 11.6). -/
def Config.ident : Halfword := 0x2240#16

end Sys2Proof
end

