-- ==== Sys2Proof/Machine/State.lean ====
section
/-! DEFINITION. The state of the 2240 as plain data, block by block (00_scope.md section 4), its reset values, and the
reasons a step can stop. Each block's structure cites the rule whose table lists its items; INVENTORY.md lists every item
with its rule and its reset value. A timer is `none` when it is stopped and holds the moment it expires when it runs. -/

namespace Sys2Proof.Machine

/-- A timer: stopped, or running until the moment it holds. -/
abbrev Timer := Option Time

/-! ### Names with codes (11.4, 11.5) -/

/-- Station states (2.1). -/
inductive StationState where
  | config | pass | census | run | leaving | isolated | excluded | barred
  deriving DecidableEq, Repr

/-- Census sub-states (2.4). -/
inductive SubState where
  | claiming | deferred | counting | numbered | closing
  deriving DecidableEq, Repr

/-- Causes of a STATE event (R50). -/
inductive StateCause where
  | joined | claimSeen | linkLoss | departSeen | rosterConflict | ringFormed | censusFailed | overfull | markClash | left
  deriving DecidableEq, Repr

/-- The state of the own ANNOUNCE, the own DEPART (R23) and the own trigger (R121). -/
inductive OwnState where
  | none | waiting | sent
  deriving DecidableEq, Repr

/-- Input phases of the forwarding path (1.5). -/
inductive InputPhase where
  | clear | forwarding | returning | orphan
  deriving DecidableEq, Repr

/-- States of the head entry (R51). -/
inductive HeadState where
  | fetching | staged | inFlight | retryWait
  deriving DecidableEq, Repr

/-- Return contexts (3.5). -/
inductive ReturnContext where
  | closed | openCurrent | openHeadless | openStale
  deriving DecidableEq, Repr

/-- Pending dispositions of a FETCHING head (R56). -/
inductive Disposition where
  | cancelled | left
  deriving DecidableEq, Repr

/-- Completion statuses of a send entry (R69). -/
inductive SendStatus where
  | done | refused | damaged | lost | ringLost | fetchFault | cancelled | left
  deriving DecidableEq, Repr

/-- Completion statuses of an own trigger (R136). -/
inductive TriggerStatus where
  | done | lost | ringLost | left
  deriving DecidableEq, Repr

/-- Verdicts of the record filter (R79). -/
inductive Verdict where
  | passing | held | refusing | accepting
  deriving DecidableEq, Repr

/-- States of a receive-store entry (R98). -/
inductive EntryState where
  | filling | complete | delivering
  deriving DecidableEq, Repr

/-- Phases of a delivery (R104). -/
inductive Phase where
  | body | header1 | header0
  deriving DecidableEq, Repr

/-- Causes of a failed transfer (R140). -/
inductive BusCause where
  | error | timeout
  deriving DecidableEq, Repr

/-- Clients of the bus master (R139). -/
inductive Client where
  | loader | fetch | delivery
  deriving DecidableEq, Repr

/-- The halfword order (R147). -/
inductive HalfwordOrder where
  | lowFirst | highFirst
  deriving DecidableEq, Repr

/-- Values of COMMAND STATUS (R154). -/
inductive CommandValue where
  | idle | collecting | ok | busy | full | state | range | noMatch | unknown
  deriving DecidableEq, Repr

/-- Reasons of CONFIG_REJECTED (R161). -/
inductive RejectReason where
  | mark | retryLimit | burstLength | ringSlots | subscriptionCount | subscriptionDuplicate | subscriptionRing
  deriving DecidableEq, Repr

/-- Subjects of QUERY (R177). -/
inductive Subject where
  | counters | roster | ring | queues
  deriving DecidableEq, Repr

/-! ### The event queue block (R167) -/

/-- Event records by kind (9.3), with the values their posting blocks hand over (R168). -/
inductive Event where
  | configured (mark : BitVec 16)
  | configRejected (reason : RejectReason) (index : Nat)
  | configFault (cause : BusCause) (address : Word)
  | stateChange (state : StationState) (cause : StateCause) (ringSize number : BitVec 5) (epoch : BitVec 8)
  | sent (tag : Halfword) (status : SendStatus) (attempts : Nat) (accept held : BitVec 5)
  | delivered (ring : BitVec 2) (slot : Nat) (source : BitVec 5) (stream : BitVec 6) (seq : BitVec 8) (length : BitVec 7)
  | deliveryFault (ring : BitVec 2) (slot : Nat) (address : Word) (cause : BusCause)
  | deliverySkipped (ring : BitVec 2) (slot : Nat) (source : BitVec 5) (stream : BitVec 6) (seq : BitVec 8)
      (length : BitVec 7)
  | triggerDone (group : BitVec 3) (status : TriggerStatus)
  | triggerFired (group : BitVec 3) (source : BitVec 5)
  | triggerMissed (group : BitVec 3) (source : BitVec 5)
  | report (subject : Subject) (contents : List Halfword)
  deriving DecidableEq, Repr

/-- A record that stands in the queue, with the lost count of the moment of its entry (R169). -/
structure EventRecord where
  event      : Event
  lostBefore : BitVec 5
  deriving DecidableEq, Repr

/-- The event queue (R167). `current` are the words of the current event not yet read, empty when there is none;
`whole` are the whole events, oldest first. -/
structure EventQueue where
  current : List Halfword
  whole   : List EventRecord
  lost    : BitVec 5
  enable  : Bool
  deriving DecidableEq, Repr

/-- The eleven station counters, in the order of R181. -/
structure Counters where
  framesVoided    : BitVec 16
  strays          : BitVec 16
  orphans         : BitVec 16
  staleReturns    : BitVec 16
  recordsAccepted : BitVec 16
  recordsHeld     : BitVec 16
  recordsRefused  : BitVec 16
  recordsDamaged  : BitVec 16
  retries         : BitVec 16
  censusEntries   : BitVec 16
  linkLosses      : BitVec 16
  deriving DecidableEq, Repr

/-! ### Ring receiver and forwarding path -/

/-- The ring receiver (R4). Two items are the model's own: `lostAt`, the moment of the link loss since which the link is
DOWN, for the frame that falls together with it (R48); and `nextFrame`, the earliest moment at which one more frame can have
been received, since the receiver delivers at most one frame per frame time (R1). -/
structure Receiver where
  up        : Bool
  lossTimer : Timer
  lostAt    : Option Time
  nextFrame : Time
  deriving DecidableEq, Repr

/-- The frame last started on the ring output: whether it is one of the station's own, and when it ends (R1). -/
structure OutputFrame where
  frame : Frame
  own   : Bool
  ends  : Time
  deriving DecidableEq, Repr

/-- An own record whose HEAD has been sent and whose TAIL has not been started: what its remaining frames carry (R58,
R59). `next` is the index of the next DATA; when it equals the length, the TAIL is next. `payload` is what the staging buffer
held when the HEAD was sent, which R59 keeps for the record until its TAIL has been sent (notes/assumptions/7.md). -/
structure Insertion where
  source  : BitVec 5
  seq     : BitVec 8
  attempt : Bool
  length  : BitVec 7
  payload : List Halfword
  next    : Nat
  deriving DecidableEq, Repr

/-- The forwarding path (1.5 to 1.7): input phase, bypass buffer (oldest first), the arriving frame that waits for the
output (R19), the frame on the output, the own census frame ready at the arbiter (R9), the own record in progress. -/
structure Path where
  phase     : InputPhase
  bypass    : List Frame
  waiting   : Option Frame
  output    : Option OutputFrame
  ownCensus : Option Frame
  insertion : Option Insertion
  deriving DecidableEq, Repr

/-! ### Membership unit (R23) -/

/-- The membership unit (R23) and the configured mark it holds (R160). Entry `n` of the roster is at position `n − 1`. -/
structure Membership where
  station        : StationState
  sub            : Option SubState
  mark           : BitVec 16
  leavePending   : Bool
  claimBegun     : Bool
  provisional    : Option (BitVec 5)
  number         : Option (BitVec 5)
  ringSize       : BitVec 5
  hopTime        : BitVec 16
  pendingSize    : BitVec 5
  pendingHop     : BitVec 16
  epoch          : BitVec 8
  attempts       : Nat
  censusTimer    : Timer
  isolationTimer : Timer
  departTimer    : Timer
  numberSent     : Option Time
  announce       : OwnState
  depart         : OwnState
  roster         : Vector (Option (BitVec 16)) 30
  deriving DecidableEq, Repr

/-! ### Send unit (R51) -/

/-- One entry of the send queue (R51). -/
structure SendEntry where
  stream  : BitVec 6
  length  : BitVec 7
  address : Word
  tag     : Halfword
  deriving DecidableEq, Repr

/-- The send unit (R51) and the configured retry limit it holds (R160). The head entry is the first of `queue`. `incoming` is
the model's own: the halfwords of the head entry's payload that its fetch has read while the staging buffer was still an
earlier record's, to which R59 leaves the buffer until its TAIL has been sent (notes/assumptions/7.md). -/
structure SendUnit where
  queue           : List SendEntry
  head            : Option HeadState
  staging         : List Halfword
  incoming        : List Halfword
  seq             : BitVec 8
  attempt         : Bool
  attempts        : Nat
  returnTimer     : Timer
  gapTimer        : Timer
  cancelRequested : Bool
  disposition     : Option Disposition
  context         : ReturnContext
  nextIndex       : Nat
  fault           : Bool
  accept          : BitVec 5
  held            : BitVec 5
  retryLimit      : Nat
  deriving DecidableEq, Repr

/-! ### Record filter (R75 to R77) -/

/-- The open record context (4.2). The context's store entry is the newest entry of the receive store when the verdict is
ACCEPTING, and none otherwise (R80, R98). -/
structure RecordContext where
  source   : BitVec 5
  stream   : BitVec 6
  seq      : BitVec 8
  attempt  : Bool
  expected : BitVec 7
  next     : Nat
  verdict  : Verdict
  damaged  : Bool
  target   : Option (BitVec 2)
  deriving DecidableEq, Repr

/-- The record filter: subscription table (R75), duplicate table (R76, entry `n` at position `n − 1`) and record context
(R77, `none` when CLOSED). -/
structure Filter where
  subscriptions : List (BitVec 6 × BitVec 2)
  duplicates    : Vector (Option (BitVec 8)) 30
  context       : Option RecordContext
  deriving DecidableEq, Repr

/-! ### Receive store and delivery engine -/

/-- One entry of the receive store (R99). `payload` holds the halfwords copied so far, index 0 first. -/
structure StoreEntry where
  state   : EntryState
  source  : BitVec 5
  stream  : BitVec 6
  seq     : BitVec 8
  length  : BitVec 7
  ring    : BitVec 2
  epoch   : BitVec 8
  payload : List Halfword
  deriving DecidableEq, Repr

/-- One delivery ring descriptor (R101, R102). -/
structure DeliveryRing where
  base       : Word
  slots      : Nat
  writeIndex : Nat
  filled     : Nat
  reserved   : Nat
  delivered  : BitVec 16
  deriving DecidableEq, Repr

/-- The engine state with what it holds (R104). -/
inductive Engine where
  | idle
  | delivering (phase : Phase) (ring : BitVec 2) (slot : Nat)
  | halted (ring : BitVec 2) (slot : Nat)
  deriving DecidableEq, Repr

/-- The receive store, oldest entry first (R98), and the delivery engine with its four rings (R101, R104). -/
structure Delivery where
  store  : List StoreEntry
  rings  : Vector DeliveryRing 4
  engine : Engine
  deriving DecidableEq, Repr

/-! ### Trigger unit (R121) -/

/-- One entry of the fire schedule (R132). -/
structure Fire where
  group  : BitVec 3
  source : BitVec 5
  due    : Time
  deriving DecidableEq, Repr

/-- The trigger unit (R121). Bit `g` of `membership` is the flag of group `g`. -/
structure TriggerUnit where
  own         : OwnState
  group       : Option (BitVec 3)
  returnTimer : Timer
  membership  : BitVec 8
  schedule    : List Fire
  pulseTimer  : Timer
  pin         : Bool
  deriving DecidableEq, Repr

/-! ### Bus master (R138) -/

/-- A standing request (R138): direction, start address, word count, and how many of its words lie before its next word. -/
structure Request where
  write : Bool
  start : Word
  words : Nat
  done  : Nat
  deriving DecidableEq, Repr

/-- The current burst (R138). -/
structure Burst where
  client   : Client
  write    : Bool
  first    : Word
  words    : Nat
  answered : Nat
  deriving DecidableEq, Repr

/-- The bus master (R138). `lastGrant` is never the loader (R142). -/
structure BusMaster where
  loader      : Option Request
  fetch       : Option Request
  delivery    : Option Request
  burst       : Option Burst
  lastGrant   : Option Client
  timeout     : Timer
  burstLength : Nat
  order       : HalfwordOrder
  deriving DecidableEq, Repr

/-! ### Host port (R149) -/

/-- A partly collected command (R149): its code, its count and its words so far. -/
structure Collector where
  code  : BitVec 8
  count : Nat
  words : List Halfword
  deriving DecidableEq, Repr

/-- COMMAND STATUS (R154): a value, a command code and the words so far. -/
structure CommandStatus where
  value : CommandValue
  code  : BitVec 8
  words : Nat
  deriving DecidableEq, Repr

/-- The host port (R149). `readData` is the model's own: the halfword that the last read of the window returned. -/
structure HostPort where
  collector   : Option Collector
  status      : CommandStatus
  loading     : Bool
  loadAddress : Option Word
  loadBuffer  : List Word
  capture     : Halfword
  readData    : Halfword
  deriving DecidableEq, Repr

/-! ### The whole machine -/

/-- A frame that the ring output has sent, and the moment of its first bit (R1). -/
structure SentFrame where
  frame : Frame
  start : Time
  deriving DecidableEq, Repr

/-- What the outside world has received, kept by the model and by no block: the frames sent on the ring output in order
(at every other moment the output sends fill), and the words of local memory that the controller has written, with rising
word addresses. -/
structure Outside where
  ringOut : List SentFrame
  written : List (Nat × Word)
  deriving DecidableEq, Repr

/-- The state of the 2240. `resetPin` is the RESET pin (true while asserted). The model's own fields are `pending`, the queue
of commands; `now`, the clock; `order`, the turns of simultaneous postings that the present command's occasion carries;
and `outside`. -/
structure State where
  resetPin : Bool
  receiver : Receiver
  path     : Path
  member   : Membership
  send     : SendUnit
  filter   : Filter
  delivery : Delivery
  trigger  : TriggerUnit
  bus      : BusMaster
  host     : HostPort
  events   : EventQueue
  counters : Counters
  outside  : Outside
  now      : Time
  order    : List Poster
  pending  : List Instr
  deriving DecidableEq, Repr

/-- Why a step can stop with a fault. -/
inductive Fault where
  /-- A frame would join the bypass buffer while it holds 72 frames, its whole capacity (R18). Raised by the steps in which
  a frame arrives. R18 says the buffer never holds more than 66 frames, and `State.PathSound` says the same of every state
  with the invariant, so no run reaches it. Safe: the model stops where the hardware never is. -/
  | bypassOverrun
  deriving DecidableEq, Repr

/-- Why a step can be refused. -/
inductive Refusal where
  /-- The command has no meaning yet. Raised by no arm of `exec`: every command has its meaning. Safe. -/
  | notModelled (mnemonic : String)
  deriving DecidableEq, Repr

/-! ### Reset values -/

def EventQueue.atReset : EventQueue := { current := [], whole := [], lost := 0, enable := false }

def Counters.zero : Counters :=
  { framesVoided := 0, strays := 0, orphans := 0, staleReturns := 0, recordsAccepted := 0, recordsHeld := 0,
    recordsRefused := 0, recordsDamaged := 0, retries := 0, censusEntries := 0, linkLosses := 0 }

def Receiver.atReset : Receiver := { up := false, lossTimer := none, lostAt := none, nextFrame := 0 }

def Path.atReset : Path :=
  { phase := .clear, bypass := [], waiting := none, output := none, ownCensus := none, insertion := none }

def Membership.atReset : Membership :=
  { station := .config, sub := none, mark := 0, leavePending := false, claimBegun := false, provisional := none,
    number := none, ringSize := 0, hopTime := 0, pendingSize := 0, pendingHop := 0, epoch := 0, attempts := 0,
    censusTimer := none, isolationTimer := none, departTimer := none, numberSent := none, announce := .none,
    depart := .none, roster := Vector.replicate 30 none }

def SendUnit.atReset : SendUnit :=
  { queue := [], head := none, staging := [], incoming := [], seq := 0, attempt := false, attempts := 0,
    returnTimer := none, gapTimer := none, cancelRequested := false, disposition := none, context := .closed,
    nextIndex := 0, fault := false, accept := 0, held := 0, retryLimit := 0 }

def Filter.atReset : Filter := { subscriptions := [], duplicates := Vector.replicate 30 none, context := none }

def DeliveryRing.atReset : DeliveryRing :=
  { base := 0, slots := 0, writeIndex := 0, filled := 0, reserved := 0, delivered := 0 }

def Delivery.atReset : Delivery := { store := [], rings := Vector.replicate 4 DeliveryRing.atReset, engine := .idle }

def TriggerUnit.atReset : TriggerUnit :=
  { own := .none, group := none, returnTimer := none, membership := 0, schedule := [], pulseTimer := none, pin := false }

def BusMaster.atReset : BusMaster :=
  { loader := none, fetch := none, delivery := none, burst := none, lastGrant := none, timeout := none, burstLength := 1,
    order := .lowFirst }

def HostPort.atReset : HostPort :=
  { collector := none, status := { value := .idle, code := 0, words := 0 }, loading := false, loadAddress := none,
    loadBuffer := [], capture := 0, readData := 0 }

/-- The machine right after reset: RESET released, every block at its reset values (R1, R4, R15, R18, R23, R51, R75 to
R77, R98, R101, R104, R121, R138, R149, R167), nothing sent, nothing written, no command waiting. -/
def State.reset : State :=
  { resetPin := false, receiver := .atReset, path := .atReset, member := .atReset, send := .atReset, filter := .atReset,
    delivery := .atReset, trigger := .atReset, bus := .atReset, host := .atReset, events := .atReset, counters := .zero,
    outside := { ringOut := [], written := [] }, now := 0, order := [], pending := [] }

end Sys2Proof.Machine
end

