-- ==== Sys2Proof/Machine/Operands.lean ====
section
/-! DEFINITION. The formats that carry operands (chapter 11): the frames of a link with their check (11.1, R2, R3, R184),
the command records (11.5) and the configuration record (11.2, R185). -/

namespace Sys2Proof

/-! ### The frame check (R184) -/

/-- One step of the division modulo 2 by x^6 + x + 1: the remainder takes in the next coefficient of the dividend. -/
def checkStep (remainder : BitVec 6) (bit : Bool) : BitVec 6 :=
  let shifted : BitVec 6 := remainder.extractLsb' 0 5 ++ BitVec.ofBool bit
  if remainder.getLsbD 5 then shifted ^^^ 3#6 else shifted

/-- The check of R184: the remainder of kind and body followed by six zero bits, first bit sent first, from zero. -/
def frameCheck (kind : BitVec 2) (body : BitVec 32) : BitVec 6 :=
  let dividend : BitVec 40 := kind ++ body ++ 0#6
  (List.range 40).foldl (fun r i => checkStep r (dividend.getMsbD i)) 0

/-! ### Bodies (11.1.1, 11.1.2) -/

def HeadBody.bits (b : HeadBody) : BitVec 32 :=
  b.source ++ b.stream ++ b.seq ++ b.length ++ b.hop ++ BitVec.ofBool b.attempt

def HeadBody.ofBits (w : BitVec 32) : HeadBody :=
  { source := w.extractLsb' 27 5, stream := w.extractLsb' 21 6, seq := w.extractLsb' 13 8, length := w.extractLsb' 6 7,
    hop := w.extractLsb' 1 5, attempt := w.getLsbD 0 }

def DataBody.bits (b : DataBody) : BitVec 32 := b.source ++ b.index ++ b.spare ++ b.word

def DataBody.ofBits (w : BitVec 32) : DataBody :=
  { source := w.extractLsb' 27 5, index := w.extractLsb' 21 6, spare := w.extractLsb' 16 5, word := w.extractLsb' 0 16 }

def TailBody.bits (b : TailBody) : BitVec 32 :=
  b.source ++ b.seq ++ BitVec.ofBool b.attempt ++ b.accept ++ b.held ++ BitVec.ofBool b.refused ++
    BitVec.ofBool b.damaged ++ b.spare

def TailBody.ofBits (w : BitVec 32) : TailBody :=
  { source := w.extractLsb' 27 5, seq := w.extractLsb' 19 8, attempt := w.getLsbD 18, accept := w.extractLsb' 13 5,
    held := w.extractLsb' 8 5, refused := w.getLsbD 7, damaged := w.getLsbD 6, spare := w.extractLsb' 0 6 }

def ClaimBody.bits (b : ClaimBody) : BitVec 32 := 0#3 ++ b.spareHigh ++ b.mark ++ b.spareLow

def ClaimBody.ofBits (w : BitVec 32) : ClaimBody :=
  { spareHigh := w.extractLsb' 24 5, mark := w.extractLsb' 8 16, spareLow := w.extractLsb' 0 8 }

def NumberBody.bits (b : NumberBody) : BitVec 32 := 1#3 ++ b.count ++ BitVec.ofBool b.overfull ++ b.spare

def NumberBody.ofBits (w : BitVec 32) : NumberBody :=
  { count := w.extractLsb' 24 5, overfull := w.getLsbD 23, spare := w.extractLsb' 0 23 }

def RingUpBody.bits (b : RingUpBody) : BitVec 32 :=
  2#3 ++ b.size ++ BitVec.ofBool b.overfull ++ b.spare ++ b.hopTime

def RingUpBody.ofBits (w : BitVec 32) : RingUpBody :=
  { size := w.extractLsb' 24 5, overfull := w.getLsbD 23, spare := w.extractLsb' 16 7, hopTime := w.extractLsb' 0 16 }

def AnnounceBody.bits (b : AnnounceBody) : BitVec 32 := 3#3 ++ b.number ++ b.mark ++ b.spare ++ b.hop

def AnnounceBody.ofBits (w : BitVec 32) : AnnounceBody :=
  { number := w.extractLsb' 24 5, mark := w.extractLsb' 8 16, spare := w.extractLsb' 5 3, hop := w.extractLsb' 0 5 }

def TriggerBody.bits (b : TriggerBody) : BitVec 32 := 4#3 ++ b.source ++ b.group ++ b.spare ++ b.hop

def TriggerBody.ofBits (w : BitVec 32) : TriggerBody :=
  { source := w.extractLsb' 24 5, group := w.extractLsb' 21 3, spare := w.extractLsb' 5 16, hop := w.extractLsb' 0 5 }

def VoidBody.bits (b : VoidBody) : BitVec 32 := 5#3 ++ b.station ++ b.spare ++ b.hop

def VoidBody.ofBits (w : BitVec 32) : VoidBody :=
  { station := w.extractLsb' 24 5, spare := w.extractLsb' 5 19, hop := w.extractLsb' 0 5 }

def DepartBody.bits (b : DepartBody) : BitVec 32 := 6#3 ++ b.source ++ b.spare ++ b.hop

def DepartBody.ofBits (w : BitVec 32) : DepartBody :=
  { source := w.extractLsb' 24 5, spare := w.extractLsb' 5 19, hop := w.extractLsb' 0 5 }

/-! ### Whole frames -/

/-- A frame of this kind and body with the check a sender computes (R2). -/
def RawFrame.checked (kind : BitVec 2) (body : BitVec 32) : RawFrame :=
  { kind := kind, body := body, check := frameCheck kind body, undecoded := 0 }

/-- The 40 content bits a station sends for a frame (11.1, R184). -/
def Frame.content : Frame → RawFrame
  | .head b => .checked 0 b.bits
  | .data b => .checked 1 b.bits
  | .tail b => .checked 2 b.bits
  | .claim b => .checked 3 b.bits
  | .number b => .checked 3 b.bits
  | .ringUp b => .checked 3 b.bits
  | .announce b => .checked 3 b.bits
  | .trigger b => .checked 3 b.bits
  | .void b => .checked 3 b.bits
  | .depart b => .checked 3 b.bits
  | .raw r => r

/-- A bad frame (R2): a symbol of it does not decode, or its check is not the computed one. -/
def RawFrame.bad (r : RawFrame) : Bool := r.undecoded != 0 || r.check != frameCheck r.kind r.body

/-- The 40 content bits in the order in which a link carries them: kind, body, check, each most significant bit first (R1,
R184). -/
def RawFrame.sequence (r : RawFrame) : List Bool :=
  (List.range 40).map (fun i => (r.kind ++ r.body ++ r.check : BitVec 40).getMsbD i)

/-- The number whose bits are these, most significant bit first. -/
def bitsOf {w : Nat} (l : List Bool) : BitVec w := l.foldl BitVec.shiftConcat 0

/-- The content taken from a link, bit by bit in the order of `RawFrame.sequence` (R184). -/
def RawFrame.ofSequence (bits : List Bool) (undecoded : BitVec 40) : RawFrame :=
  { kind := bitsOf (bits.take 2), body := bitsOf ((bits.drop 2).take 32), check := bitsOf ((bits.drop 34).take 6),
    undecoded := undecoded }

/-- A content bit occupies a link for 20 ns, at 50 Mbit/s (R1). -/
def bitTime : Time := 2

/-- How long the link has carried no decodable symbol when the frame's last bit has arrived: the content bits after the last
one that decoded; `none` where none of the frame's symbols decoded (R1, R4). -/
def RawFrame.silence (r : RawFrame) : Option Time :=
  ((List.range 40).find? (fun i => !r.undecoded.getLsbD i)).map (bitTime * ·)

/-- The frame the ring receiver reads from 40 content bits (R2, 11.1); what is bad, or a CTRL frame whose code is not one
of the seven, stays `raw`. -/
def RawFrame.read (r : RawFrame) : Frame :=
  if r.bad then .raw r
  else match r.kind.toNat, (r.body.extractLsb' 29 3).toNat with
    | 0, _ => .head (.ofBits r.body)
    | 1, _ => .data (.ofBits r.body)
    | 2, _ => .tail (.ofBits r.body)
    | _, 0 => .claim (.ofBits r.body)
    | _, 1 => .number (.ofBits r.body)
    | _, 2 => .ringUp (.ofBits r.body)
    | _, 3 => .announce (.ofBits r.body)
    | _, 4 => .trigger (.ofBits r.body)
    | _, 5 => .void (.ofBits r.body)
    | _, 6 => .depart (.ofBits r.body)
    | _, _ => .raw r

/-- A ring number field outside 1 to 30. -/
def noRingNumber (n : BitVec 5) : Bool := n == 0 || n == 31

/-- The frames the forwarding path handles as bad frames: the malformed ones of R3, and `raw` ones. -/
def Frame.unusable : Frame → Bool
  | .head b => noRingNumber b.source || decide (64 < b.length.toNat)
  | .data b => noRingNumber b.source
  | .tail b => noRingNumber b.source
  | .claim b => b.mark == 0
  | .number b => b.count == 0
  | .ringUp b => noRingNumber b.size
  | .announce b => noRingNumber b.number || b.mark == 0
  | .trigger b => noRingNumber b.source
  | .void b => noRingNumber b.station
  | .depart b => noRingNumber b.source
  | .raw _ => true

/-- A CLAIM. -/
def Frame.isClaim : Frame → Bool
  | .claim _ => true
  | _ => false

/-- A NUMBER. -/
def Frame.isNumber : Frame → Bool
  | .number _ => true
  | _ => false

/-- A RING_UP. -/
def Frame.isRingUp : Frame → Bool
  | .ringUp _ => true
  | _ => false

/-- The command that the arrival of 40 content bits is: the ring receiver's judgment of R2 and R3. -/
def RawFrame.arrival (o : Occasion) (r : RawFrame) : Instr :=
  let f := r.read
  if f.unusable then .badFrameArrives o r
  else match f with
    | .head b => .headArrives o b
    | .data b => .dataArrives o b
    | .tail b => .tailArrives o b
    | .claim b => .claimArrives o b
    | .number b => .numberArrives o b
    | .ringUp b => .ringUpArrives o b
    | .announce b => .announceArrives o b
    | .trigger b => .triggerArrives o b
    | .void b => .voidArrives o b
    | .depart b => .departArrives o b
    | .raw _ => .badFrameArrives o r

/-! ### Command records (11.5) -/

/-- The nine host commands with their parameters as their fields carry them (8.3, 11.5). -/
inductive HostCommand where
  | configure (address : Word)
  | join
  | leave
  | send (stream length : BitVec 8) (address : Word) (tag : Halfword)
  | cancel (tag : Halfword)
  | trigger (group : BitVec 8)
  | release (ring n : BitVec 8)
  | resume (skip : Bool)
  | query (subject : BitVec 8)
  deriving DecidableEq, Repr

/-- The command codes (11.5). -/
def HostCommand.code : HostCommand → BitVec 8
  | .configure _ => 1 | .join => 2 | .leave => 3 | .send _ _ _ _ => 4 | .cancel _ => 5 | .trigger _ => 6 | .release _ _ => 7
  | .resume _ => 8 | .query _ => 9

/-- The first word of a command record: code in bits 15–8, count in bits 3–0. -/
def firstWord (code : BitVec 8) (count : BitVec 4) : Halfword := code ++ 0#4 ++ count

def highHalf (w : Word) : Halfword := w.extractLsb' 16 16

def lowHalf (w : Word) : Halfword := w.extractLsb' 0 16

/-- The words of a command record, as the host writes them (11.5). -/
def HostCommand.words : HostCommand → List Halfword
  | .configure a => [firstWord 1 3, highHalf a, lowHalf a]
  | .join => [firstWord 2 1]
  | .leave => [firstWord 3 1]
  | .send stream length a tag => [firstWord 4 5, length ++ stream, highHalf a, lowHalf a, tag]
  | .cancel tag => [firstWord 5 2, tag]
  | .trigger group => [firstWord 6 2, 0#8 ++ group]
  | .release ring n => [firstWord 7 2, n ++ ring]
  | .resume skip => [firstWord 8 2, 0#15 ++ BitVec.ofBool skip]
  | .query subject => [firstWord 9 2, 0#8 ++ subject]

/-- The code of a first word. -/
def wordCode (w : Halfword) : BitVec 8 := w.extractLsb' 8 8

/-- The count of a first word. -/
def wordCount (w : Halfword) : Nat := (w.extractLsb' 0 4).toNat

def lowByte (w : Halfword) : BitVec 8 := w.extractLsb' 0 8

def highByte (w : Halfword) : BitVec 8 := w.extractLsb' 8 8

/-- The count of words that a code's record holds; `none` for a code that is no command (8.3, R151). -/
def codeCount (code : BitVec 8) : Option Nat :=
  match code.toNat with
  | 1 => some 3
  | 2 => some 1
  | 3 => some 1
  | 4 => some 5
  | 5 => some 2
  | 6 => some 2
  | 7 => some 2
  | 8 => some 2
  | 9 => some 2
  | _ => none

/-- The command that a whole record spells, with bits of no field ignored (R155); `none` for a list of words that is no
whole record. -/
def HostCommand.ofWords (code : BitVec 8) (words : List Halfword) : Option HostCommand :=
  match code.toNat, words with
  | 1, [_, a, b] => some (.configure (a ++ b))
  | 2, [_] => some .join
  | 3, [_] => some .leave
  | 4, [_, p, a, b, tag] => some (.send (lowByte p) (highByte p) (a ++ b) tag)
  | 5, [_, tag] => some (.cancel tag)
  | 6, [_, p] => some (.trigger (lowByte p))
  | 7, [_, p] => some (.release (lowByte p) (highByte p))
  | 8, [_, p] => some (.resume (p.getLsbD 0))
  | 9, [_, p] => some (.query (lowByte p))
  | _, _ => none

/-- QUERY's subject codes (11.4). -/
def Subject.ofByte (b : BitVec 8) : Option Machine.Subject :=
  match b.toNat with
  | 0 => some .counters
  | 1 => some .roster
  | 2 => some .ring
  | 3 => some .queues
  | _ => none

/-! ### The configuration record (11.2, R185) -/

/-- Word `k` of a configuration record. -/
def recordWord (words : List Word) (k : Nat) : Word := words.getD k 0

def recordMark (words : List Word) : BitVec 16 := (recordWord words 0).extractLsb' 0 16

def recordRetryLimit (words : List Word) : Nat := ((recordWord words 1).extractLsb' 0 8).toNat

def recordBurstLength (words : List Word) : Nat := ((recordWord words 1).extractLsb' 8 8).toNat

def recordOrder (words : List Word) : Machine.HalfwordOrder :=
  if (recordWord words 1).getLsbD 16 then .highFirst else .lowFirst

def recordMembership (words : List Word) : BitVec 8 := (recordWord words 2).extractLsb' 0 8

def recordSubscriptionCount (words : List Word) : Nat := ((recordWord words 3).extractLsb' 0 8).toNat

/-- The base address of ring `r`, its two least significant bits taken as zero (R160). -/
def recordBase (words : List Word) (r : Nat) : Word := (recordWord words (4 + 2 * r)).extractLsb' 2 30 ++ 0#2

def recordSlots (words : List Word) (r : Nat) : Nat := ((recordWord words (5 + 2 * r)).extractLsb' 0 16).toNat

/-- The halfword of subscription entry `j`. -/
def recordEntry (words : List Word) (j : Nat) : Halfword :=
  if j % 2 = 0 then lowHalf (recordWord words (12 + j / 2)) else highHalf (recordWord words (12 + j / 2))

/-- Subscription entry `j`: stream in bits 5–0, ring in bits 9–8. -/
def recordSubscription (words : List Word) (j : Nat) : BitVec 6 × BitVec 2 :=
  ((recordEntry words j).extractLsb' 0 6, (recordEntry words j).extractLsb' 8 2)

/-- The used subscription entries: positions below the subscription count (R160). -/
def recordSubscriptions (words : List Word) : List (BitVec 6 × BitVec 2) :=
  (List.range (recordSubscriptionCount words)).map (recordSubscription words)

end Sys2Proof
end

