-- ==== Sys2Proof/Machine/Flags.lean ====
section
/-! DEFINITION. The words software reads: the codes of 11.4 and 11.5, the words of event records and reports (R168, R178,
R187), COMMAND STATUS, EVENT STATUS and STATION STATUS (R165, R173, 11.5, 11.6), and the INT pin (R175). -/

namespace Sys2Proof.Machine

/-! ### Codes (11.4, 11.5) -/

def StationState.code : StationState → BitVec 8
  | .config => 0 | .pass => 1 | .census => 2 | .run => 3 | .leaving => 4 | .isolated => 5 | .excluded => 6 | .barred => 7

/-- The code of the census sub-state, 0 for none. -/
def subStateCode : Option SubState → BitVec 8
  | none => 0
  | some .claiming => 1 | some .deferred => 2 | some .counting => 3 | some .numbered => 4 | some .closing => 5

def StateCause.code : StateCause → BitVec 8
  | .joined => 1 | .claimSeen => 2 | .linkLoss => 3 | .departSeen => 4 | .rosterConflict => 5 | .ringFormed => 6
  | .censusFailed => 7 | .overfull => 8 | .markClash => 9 | .left => 10

def SendStatus.code : SendStatus → BitVec 8
  | .done => 0 | .refused => 1 | .damaged => 2 | .lost => 3 | .ringLost => 4 | .fetchFault => 5 | .cancelled => 6
  | .left => 7

def TriggerStatus.code : TriggerStatus → BitVec 8
  | .done => 0 | .lost => 3 | .ringLost => 4 | .left => 7

/-- The code of the head state, 0 for none. -/
def headStateCode : Option HeadState → BitVec 8
  | none => 0
  | some .fetching => 1 | some .staged => 2 | some .inFlight => 3 | some .retryWait => 4

def Engine.code : Engine → BitVec 2
  | .idle => 0 | .delivering _ _ _ => 1 | .halted _ _ => 2

def BusCause.code : BusCause → BitVec 4
  | .error => 1 | .timeout => 2

def RejectReason.code : RejectReason → BitVec 8
  | .mark => 1 | .retryLimit => 2 | .burstLength => 3 | .ringSlots => 4 | .subscriptionCount => 5
  | .subscriptionDuplicate => 6 | .subscriptionRing => 7

def Subject.code : Subject → BitVec 8
  | .counters => 0 | .roster => 1 | .ring => 2 | .queues => 3

def CommandValue.code : CommandValue → BitVec 4
  | .idle => 0 | .collecting => 1 | .ok => 2 | .busy => 3 | .full => 4 | .state => 5 | .range => 6 | .noMatch => 7
  | .unknown => 8

/-! ### Event records (11.4) -/

def Event.kind : Event → BitVec 4
  | .configured _ => 1 | .configRejected _ _ => 2 | .configFault _ _ => 3 | .stateChange _ _ _ _ _ => 4
  | .sent _ _ _ _ _ => 5 | .delivered _ _ _ _ _ _ => 6 | .deliveryFault _ _ _ _ => 7 | .deliverySkipped _ _ _ _ _ _ => 8
  | .triggerDone _ _ => 9 | .triggerFired _ _ => 10 | .triggerMissed _ _ => 11 | .report _ _ => 12

/-- A halfword of two bytes, bits 15–8 first. -/
def bytes (high low : BitVec 8) : Halfword := high ++ low

/-- A byte holding a field narrower than it, unused bits zero (R187). -/
def byte {w : Nat} (field : BitVec w) : BitVec 8 := field.setWidth 8

/-- The three words after the first of a DELIVERED or DELIVERY_SKIPPED record. -/
def slotWords (ring : BitVec 2) (slot : Nat) (source : BitVec 5) (stream : BitVec 6) (seq : BitVec 8)
    (length : BitVec 7) : List Halfword :=
  [bytes (BitVec.ofNat 8 slot) (byte ring), bytes (byte stream) (byte source), bytes (byte length) seq]

/-- The words of a record after the first (11.4). -/
def Event.fields : Event → List Halfword
  | .configured mark => [mark]
  | .configRejected reason index => [bytes (BitVec.ofNat 8 index) reason.code]
  | .configFault cause address => [bytes 0 (byte cause.code), highHalf address, lowHalf address]
  | .stateChange state cause ringSize number epoch =>
    [bytes cause.code state.code, bytes (byte number) (byte ringSize), bytes 0 epoch]
  | .sent tag status attempts accept held =>
    [tag, bytes (BitVec.ofNat 8 attempts) status.code, bytes (byte held) (byte accept)]
  | .delivered ring slot source stream seq length => slotWords ring slot source stream seq length
  | .deliveryFault ring slot address cause =>
    [cause.code ++ (0#2 ++ ring) ++ BitVec.ofNat 8 slot, highHalf address, lowHalf address]
  | .deliverySkipped ring slot source stream seq length => slotWords ring slot source stream seq length
  | .triggerDone group status => [bytes status.code (byte group)]
  | .triggerFired group source => [bytes (byte source) (byte group)]
  | .triggerMissed group source => [bytes (byte source) (byte group)]
  | .report subject contents => bytes 0 subject.code :: contents

/-- The length of a record in event words, first word included (R168). -/
def Event.length (e : Event) : Nat := e.fields.length + 1

/-- The first word of a record, or the NONE word: kind, zero, length, lost-before count (11.4). -/
def eventFirstWord (kind : BitVec 4) (length : Nat) (lost : BitVec 5) : Halfword :=
  kind ++ 0#1 ++ BitVec.ofNat 6 length ++ lost

/-- All words of a record that stands in the queue. -/
def EventRecord.words (r : EventRecord) : List Halfword :=
  eventFirstWord r.event.kind r.event.length r.lostBefore :: r.event.fields

/-- The words used by the event queue (R167). -/
def EventQueue.used (q : EventQueue) : Nat := q.current.length + (q.whole.map (fun r => r.event.length)).sum

/-- The free words: 128 less the words used (R167). -/
def EventQueue.free (q : EventQueue) : Nat := 128 - q.used

/-- The INT pin, true while asserted: the enable is set, a whole event waits and RESET is not asserted (R175). -/
def State.intPin (s : State) : Bool := !s.resetPin && s.events.enable && !s.events.whole.isEmpty

/-! ### Reports (R178) -/

/-- The counters in the order of R181. -/
def Counters.words (c : Counters) : List Halfword :=
  [c.framesVoided, c.strays, c.orphans, c.staleReturns, c.recordsAccepted, c.recordsHeld, c.recordsRefused,
   c.recordsDamaged, c.retries, c.censusEntries, c.linkLosses]

/-- The places a store entry holds (R98). -/
def StoreEntry.places (e : StoreEntry) : Nat := e.length.toNat + 1

/-- The places used of the receive store (R98). -/
def placesUsed (store : List StoreEntry) : Nat := (store.map StoreEntry.places).sum

/-- The contents of a report after its second word (R178, 11.4). -/
def reportContents (subject : Subject) (s : State) : List Halfword :=
  match subject with
  | .counters => s.counters.words
  | .roster => s.member.roster.toList.map (fun e => e.getD 0)
  | .ring =>
    [bytes (subStateCode s.member.sub) s.member.station.code,
     bytes (byte (s.member.number.getD 0)) (byte s.member.ringSize), s.member.hopTime,
     bytes (BitVec.ofNat 8 s.member.attempts) s.member.epoch]
  | .queues =>
    bytes (headStateCode s.send.head) (BitVec.ofNat 8 s.send.queue.length) ::
      BitVec.ofNat 16 (placesUsed s.delivery.store) ::
        s.delivery.rings.toList.map (fun r => bytes (BitVec.ofNat 8 r.reserved) (BitVec.ofNat 8 r.filled))

/-! ### Status registers (11.5, 11.6) -/

def CommandStatus.word (c : CommandStatus) : Halfword := c.code ++ BitVec.ofNat 4 c.words ++ c.value.code

/-- EVENT STATUS (R173): 63 is shown for 63 or 64 whole events. -/
def EventQueue.status (q : EventQueue) : Halfword :=
  q.lost ++ BitVec.ofNat 5 q.current.length ++ BitVec.ofNat 6 (min q.whole.length 63)

/-- STATION STATUS, first halfword (R165, 11.6). -/
def State.statusFirst (s : State) : Halfword :=
  s.member.number.getD 0 ++ s.member.ringSize ++ (subStateCode s.member.sub).setWidth 3 ++
    s.member.station.code.setWidth 3

/-- STATION STATUS, second halfword as it stands (R165, 11.6); the window shows the capture (R166). -/
def State.statusSecond (s : State) : Halfword :=
  BitVec.ofNat 5 s.send.queue.length ++ s.delivery.engine.code ++ BitVec.ofBool s.host.loading ++ s.member.epoch

end Sys2Proof.Machine
end

