-- ==== Sys2Proof/Machine/Ops.lean ====
section
/-! DEFINITION. The named operations shared by all blocks: the clock and the timers' spans (00_scope.md section 7), the
station counters (R181), posting to the event queue (R169 to R171), the tables and the forwarding mode. The ring output and
the passing of time stand in `Machine/Output.lean`. A block has no exception entry (the row's cut): raising an event record
or the INT pin is what stands here in its place. -/

namespace Sys2Proof.Machine

/-! ### Clock and timers -/

/-- A span of microseconds in units of 10 ns. -/
def micros (n : Nat) : Time := 100 * n

/-- A frame occupies a link for 0.8 µs (R1). -/
def frameTime : Time := 80

/-- 32 µs (R4). -/
def linkLossSpan : Time := micros 32

/-- The census timer, 2 ms (R31). -/
def censusSpan : Time := micros 2000

/-- The isolation interval timer, 64 ms (R41). -/
def isolationSpan : Time := micros 64000

/-- The DEPART limit timer, 2 ms (R26). -/
def departSpan : Time := micros 2000

/-- The record return timer, 2 ms (R58). -/
def returnSpan : Time := micros 2000

/-- The retry-gap timer, 64 µs (R68). -/
def gapSpan : Time := micros 64

/-- The trigger return timer, 2 ms (R123). -/
def triggerReturnSpan : Time := micros 2000

/-- The TRIG pulse timer, 1 µs (R133). -/
def pulseSpan : Time := micros 1

/-- The bus timeout timer, 64 µs (R145). -/
def busTimeoutSpan : Time := micros 64

/-- A timer started at this moment. -/
def State.timer (s : State) (span : Time) : Timer := some (s.now + span)

/-! ### Station counters (R181) -/

/-- One more, stopping at the maximum. -/
def saturatingInc {w : Nat} (c : BitVec w) : BitVec w := if c = BitVec.allOnes w then c else c + 1

def State.countVoided (s : State) : State :=
  { s with counters := { s.counters with framesVoided := saturatingInc s.counters.framesVoided } }

def State.countStray (s : State) : State :=
  { s with counters := { s.counters with strays := saturatingInc s.counters.strays } }

def State.countOrphan (s : State) : State :=
  { s with counters := { s.counters with orphans := saturatingInc s.counters.orphans } }

def State.countStale (s : State) : State :=
  { s with counters := { s.counters with staleReturns := saturatingInc s.counters.staleReturns } }

def State.countAccepted (s : State) : State :=
  { s with counters := { s.counters with recordsAccepted := saturatingInc s.counters.recordsAccepted } }

def State.countHeld (s : State) : State :=
  { s with counters := { s.counters with recordsHeld := saturatingInc s.counters.recordsHeld } }

def State.countRefused (s : State) : State :=
  { s with counters := { s.counters with recordsRefused := saturatingInc s.counters.recordsRefused } }

def State.countDamaged (s : State) : State :=
  { s with counters := { s.counters with recordsDamaged := saturatingInc s.counters.recordsDamaged } }

def State.countRetry (s : State) : State :=
  { s with counters := { s.counters with retries := saturatingInc s.counters.retries } }

def State.countCensusEntry (s : State) : State :=
  { s with counters := { s.counters with censusEntries := saturatingInc s.counters.censusEntries } }

def State.countLinkLoss (s : State) : State :=
  { s with counters := { s.counters with linkLosses := saturatingInc s.counters.linkLosses } }

/-! ### The event queue (R169, R170, R172) -/

/-- A posted record is entered whole with the lost count, which clears, or dropped and counted (R169, R170). -/
def EventQueue.post (q : EventQueue) (e : Event) : EventQueue :=
  if e.length ≤ q.free then { q with whole := q.whole ++ [{ event := e, lostBefore := q.lost }], lost := 0 }
  else { q with lost := saturatingInc q.lost }

/-- A block posts an event record. -/
def State.post (s : State) (e : Event) : State := { s with events := s.events.post e }

/-- A block posts event records one after another. -/
def State.postAll (s : State) (es : List Event) : State := es.foldl State.post s

/-- The order in which the postings that the send unit, the trigger unit and the membership unit make in one step are
taken, each of them singly (R171): each turn takes the next posting of its block, and when the turns are over the rest
follows block by block. The postings of one block keep their order. -/
def takeTurns : List Poster → List Event → List Event → List Event → List Event
  | .send :: turns, e :: send, trigger, member => e :: takeTurns turns send trigger member
  | .send :: turns, [], trigger, member => takeTurns turns [] trigger member
  | .trigger :: turns, send, e :: trigger, member => e :: takeTurns turns send trigger member
  | .trigger :: turns, send, [], member => takeTurns turns send [] member
  | .member :: turns, send, trigger, e :: member => e :: takeTurns turns send trigger member
  | .member :: turns, send, trigger, [] => takeTurns turns send trigger []
  | [], send, trigger, member => send ++ trigger ++ member

/-- The word a read of EVENT returns (R172). -/
def EventQueue.nextWord (q : EventQueue) : Halfword :=
  match q.current, q.whole with
  | w :: _, _ => w
  | [], r :: _ => eventFirstWord r.event.kind r.event.length r.lostBefore
  | [], [] => eventFirstWord 0 0 q.lost

/-- The queue after a read of EVENT (R172). -/
def EventQueue.afterRead (q : EventQueue) : EventQueue :=
  match q.current, q.whole with
  | _ :: rest, _ => { q with current := rest }
  | [], r :: rest => { q with current := r.event.fields, whole := rest }
  | [], [] => q

/-! ### Tables indexed by ring number 1 to 30 (R45, R76) -/

/-- The entry of a table at ring number `n`, `none` when it is empty or NONE. -/
def tableEntry {w : Nat} (table : Vector (Option (BitVec w)) 30) (n : BitVec 5) : Option (BitVec w) :=
  (table[n.toNat - 1]?).join

/-- The table with the entry at ring number `n` set. -/
def tableSet {w : Nat} (table : Vector (Option (BitVec w)) 30) (n : BitVec 5) (x : Option (BitVec w)) :
    Vector (Option (BitVec w)) 30 :=
  table.setIfInBounds (n.toNat - 1) x

/-! ### Delivery ring descriptors (R101) -/

/-- Descriptor of ring `r`. -/
def Delivery.ring (d : Delivery) (r : BitVec 2) : DeliveryRing := d.rings[r.toNat]'(r.isLt)

/-- The four descriptors with that of ring `r` replaced. -/
def Delivery.setRing (d : Delivery) (r : BitVec 2) (x : DeliveryRing) : Delivery :=
  { d with rings := d.rings.set r.toNat x r.isLt }

/-- The free slots of a ring (R102). -/
def DeliveryRing.freeSlots (r : DeliveryRing) : Nat := r.slots - r.filled - r.reserved

/-- The free places of the receive store (R98). -/
def Delivery.freePlaces (d : Delivery) : Nat := 384 - placesUsed d.store

/-! ### Words of local memory written (model's own record of the bus) -/

/-- The record of written words, addresses rising, with the word at `a` written. -/
def writeWord : List (Nat × Word) → Nat → Word → List (Nat × Word)
  | [], a, w => [(a, w)]
  | (b, v) :: rest, a, w =>
    if a < b then (a, w) :: (b, v) :: rest
    else if a = b then (a, w) :: rest
    else (b, v) :: writeWord rest a w

/-- The word the controller last wrote at address `a`, if it has written one there. -/
def writtenWord (mem : List (Nat × Word)) (a : Nat) : Option Word := mem.lookup a

/-! ### Forwarding mode (1.4, R7) -/

/-- Forwarding modes (1.4). -/
inductive Mode where
  | active | census | transparent
  deriving DecidableEq, Repr

/-- The mode that the station state selects (1.4). -/
def StationState.mode : StationState → Mode
  | .run | .leaving => .active
  | .census => .census
  | .config | .pass | .isolated | .excluded | .barred => .transparent

def State.mode (s : State) : Mode := s.member.station.mode

/-- The station is in RUN or LEAVING: it is numbered on a ring. -/
def State.onRing (s : State) : Bool := s.mode == .active

end Sys2Proof.Machine
end

