-- ==== Sys2Proof/Machine/Bus.lean ====
section
/-! DEFINITION. The local bus master (chapter 7): requests, bursts, the arbiter, the presented word and the halfword order.
What the end of a request does at its client stands with the clients; the commands BUS_WORD_ANSWERED and BUS_TIMEOUT stand
in `Machine/BusAnswers.lean`. -/

namespace Sys2Proof.Machine

/-- Addresses advance by 4 for each word, modulo 2^32 (R139). -/
def addressAfter (start : Word) (words : Nat) : Word := start + BitVec.ofNat 32 (4 * words)

/-- The address of a request's next word not yet transferred (R138). -/
def Request.nextAddress (r : Request) : Word := addressAfter r.start r.done

/-- The words from an address up to the next 32-byte boundary (R141). -/
def wordsToBoundary (a : Word) : Nat := 8 - (a.toNat / 4) % 8

/-- The word count of the burst issued of a request under a burst length (R141). -/
def burstWords (burstLength : Nat) (r : Request) : Nat :=
  min (min burstLength (r.words - r.done)) (wordsToBoundary r.nextAddress)

/-- The standing request of a client (R139). -/
def BusMaster.request (b : BusMaster) : Client → Option Request
  | .loader => b.loader
  | .fetch => b.fetch
  | .delivery => b.delivery

/-- The bus master with the request of a client replaced. -/
def BusMaster.setRequest (b : BusMaster) (c : Client) (r : Option Request) : BusMaster :=
  match c with
  | .loader => { b with loader := r }
  | .fetch => { b with fetch := r }
  | .delivery => { b with delivery := r }

/-- The burst length of a client: 1 for the loader, the configured one for the others (R139). -/
def BusMaster.lengthFor (b : BusMaster) : Client → Nat
  | .loader => 1
  | .fetch => b.burstLength
  | .delivery => b.burstLength

/-- One burst of the client's request is issued at a moment: its first word is presented and the bus timeout timer starts
(R141, R145); a grant to fetch or delivery becomes the last grant (R142). -/
def BusMaster.issue (b : BusMaster) (now : Time) (c : Client) (r : Request) : BusMaster :=
  { b with
    burst := some { client := c, write := r.write, first := r.nextAddress, words := burstWords (b.lengthFor c) r,
                    answered := 0 }
    timeout := some (now + busTimeoutSpan)
    lastGrant := if c = .loader then b.lastGrant else some c }

/-- The arbiter (R142): with no burst current it grants the loader first, a lone waiter at once, and fetch and delivery in
turn, delivery when neither has been granted. -/
def BusMaster.grant (b : BusMaster) (now : Time) : BusMaster :=
  match b.burst, b.loader, b.fetch, b.delivery with
  | some _, _, _, _ => b
  | none, some r, _, _ => b.issue now .loader r
  | none, none, some r, none => b.issue now .fetch r
  | none, none, none, some r => b.issue now .delivery r
  | none, none, some f, some d =>
    if b.lastGrant = some .delivery then b.issue now .fetch f else b.issue now .delivery d
  | none, none, none, none => b

/-- A burst of the client's request is issued now. -/
def State.issue (s : State) (c : Client) (r : Request) : State := { s with bus := s.bus.issue s.now c r }

/-- The arbiter grants now (R142). -/
def State.grant (s : State) : State := { s with bus := s.bus.grant s.now }

/-- A client makes a request (R139), and the arbiter grants when the bus is free (R142). -/
def State.makeRequest (s : State) (c : Client) (write : Bool) (start : Word) (words : Nat) : State :=
  State.grant { s with bus := s.bus.setRequest c (some { write := write, start := start, words := words, done := 0 }) }

/-! ### Halfword order (R147) -/

/-- The word that holds halfwords 2k and 2k + 1. -/
def HalfwordOrder.join (order : HalfwordOrder) (first second : Halfword) : Word :=
  match order with
  | .lowFirst => second ++ first
  | .highFirst => first ++ second

/-- Halfwords 2k and 2k + 1 of a word. -/
def HalfwordOrder.split (order : HalfwordOrder) (w : Word) : List Halfword :=
  match order with
  | .lowFirst => [lowHalf w, highHalf w]
  | .highFirst => [highHalf w, lowHalf w]

/-- The words a payload of `length` halfwords takes: half of it, rounded up (R55, R106). -/
def payloadWords (length : BitVec 7) : Nat := (length.toNat + 1) / 2

/-- Word `k` of a payload, a missing halfword as zero (R106, R147). -/
def payloadWord (order : HalfwordOrder) (payload : List Halfword) (k : Nat) : Word :=
  order.join (payload.getD (2 * k) 0) (payload.getD (2 * k + 1) 0)

/-! ### The presented word (R144) -/

/-- The address of the word of the current burst that is presented and not yet answered. -/
def Burst.address (b : Burst) : Word := addressAfter b.first b.answered

end Sys2Proof.Machine
end

