-- ==== Sys2Proof/Machine/Output.lean ====
section
/-! DEFINITION. The ring output and its arbiter (R1, R9, R18 to R22): what stands ready at a boundary, which of it goes, and
what the sending of each item changes; and the passing of time, in which the arbiter sends at every boundary that the clock
moves past (notes/assumptions/5.md). -/

namespace Sys2Proof.Machine

/-! ### Boundaries (R1, R19) -/

/-- The moment from which the ring output is free: the end of the frame last started. -/
def Path.freeAt (p : Path) : Time :=
  match p.output with
  | some f => f.ends
  | none => 0

/-- The output is carrying one of the station's own frames (R18). -/
def State.carriesOwn (s : State) : Bool :=
  match s.path.output with
  | some f => f.own && decide (s.now < f.ends)
  | none => false

/-- The next output frame boundary: the end of the frame on the output, or now, since while the output sends fill a frame
may start at any moment (DEDUCED, notes/assumptions/10.md). -/
def State.boundary (s : State) : Time := max s.now s.path.freeAt

/-- A frame is started on the ring output at moment `t`. -/
def State.startAt (s : State) (t : Time) (f : Frame) (own : Bool) : State :=
  { s with path := { s.path with output := some { frame := f, own := own, ends := t + frameTime } },
           outside := { s.outside with ringOut := s.outside.ringOut ++ [{ frame := f, start := t }] } }

/-- A frame is started at the next output frame boundary, which the clock reaches. -/
def State.sendAtBoundary (s : State) (f : Frame) (own : Bool) : State :=
  { s.startAt s.boundary f own with now := s.boundary }

/-- The ring output carries fill at moment `t`: no frame that it has sent stands on the link then (R1, R22). -/
def Outside.carriesFill (u : Outside) (t : Time) : Bool :=
  u.ringOut.all (fun f => decide (t < f.start) || decide (f.start + frameTime ≤ t))

/-! ### What stands ready (R9, R19, R20) -/

/-- The record is offered to the output arbiter: in RUN, with the head STAGED or in RETRY_WAIT with its gap over (R57,
R68). -/
def State.offered (s : State) : Bool :=
  s.member.station == .run &&
    (s.send.head == some .staged || (s.send.head == some .retryWait && s.send.gapTimer == none))

/-- An own TRIGGER is ready at the output arbiter (R123, R124). -/
def State.ownTriggerReady (s : State) : Bool := s.trigger.own == .waiting

/-- What the output arbiter can choose at a boundary (R9, R19, R20): the arriving frame that waits, the oldest frame of the
bypass buffer, the own census frame, the own TRIGGER, the next frame of the own record in progress, the own ANNOUNCE, the
own DEPART, the HEAD of the offered record. -/
inductive Item where
  | arriving | buffered | census | trigger | recordFrame | announce | depart | record
  deriving DecidableEq, Repr

/-- The own frame that goes first at a boundary where an own insertion may begin: the TRIGGER, and at a record boundary
also the ANNOUNCE, the DEPART and the record, in this order (R20). -/
def State.nextOwn (s : State) : Option Item :=
  if s.ownTriggerReady then some .trigger
  else if s.path.phase = .forwarding then none
  else if s.member.announce = .waiting then some .announce
  else if s.member.depart = .waiting then some .depart
  else if s.offered ∧ s.send.queue ≠ [] then some .record
  else none

/-- What the output arbiter chooses at the next boundary, `none` for fill. An arriving frame that waits goes first in every
mode. After it: in transparent mode the bypass buffer; in census mode the own census frame (R9); in RUN and LEAVING the
order of R19, in which items 2 and 3 give way to an own record in progress. Where a TRIGGER or VOID inside a forwarded record
has been stripped, nothing may stand ready, and the output then sends fill (DEDUCED, notes/assumptions/33.md). -/
def State.nextItem (s : State) : Option Item :=
  if s.resetPin then none
  else if s.path.waiting.isSome then some .arriving
  else match s.mode with
    | .transparent => if s.path.bypass = [] then none else some .buffered
    | .census => if s.path.ownCensus.isSome then some .census else none
    | .active =>
      if s.path.insertion.isSome then
        if s.ownTriggerReady ∧ s.path.bypass = [] then some .trigger else some .recordFrame
      else if s.path.bypass ≠ [] then some .buffered
      else s.nextOwn

/-! ### Sending each item -/

/-- The arriving frame that waits is sent (R19). -/
def State.sendWaiting (s : State) : State :=
  match s.path.waiting with
  | some f =>
    let s := s.sendAtBoundary f false
    { s with path := { s.path with waiting := none } }
  | none => s

/-- The oldest frame of the bypass buffer is sent (R18). -/
def State.sendBypass (s : State) : State :=
  match s.path.bypass with
  | f :: rest =>
    let s := s.sendAtBoundary f false
    { s with path := { s.path with bypass := rest } }
  | [] => s

/-- What the first bit of an own census frame does in the membership unit: that of the CLAIM sets the own-claim-begun flag
(R31), that of the NUMBER is noted as the NUMBER send time (R35). -/
def Membership.censusFrameBegun (m : Membership) (f : Frame) (now : Time) : Membership :=
  match f with
  | .claim _ => { m with claimBegun := true }
  | .number _ => { m with numberSent := some now }
  | _ => m

/-- The own census frame is sent and is ready no more (R9). -/
def State.sendCensusFrame (s : State) : State :=
  match s.path.ownCensus with
  | some f =>
    let s := s.sendAtBoundary f true
    { s with path := { s.path with ownCensus := none }, member := s.member.censusFrameBegun f s.now }
  | none => s

/-- The own TRIGGER frame (R123). -/
def State.ownTriggerBody (s : State) : TriggerBody :=
  { source := s.member.number.getD 0, group := s.trigger.group.getD 0, spare := 0, hop := 0 }

/-- The first bit of the own TRIGGER is sent (R124). -/
def State.sendOwnTrigger (s : State) : State :=
  let s := s.sendAtBoundary (.trigger s.ownTriggerBody) true
  { s with trigger := { s.trigger with own := .sent } }

/-- The own ANNOUNCE (R39). -/
def State.announceBody (s : State) : AnnounceBody :=
  { number := s.member.number.getD 0, mark := s.member.mark, spare := 0, hop := 0 }

/-- The first bit of the own ANNOUNCE is sent (R47). -/
def State.sendAnnounce (s : State) : State :=
  let s := s.sendAtBoundary (.announce s.announceBody) true
  { s with member := { s.member with announce := .sent } }

/-- The own DEPART (R26). -/
def State.departBody (s : State) : DepartBody := { source := s.member.number.getD 0, spare := 0, hop := 0 }

/-- The first bit of the own DEPART is sent (R26). -/
def State.sendDepart (s : State) : State :=
  let s := s.sendAtBoundary (.depart s.departBody) true
  { s with member := { s.member with depart := .sent } }

/-- The HEAD of the head entry's record (R58). -/
def State.ownHeadFrame (s : State) (e : SendEntry) : HeadBody :=
  { source := s.member.number.getD 0, stream := e.stream, seq := s.send.seq, length := e.length, hop := 0,
    attempt := s.send.attempt }

/-- The first bit of the offered record's HEAD is sent (R58). The rest of the record carries the halfwords that the staging
buffer holds now (R59, notes/assumptions/7.md). -/
def State.beginAttempt (s : State) : State :=
  match s.send.queue with
  | e :: _ =>
    let b := s.ownHeadFrame e
    let s := s.sendAtBoundary (.head b) true
    { s with
      path := { s.path with
        insertion := some { source := b.source, seq := b.seq, attempt := b.attempt, length := b.length,
                            payload := s.send.staging, next := 0 } }
      send := { s.send with head := some .inFlight, attempts := s.send.attempts + 1, gapTimer := none,
                            returnTimer := s.timer returnSpan } }
  | [] => s

/-- No own record is in progress any more: the staging buffer is free for the head entry, and takes what the head entry's
fetch has read meanwhile (R55, R59, notes/assumptions/7.md). -/
def State.endInsertion (s : State) : State :=
  { s with path := { s.path with insertion := none }
           send := { s.send with staging := s.send.staging ++ s.send.incoming, incoming := [] } }

/-- The next frame of an own record in progress: a DATA, or the TAIL when every DATA has been sent (R58). -/
def Insertion.frame (i : Insertion) : Frame :=
  if i.next < i.length.toNat then
    .data { source := i.source, index := BitVec.ofNat 6 i.next, spare := 0, word := i.payload.getD i.next 0 }
  else
    .tail { source := i.source, seq := i.seq, attempt := i.attempt, accept := 0, held := 0, refused := false,
            damaged := false, spare := 0 }

/-- The next frame of the own record is sent; with the TAIL no own record is in progress any more (R20). A TAIL counts as
sent from its first bit on (R59; DEDUCED, notes/assumptions/7.md). -/
def State.sendRecordFrame (s : State) : State :=
  match s.path.insertion with
  | some i =>
    let s := s.sendAtBoundary i.frame true
    if i.next < i.length.toNat then
      { s with path := { s.path with insertion := some { i with next := i.next + 1 } } }
    else s.endInsertion
  | none => s

/-- The sending of an item at the next boundary. -/
def State.sendItem (s : State) : Item → State
  | .arriving => s.sendWaiting
  | .buffered => s.sendBypass
  | .census => s.sendCensusFrame
  | .trigger => s.sendOwnTrigger
  | .recordFrame => s.sendRecordFrame
  | .announce => s.sendAnnounce
  | .depart => s.sendDepart
  | .record => s.beginAttempt

/-- A row of the table that names the sending of an item: it is sent when it is what the arbiter chooses at the next
boundary, and nothing happens otherwise. -/
def State.sendIfNext (s : State) (i : Item) : State := if s.nextItem = some i then s.sendItem i else s

/-! ### The passing of time -/

/-- The arbiter sends at each boundary before the moment `t`, until nothing stands ready (R19 to R22). Each frame moves the
next boundary on, so that the boundaries run out before `fuel` does when it starts at the distance to `t`. -/
def State.catchUp (t : Time) : Nat → State → State
  | 0, s => s
  | fuel + 1, s =>
    match s.nextItem with
    | some i => if s.boundary < t then (s.sendItem i).catchUp t fuel else s
    | none => s

/-- The clock moves on to a moment, never back, and the arbiter sends at every boundary before it. A boundary that stands at
the moment itself falls together with what happens then, and the order of the commands says which comes first (R21). -/
def State.reach (s : State) (t : Time) : State :=
  let s := s.catchUp t (t - s.boundary)
  { s with now := max s.now t }

/-- The state at the moment a command happens: the clock has moved on to it, and the turns of simultaneous postings are the
occasion's. DESIGN CHOICE (notes/assumptions/2.md): a moment that has passed is read as now. -/
def State.at (s : State) (o : Occasion) : State := { s.reach o.time with order := o.order }

/-- A command that acts only while RESET is not asserted (R1, R150): the state it leaves. -/
def State.live (s : State) (o : Occasion) (act : State → State) : State :=
  if s.resetPin then s.at o else act (s.at o)

/-- The expiry of a timer: when it runs, the clock reaches its moment and `act` happens; a stopped timer does not expire
(notes/assumptions/3.md). -/
def State.expiry (s : State) (timer : State → Timer) (act : State → State) : State :=
  match timer s with
  | some t => act (s.reach t)
  | none => s

/-! ### Frames from upstream (R18, R19, R21) -/

/-- Cut-through: an arriving frame goes out at once, or waits for the end of the frame on the output (R19). -/
def State.cutThrough (s : State) (f : Frame) : State :=
  if s.path.freeAt ≤ s.now then s.startAt s.now f false
  else { s with path := { s.path with waiting := some f } }

/-- The oldest frame of the bypass buffer has gone out at a boundary at which a further frame for the buffer arrives (R18,
notes/assumptions/10.md). -/
def State.drainAtBoundary (s : State) : State :=
  if s.nextItem = some .buffered ∧ s.path.freeAt ≤ s.now then s.sendBypass else s

/-- A frame to be forwarded, other than a TRIGGER in active mode and a census frame in census mode: it joins the bypass
buffer when that holds frames, when an own record is in progress, or when the output carries an own frame; otherwise it
cuts through (R18, R19, R20). -/
def State.forward (s : State) (f : Frame) : State :=
  let s := s.drainAtBoundary
  if !s.path.bypass.isEmpty || s.path.insertion.isSome || s.carriesOwn then
    { s with path := { s.path with bypass := s.path.bypass ++ [f] } }
  else s.cutThrough f

/-- The staging buffer is an earlier record's again: the halfwords of a head that has not been sent wait for it once more
(R59, notes/assumptions/7.md). -/
def SendUnit.unstage (u : SendUnit) : SendUnit :=
  if u.head = some .fetching ∨ u.head = some .staged then { u with staging := [], incoming := u.staging ++ u.incoming }
  else u

/-- The own record of which only the TAIL is left to send, and which holds the staging buffer again (R59). -/
def State.resumeTail (s : State) (b : TailBody) : State :=
  let left : Insertion :=
    { source := b.source, seq := b.seq, attempt := b.attempt, length := 0, payload := [], next := 0 }
  { s with path := { s.path with insertion := some left }, send := s.send.unstage }

/-- An own frame that began at this very moment is not sent after all, and is ready at the output arbiter as it was before:
an own TRIGGER, ANNOUNCE or DEPART is WAITING again, an own HEAD's attempt has not begun (R58), a DATA or TAIL is again the
next frame of its record. `none` where something else that happened at this moment, such as a LEAVE, has taken the frame as
sent (R21, notes/assumptions/32.md). -/
def State.takeBack (s : State) : Frame → Option State
  | .trigger _ =>
    if s.trigger.own = .sent then some { s with trigger := { s.trigger with own := .waiting } } else none
  | .announce _ =>
    if s.member.announce = .sent ∧ s.member.station = .run then
      some { s with member := { s.member with announce := .waiting } }
    else none
  | .depart _ =>
    if s.member.depart = .sent ∧ s.member.station = .leaving then
      some { s with member := { s.member with depart := .waiting } }
    else none
  | .head _ =>
    if s.path.insertion.any (fun i => i.next == 0) ∧ s.send.head = some .inFlight ∧ s.send.cancelRequested = false ∧
        (s.send.context = .closed ∨ s.send.context = .openStale) then
      some { s with
        path := { s.path with insertion := none }
        send := { s.send with head := some (if s.send.attempts ≤ 1 then .staged else .retryWait),
                              attempts := s.send.attempts - 1, returnTimer := none } }
    else none
  | .data _ =>
    match s.path.insertion with
    | some i =>
      if 1 ≤ i.next then some { s with path := { s.path with insertion := some { i with next := i.next - 1 } } } else none
    | none => none
  | .tail b => if s.path.insertion = none then some (s.resumeTail b) else none
  | _ => none

/-- An arriving TRIGGER takes the place of an own frame that began at this very moment: the own frame is ready at the arbiter
again and follows at the next boundary; one that has been taken as sent starts there, an own HEAD's return timer with it
(R21, R58, notes/assumptions/32.md). -/
def State.displace (s : State) (own : Frame) (f : Frame) : State :=
  let before := s.outside.ringOut.dropLast ++ [{ frame := f, start := s.now }]
  match s.takeBack own with
  | some u =>
    { u with path := { u.path with output := some { frame := f, own := false, ends := s.now + frameTime } },
             outside := { s.outside with ringOut := before } }
  | none =>
    { s with
      path := { s.path with output := some { frame := own, own := true, ends := s.now + frameTime + frameTime } }
      outside := { s.outside with ringOut := before ++ [{ frame := own, start := s.now + frameTime }] }
      send := match own with
        | .head _ => { s.send with returnTimer := s.send.returnTimer.map (· + frameTime) }
        | _ => s.send }

/-- A forwarded TRIGGER in active mode goes ahead of the bypass buffer and of any own insertion (R19); at a boundary at
which an own frame was taken first it is still sent first (R21, notes/assumptions/32.md). -/
def State.overtake (s : State) (f : Frame) : State :=
  match s.path.output with
  | some g => if g.own ∧ g.ends = s.now + frameTime then s.displace g.frame f else s.cutThrough f
  | none => s.cutThrough f

/-- The arriving frame that waited has gone out at the boundary it waited for. At most one frame ever waits (R19): frames
arrive at most once per frame time, so by the next arrival that boundary has come. -/
def State.flushWaiting (s : State) : State :=
  match s.path.waiting with
  | some f =>
    let s := s.startAt s.boundary f false
    { s with path := { s.path with waiting := none } }
  | none => s

end Sys2Proof.Machine
end

