-- ==== Sys2Proof/Machine/Delivery.lean ====
section
/-! DEFINITION. The receive store's entries and the delivery engine (chapter 5, R98 to R120): where slots stand, what their
words hold, the beginning, completion and failure of a delivery, and what RESUME and RELEASE do once they are judged. -/

namespace Sys2Proof.Machine

/-! ### Slots (R101, 11.3) -/

/-- The byte address of slot `slot` of a ring, modulo 2^32 (R101). -/
def DeliveryRing.slotAddress (r : DeliveryRing) (slot : Nat) : Word := r.base + BitVec.ofNat 32 (136 * slot)

/-- Word 0 of a slot: source, stream, seq, length (R107, R186). -/
def StoreEntry.header0 (e : StoreEntry) : Word := (byte e.length ++ e.seq) ++ (byte e.stream ++ byte e.source)

/-- Word 1 of a slot: the delivery count and the entry's epoch (R107, R186). -/
def StoreEntry.header1 (e : StoreEntry) (delivered : BitVec 16) : Word := (0#8 ++ e.epoch) ++ delivered

/-- The data of word `k` of the delivery request of a phase (R106, R107, R144). -/
def State.deliveryWord (s : State) (k : Nat) : Word :=
  match s.delivery.engine, s.delivery.store with
  | .delivering .body _ _, e :: _ => payloadWord s.bus.order e.payload k
  | .delivering .header1 ring _, e :: _ => e.header1 (s.delivery.ring ring).delivered
  | .delivering .header0 _ _, e :: _ => e.header0
  | _, _ => 0

/-- The word that stands on the bus: its address, and the data of a write (R144). -/
def State.presented (s : State) : Option (Word × Option Word) :=
  match s.bus.burst with
  | some b =>
    match s.bus.request b.client with
    | some r => some (b.address, if b.write then some (s.deliveryWord (r.done + b.answered)) else none)
    | none => none
  | none => none

/-! ### The delivery engine (R105 to R110) -/

/-- The engine makes the request of a phase for a slot (R139). -/
def State.requestPhase (s : State) (phase : Phase) (ring : BitVec 2) (slot : Nat) (length : BitVec 7) : State :=
  let base := (s.delivery.ring ring).slotAddress slot
  match phase with
  | .body => s.makeRequest .delivery true (addressAfter base 2) (payloadWords length)
  | .header1 => s.makeRequest .delivery true (addressAfter base 1) 1
  | .header0 => s.makeRequest .delivery true base 1

/-- A delivery begins when the engine is IDLE and the oldest entry is COMPLETE (R105). -/
def State.beginDelivery (s : State) : State :=
  match s.delivery.engine, s.delivery.store with
  | .idle, e :: rest =>
    if e.state = .complete then
      let slot := (s.delivery.ring e.ring).writeIndex
      let phase := if e.length = 0 then Phase.header1 else Phase.body
      State.requestPhase
        { s with delivery := { s.delivery with store := { e with state := .delivering } :: rest
                                               engine := .delivering phase e.ring slot } }
        phase e.ring slot e.length
    else s
  | _, _ => s

/-- A ring's counts after a completed delivery (R108). -/
def DeliveryRing.afterDelivery (r : DeliveryRing) : DeliveryRing :=
  { r with reserved := r.reserved - 1, filled := r.filled + 1, writeIndex := (r.writeIndex + 1) % r.slots,
           delivered := r.delivered + 1 }

/-- A ring's counts after a reservation is taken (R80). -/
def DeliveryRing.reserve (r : DeliveryRing) : DeliveryRing := { r with reserved := r.reserved + 1 }

/-- A ring's counts after a reservation is given back (R86, R92, R93, R113). -/
def DeliveryRing.unreserve (r : DeliveryRing) : DeliveryRing := { r with reserved := r.reserved - 1 }

/-- Word 0 is written: the delivery completes (R108), DELIVERED is posted (R116), and the next delivery begins when the new
oldest entry is COMPLETE (R105). -/
def State.completeDelivery (s : State) : State :=
  match s.delivery.engine, s.delivery.store with
  | .delivering _ ring slot, e :: rest =>
    let d : Delivery := { s.delivery with store := rest, engine := .idle }
    let d := d.setRing ring (d.ring ring).afterDelivery
    (State.post { s with delivery := d } (.delivered ring slot e.source e.stream e.seq e.length)).beginDelivery
  | _, _ => s

/-- The request of the present phase has completed (R146): the next phase, or the end of the delivery (R106, R107). -/
def State.deliveryRequestCompleted (s : State) : State :=
  match s.delivery.engine with
  | .delivering .body ring slot =>
    State.requestPhase { s with delivery := { s.delivery with engine := .delivering .header1 ring slot } }
      .header1 ring slot 0
  | .delivering .header1 ring slot =>
    State.requestPhase { s with delivery := { s.delivery with engine := .delivering .header0 ring slot } }
      .header0 ring slot 0
  | .delivering .header0 _ _ => s.completeDelivery
  | _ => s

/-- A transfer of the delivery has failed (R110): HALTED, the entry COMPLETE again, DELIVERY_FAULT posted. -/
def State.failDelivery (s : State) (cause : BusCause) (address : Word) : State :=
  match s.delivery.engine, s.delivery.store with
  | .delivering _ ring slot, e :: rest =>
    State.post
      { s with delivery := { s.delivery with store := { e with state := .complete } :: rest
                                             engine := .halted ring slot } }
      (.deliveryFault ring slot address cause)
  | _, _ => s

/-- RESUME taken without skip: the engine becomes IDLE and the oldest entry's delivery begins again (R112). -/
def State.resumeDelivery (s : State) : State :=
  State.beginDelivery { s with delivery := { s.delivery with engine := .idle } }

/-- RESUME taken with skip: the oldest entry and its reservation go, DELIVERY_SKIPPED is posted, the engine becomes IDLE
(R113). -/
def State.skipDelivery (s : State) : State :=
  match s.delivery.engine, s.delivery.store with
  | .halted ring slot, e :: rest =>
    let d : Delivery := { s.delivery with store := rest, engine := .idle }
    let d := d.setRing e.ring (d.ring e.ring).unreserve
    (State.post { s with delivery := d } (.deliverySkipped ring slot e.source e.stream e.seq e.length)).beginDelivery
  | _, _ => s

/-- RELEASE taken: the `n` oldest filled slots of a ring pass back to the controller (R114). -/
def State.releaseSlots (s : State) (ring : BitVec 2) (n : Nat) : State :=
  let r := s.delivery.ring ring
  { s with delivery := s.delivery.setRing ring { r with filled := r.filled - n } }

end Sys2Proof.Machine
end

