-- ==== Sys2Proof/Machine/Receiving.lean ====
section
/-! DEFINITION. The record filter (chapter 4, R75 to R97): the judgment at the HEAD, the checks of the body, the closing at
the TAIL, truncation and discard. The forwarding path that gives it frames stands in `Machine/Arrivals.lean`. -/

namespace Sys2Proof.Machine

/-- The target ring of a stream: the ring of the subscription entry naming it (R75). -/
def Filter.target (f : Filter) (stream : BitVec 6) : Option (BitVec 2) := f.subscriptions.lookup stream

/-- The verdict decided at a HEAD (R79). -/
def State.verdict (s : State) (b : HeadBody) : Verdict :=
  if s.member.station = .leaving then .passing
  else match s.filter.target b.stream with
    | none => .passing
    | some ring =>
      if tableEntry s.filter.duplicates b.source = some b.seq then .held
      else if s.delivery.freePlaces < b.length.toNat + 1 ∨ (s.delivery.ring ring).freeSlots < 1 then .refusing
      else .accepting

/-- The room an accepted record takes at its HEAD: a FILLING entry at the newest end, and a reservation (R80). -/
def State.takeRoom (s : State) (b : HeadBody) (ring : BitVec 2) : State :=
  let d : Delivery := { s.delivery with
    store := s.delivery.store ++
      [{ state := .filling, source := b.source, stream := b.stream, seq := b.seq, length := b.length, ring := ring,
         epoch := s.member.epoch, payload := [] }] }
  { s with delivery := d.setRing ring (d.ring ring).reserve }

/-- A HEAD opens the record context (R78). -/
def State.filterHead (s : State) (b : HeadBody) : State :=
  let verdict := s.verdict b
  let target := s.filter.target b.stream
  let context : RecordContext :=
    { source := b.source, stream := b.stream, seq := b.seq, attempt := b.attempt, expected := b.length, next := 0,
      verdict := verdict, damaged := false, target := target }
  let s := { s with filter := { s.filter with context := some context } }
  match verdict, target with
  | .accepting, some ring => s.takeRoom b ring
  | _, _ => s

/-- The newest entry of the store with one more halfword (R82). -/
def storeHalfword (store : List StoreEntry) (w : Halfword) : List StoreEntry :=
  match store.getLast? with
  | some e => store.dropLast ++ [{ e with payload := e.payload ++ [w] }]
  | none => store

/-- A DATA is good for an open context (R82). -/
def RecordContext.good (c : RecordContext) (d : DataBody) : Bool :=
  d.source == c.source && d.index.toNat == c.next && decide (d.index.toNat < c.expected.toNat) && d.spare == 0

/-- A DATA given to the record filter (R82, R94). -/
def State.filterData (s : State) (d : DataBody) : State :=
  match s.filter.context with
  | none => s
  | some c =>
    if c.good d then
      let s' := { s with filter := { s.filter with context := some { c with next := c.next + 1 } } }
      if c.verdict = .accepting ∧ c.damaged = false then
        { s' with delivery := { s'.delivery with store := storeHalfword s'.delivery.store d.word } }
      else s'
    else { s with filter := { s.filter with context := some { c with damaged := true } } }

/-- A VOID given to the record filter (R83, R94). -/
def State.filterVoid (s : State) : State :=
  match s.filter.context with
  | none => s
  | some c => { s with filter := { s.filter with context := some { c with damaged := true } } }

/-- The FILLING entry, if it stands, leaves from the newest end, and its reservation is given back (R86, R92, R93). -/
def State.dropFilling (s : State) : State :=
  match s.delivery.store.getLast? with
  | some e =>
    if e.state = .filling then
      let d : Delivery := { s.delivery with store := s.delivery.store.dropLast }
      { s with delivery := d.setRing e.ring (d.ring e.ring).unreserve }
    else s
  | none => s

/-- The room of a context's record is given back when its verdict is ACCEPTING. -/
def State.giveBack (s : State) (c : RecordContext) : State := if c.verdict = .accepting then s.dropFilling else s

/-- The context becomes CLOSED. -/
def State.closeContext (s : State) : State := { s with filter := { s.filter with context := none } }

/-- The duplicate entry of a source is set (R76). -/
def State.setDuplicate (s : State) (source : BitVec 5) (x : Option (BitVec 8)) : State :=
  { s with filter := { s.filter with duplicates := tableSet s.filter.duplicates source x } }

/-- The newest entry of the store becomes COMPLETE (R87). -/
def completeNewest (store : List StoreEntry) : List StoreEntry :=
  match store.getLast? with
  | some e => store.dropLast ++ [{ e with state := .complete }]
  | none => store

/-- A TAIL matches the open context (R85). -/
def RecordContext.tailMatches (c : RecordContext) (b : TailBody) : Bool :=
  b.source == c.source && b.seq == c.seq && b.attempt == c.attempt && c.next == c.expected.toNat

/-- How a record is closed at its TAIL (R85). -/
inductive Closing where
  | damaged | committed | held | refused | passed
  deriving DecidableEq, Repr

/-- The closing that applies (R85): damage first, then by the verdict. -/
def RecordContext.closing (c : RecordContext) (b : TailBody) : Closing :=
  if c.damaged || !c.tailMatches b then .damaged
  else match c.verdict with
    | .accepting => .committed
    | .held => .held
    | .refusing => .refused
    | .passing => .passed

/-- The marks a closing writes into the TAIL (R91). -/
def Closing.mark (k : Closing) (b : TailBody) : TailBody :=
  match k with
  | .damaged => { b with damaged := true }
  | .committed => { b with accept := saturatingInc b.accept }
  | .held => { b with held := saturatingInc b.held }
  | .refused => { b with refused := true }
  | .passed => b

/-- What a closing does in this station (R86 to R90). -/
def State.close (s : State) (c : RecordContext) (k : Closing) : State :=
  match k with
  | .damaged => ((s.giveBack c).closeContext).countDamaged
  | .committed =>
    let s := { s with delivery := { s.delivery with store := completeNewest s.delivery.store } }
    (((s.setDuplicate c.source (some c.seq)).closeContext).countAccepted).beginDelivery
  | .held => s.closeContext.countHeld
  | .refused => ((s.setDuplicate c.source none).closeContext).countRefused
  | .passed => (s.setDuplicate c.source (some c.seq)).closeContext

/-- The TAIL as it is forwarded after the record filter has had it (R85, R91, R94). -/
def State.markedTail (s : State) (b : TailBody) : TailBody :=
  match s.filter.context with
  | none => b
  | some c => (c.closing b).mark b

/-- A TAIL given to the record filter: the record is closed (R85, R94). -/
def State.filterTail (s : State) (b : TailBody) : State :=
  match s.filter.context with
  | none => s
  | some c => s.close c (c.closing b)

/-- A truncation notice in active mode closes the open record damaged (R92, R94). -/
def State.filterTruncated (s : State) : State :=
  match s.filter.context with
  | none => s
  | some c => s.close c .damaged

/-- The record context is discarded: its room is given back and nothing is counted (R93). -/
def State.filterDiscard (s : State) : State :=
  match s.filter.context with
  | none => s
  | some c => (s.giveBack c).closeContext

/-- Every entry of the duplicate table becomes NONE (R76). -/
def State.clearDuplicates (s : State) : State :=
  { s with filter := { s.filter with duplicates := Vector.replicate 30 none } }

end Sys2Proof.Machine
end

