-- ==== Sys2Proof/Machine/Sending.lean ====
section
/-! DEFINITION. The send unit (chapter 3, R51 to R74): the queue and its head entry, the fetch, the return and judgment of
an attempt, retries, completions, CANCEL and LEAVE, the census notice, and the commands ATTEMPT_BEGINS,
OWN_RECORD_FRAME_SENT, RETURN_TIMER_EXPIRES and RETRY_GAP_TIMER_EXPIRES. The inserting of an attempt (R57 to R59) stands
with the output arbiter in `Machine/Output.lean`. -/

namespace Sys2Proof.Machine

/-! ### The head entry (R54, R69) -/

/-- The items that concern the head entry at their starting values (R54). -/
def SendUnit.fresh (u : SendUnit) : SendUnit :=
  { u with staging := [], incoming := [], attempts := 0, cancelRequested := false, disposition := none, accept := 0, held := 0 }

/-- The oldest entry becomes the head: STAGED at once with length 0, otherwise FETCHING, with its payload requested of the
bus master at once (R54, R55, R139). -/
def State.adoptHead (s : State) : State :=
  match s.send.queue with
  | [] => { s with send := { s.send.fresh with head := none } }
  | e :: _ =>
    if e.length = 0 then { s with send := { s.send.fresh with head := some .staged } }
    else
      State.makeRequest { s with send := { s.send.fresh with head := some .fetching } } .fetch false e.address
        (payloadWords e.length)

/-- The SENT event of the head entry's completion (R69). -/
def SendUnit.headSent (u : SendUnit) (status : SendStatus) : List Event :=
  match u.queue with
  | [] => []
  | e :: _ => [.sent e.tag status u.attempts u.accept u.held]

/-- The SENT events of entries behind the head, in queue order; they were never inserted (R69, R70). -/
def unsentEvents (status : SendStatus) (entries : List SendEntry) : List Event :=
  entries.map (fun e => .sent e.tag status 0 0 0)

/-- The head entry leaves the queue, and the sequence number advances when it was inserted (R69). -/
def SendUnit.dropHead (u : SendUnit) : SendUnit :=
  match u.queue with
  | [] => u
  | _ :: rest =>
    { u with queue := rest, head := none, gapTimer := none, seq := if 1 ≤ u.attempts then u.seq + 1 else u.seq }

/-- The head entry has left the queue, and the next entry, if any, becomes the head (R54, R69); the SENT event is the
caller's to post. -/
def State.nextHead (s : State) : State := State.adoptHead { s with send := s.send.dropHead }

/-- The head entry completes and the next entry, if any, becomes the head (R54, R69). -/
def State.completeHead (s : State) (status : SendStatus) : State := s.nextHead.postAll (s.send.headSent status)

/-! ### The fetch (R55) -/

/-- A word of the head entry's payload has been read; the unused half of an odd payload's last word is discarded (R55,
R147). It is placed in the staging buffer, or waits for it while an own record in progress holds the buffer (R59,
notes/assumptions/7.md). -/
def SendUnit.stage (u : SendUnit) (e : SendEntry) (busy : Bool) (halfwords : List Halfword) : SendUnit :=
  if busy then { u with incoming := (u.incoming ++ halfwords).take (e.length.toNat - u.staging.length) }
  else { u with staging := (u.staging ++ halfwords).take e.length.toNat }

/-- A word of the head entry's payload is handed to the send unit (R55). -/
def State.stageWord (s : State) (w : Word) : State :=
  match s.send.queue with
  | [] => s
  | e :: _ => { s with send := s.send.stage e s.path.insertion.isSome (s.bus.order.split w) }

/-- The fetch has completed (R55). -/
def State.fetchCompleted (s : State) : State :=
  match s.send.disposition with
  | none => { s with send := { s.send with head := some .staged } }
  | some .cancelled => s.completeHead .cancelled
  | some .left => s.completeHead .left

/-- The fetch has failed (R55). -/
def State.fetchFailed (s : State) : State :=
  match s.send.disposition with
  | none => s.completeHead .fetchFault
  | some .cancelled => s.completeHead .cancelled
  | some .left => s.completeHead .left

/-! ### The end of an attempt (R66, R67) -/

/-- An attempt ends: the return timer stops and the attempt bit flips (R66). -/
def SendUnit.endAttempt (u : SendUnit) : SendUnit := { u with returnTimer := none, attempt := !u.attempt }

/-- The last marks of an attempt (R63, R69). -/
def SendUnit.withMarks (u : SendUnit) (accept held : BitVec 5) : SendUnit := { u with accept := accept, held := held }

/-- What follows an outcome judged from the return (R67). -/
def State.afterOutcome (s : State) (status : SendStatus) : State :=
  if status = .done then s.completeHead .done
  else if s.send.cancelRequested then s.completeHead .cancelled
  else if s.send.attempts < 1 + s.send.retryLimit then
    State.countRetry { s with send := { s.send with head := some .retryWait, gapTimer := s.timer gapSpan } }
  else s.completeHead status

/-- The attempt in flight ends with an outcome and these last marks (R66, R67); without an attempt in flight there is
nothing to end. -/
def State.endWith (s : State) (status : SendStatus) (accept held : BitVec 5) : State :=
  if s.send.head = some .inFlight then
    State.afterOutcome { s with send := (s.send.endAttempt).withMarks accept held } status
  else s

/-- The return context becomes `c`. -/
def State.setContext (s : State) (c : ReturnContext) : State := { s with send := { s.send with context := c } }

/-- A part of a record has returned when its attempt ends: the rest will be stale (R64, R72). -/
def State.contextToStale (s : State) : State :=
  match s.send.context with
  | .openCurrent | .openHeadless => (s.setContext .openStale).countStale
  | .closed | .openStale => s

/-! ### The return of an attempt (R60 to R63) -/

/-- A hop with which a frame of this station returns to it: N − 1. -/
def State.returnHop (s : State) (hop : BitVec 5) : Bool := hop.toNat + 1 == s.member.ringSize.toNat

/-- An own HEAD belongs to the attempt in flight (R60). In OPEN_CURRENT the context has taken the attempt's HEAD. -/
def State.ownHeadBelongs (s : State) (b : HeadBody) : Bool :=
  match s.send.queue with
  | [] => false
  | e :: _ =>
    s.send.head == some .inFlight && s.send.context != .openCurrent && b.stream == e.stream && b.length == e.length &&
      b.seq == s.send.seq && b.attempt == s.send.attempt && s.returnHop b.hop

/-- An own HEAD given to the send unit (R60). -/
def State.ownHead (s : State) (b : HeadBody) : State :=
  let belongs := s.ownHeadBelongs b
  let s :=
    match s.send.context with
    | .openHeadless => State.countStale { s with send := { s.send with fault := false } }
    | .closed | .openCurrent | .openStale => s
  if belongs then { s with send := { s.send with context := .openCurrent, nextIndex := 0, fault := false } }
  else (s.setContext .openStale).countStale

/-- The length of the head entry's record, 0 without a head entry. -/
def SendUnit.headLength (u : SendUnit) : Nat :=
  match u.queue with
  | [] => 0
  | e :: _ => e.length.toNat

/-- An own DATA given to the send unit (R61). -/
def State.ownData (s : State) (d : DataBody) : State :=
  match s.send.context with
  | .openCurrent =>
    let wrong := d.index.toNat != s.send.nextIndex || decide (s.send.headLength ≤ d.index.toNat) || d.spare != 0
    { s with send := { s.send with fault := s.send.fault || wrong, nextIndex := d.index.toNat + 1 } }
  | .openHeadless | .openStale => s
  | .closed =>
    if s.send.head = some .inFlight then
      { s with send := { s.send with context := .openHeadless, fault := true } }
    else (s.setContext .openStale).countStale

/-- A VOID inside the returning record (R62). -/
def State.ownVoid (s : State) : State :=
  if s.send.context = .openCurrent then { s with send := { s.send with fault := true } } else s

/-- The returning record is truncated in active mode (R62). -/
def State.returnTruncated (s : State) : State :=
  match s.send.context with
  | .openCurrent => (s.setContext .closed).endWith .damaged 0 0
  | .openStale => s.setContext .closed
  | .closed | .openHeadless => s

/-- The returning record is truncated by a change of mode (R62): the attempt is not judged. -/
def State.returnAbandoned (s : State) : State :=
  match s.send.context with
  | .openCurrent | .openStale => s.setContext .closed
  | .closed | .openHeadless => s

/-- An own TAIL matches the attempt in flight (R63). -/
def State.ownTailMatches (s : State) (b : TailBody) : Bool :=
  s.send.head == some .inFlight && b.seq == s.send.seq && b.attempt == s.send.attempt

/-- The outcome of a judged attempt (R63). -/
def SendUnit.outcome (u : SendUnit) (fault : Bool) (b : TailBody) : SendStatus :=
  if fault || u.nextIndex != u.headLength || b.damaged then .damaged
  else if b.refused then .refused
  else .done

/-- An own TAIL given to the send unit (R63). The TAIL's counts are the last marks of the attempt it ends, whether it
matches or not. -/
def State.ownTail (s : State) (b : TailBody) : State :=
  let s' := s.setContext .closed
  match s.send.context, s.ownTailMatches b with
  | .openCurrent, true => s'.endWith (s.send.outcome s.send.fault b) b.accept b.held
  | .openCurrent, false => s'.endWith .damaged b.accept b.held
  | .openHeadless, true | .closed, true =>
    State.endWith { s' with send := { s'.send with fault := true } } (s.send.outcome true b) b.accept b.held
  | .openHeadless, false => State.countStale { s' with send := { s'.send with fault := false } }
  | .closed, false => s'.countStale
  | .openStale, _ => s'

/-! ### CANCEL, LEAVE and the census notice (R70 to R73) -/

/-- What CANCEL does to a matching head that does not complete at once (R56, R71). -/
def SendUnit.cancelHead (u : SendUnit) : SendUnit :=
  match u.head with
  | some .fetching => { u with disposition := some (u.disposition.getD .cancelled) }
  | some .inFlight => { u with cancelRequested := true }
  | _ => u

/-- CANCEL taken (R70): the head's completion first, then those behind it in queue order, then the next head. -/
def State.cancelSends (s : State) (tag : Halfword) : State :=
  match s.send.queue with
  | [] => s
  | e :: behind =>
    let gone := unsentEvents .cancelled (behind.filter (fun x => x.tag == tag))
    let s := { s with send := { s.send with queue := e :: behind.filter (fun x => x.tag != tag) } }
    if e.tag = tag then
      if s.send.head = some .staged ∨ s.send.head = some .retryWait then
        s.nextHead.postAll (s.send.headSent .cancelled ++ gone)
      else State.postAll { s with send := s.send.cancelHead } gone
    else s.postAll gone

/-- The attempt in flight ends without a TAIL: the attempt bit flips, the last marks are 0 and 0 (R66, R69, R72, R73). -/
def SendUnit.abandonAttempt (u : SendUnit) : SendUnit :=
  match u.head with
  | some .inFlight => (u.endAttempt).withMarks 0 0
  | _ => u

/-- The SENT events of LEAVE (R72): every entry in queue order, but a FETCHING head, which completes at the end of its
fetch. -/
def SendUnit.leftEvents (u : SendUnit) : List Event :=
  match u.head with
  | some .fetching => unsentEvents .left u.queue.tail
  | _ => u.abandonAttempt.headSent .left ++ unsentEvents .left u.queue.tail

/-- What LEAVE does in the send unit, less its SENT events (R72): every entry leaves the queue, but a FETCHING head, whose
pending disposition becomes LEFT unless one is recorded; an attempt in flight ends, and what has returned of its record
becomes stale. -/
def State.emptySends (s : State) : State :=
  match s.send.queue with
  | [] => s
  | e :: _ =>
    let s := { s with send := { s.send with queue := [e] } }
    match s.send.head with
    | some .fetching => { s with send := { s.send with disposition := some (s.send.disposition.getD .left) } }
    | some .inFlight => State.nextHead { s.contextToStale with send := s.contextToStale.send.abandonAttempt }
    | _ => s.nextHead

/-- What LEAVE does in the send unit, its SENT events posted one after another (R72). -/
def State.leaveSends (s : State) : State := s.emptySends.postAll s.send.leftEvents

/-- The SENT event of the notice of a census entry or of a change to BARRED (R73). -/
def SendUnit.ringLostEvents (u : SendUnit) : List Event :=
  match u.head with
  | some .inFlight | some .retryWait => u.abandonAttempt.headSent .ringLost
  | _ => []

/-- What the notice of a census entry or of a change to BARRED does in the send unit, from RUN or LEAVING, less its SENT
event (R73). -/
def State.ringLostSends (s : State) : State :=
  let s := { s with send := { s.send with returnTimer := none, gapTimer := none, context := .closed } }
  match s.send.head with
  | some .inFlight | some .retryWait => State.nextHead { s with send := s.send.abandonAttempt }
  | _ => s

/-- SEND taken: an entry joins the queue at its newest end and, in an empty queue, becomes the head (R52, R54). -/
def State.enqueue (s : State) (e : SendEntry) : State :=
  let s' := { s with send := { s.send with queue := s.send.queue ++ [e] } }
  if s.send.queue.isEmpty then s'.adoptHead else s'

/-! ### The commands -/

/-- ATTEMPT_BEGINS (R58). -/
def execAttemptBegins (o : Occasion) (s : State) : Host.Outcome State Fault Refusal := .next (s.live o (·.sendIfNext .record))

/-- OWN_RECORD_FRAME_SENT (R20). -/
def execOwnRecordFrameSent (o : Occasion) (s : State) : Host.Outcome State Fault Refusal :=
  .next (s.live o (·.sendIfNext .recordFrame))

/-- The return timer expires with the head IN_FLIGHT: the attempt is LOST (R64). -/
def State.attemptLost (s : State) : State :=
  if s.send.head = some .inFlight then s.contextToStale.endWith .lost 0 0
  else { s with send := { s.send with returnTimer := none } }

/-- RETURN_TIMER_EXPIRES (R64). -/
def execReturnTimerExpires (o : Occasion) (s : State) : Host.Outcome State Fault Refusal :=
  .next (s.live o (·.expiry (·.send.returnTimer) State.attemptLost))

/-- RETRY_GAP_TIMER_EXPIRES (R68): the timer stops, and from then on the record is offered while in RUN. -/
def execRetryGapTimerExpires (o : Occasion) (s : State) : Host.Outcome State Fault Refusal :=
  .next (s.live o (·.expiry (·.send.gapTimer) (fun s => { s with send := { s.send with gapTimer := none } })))

end Sys2Proof.Machine
end

