-- ==== Sys2Proof/Machine/Triggers.lean ====
section
/-! DEFINITION. The trigger unit (chapter 6, R121 to R137): the own trigger and its four ends, fire requests, the fire
schedule and the TRIG pin, and the commands OWN_TRIGGER_SENT, TRIGGER_RETURN_TIMER_EXPIRES, FIRE_DUE and
TRIG_PULSE_TIMER_EXPIRES. -/

namespace Sys2Proof.Machine

/-- The station is a member of a group (R122). -/
def TriggerUnit.isMember (u : TriggerUnit) (group : BitVec 3) : Bool := u.membership.getLsbD group.toNat

/-- A fire: the pulse timer starts or restarts, TRIG is high, TRIGGER_FIRED is posted (R133, R134). -/
def State.fire (s : State) (group : BitVec 3) (source : BitVec 5) : State :=
  State.post { s with trigger := { s.trigger with pulseTimer := s.timer pulseSpan, pin := true } }
    (.triggerFired group source)

/-- A fire request made now (R129, R132): with four entries held it is missed; otherwise it joins the schedule, and with
delay 0 it fires as it joins. -/
def State.requestFire (s : State) (group : BitVec 3) (source : BitVec 5) (delay : Time) : State :=
  if s.trigger.schedule.length < 4 then
    if delay = 0 then s.fire group source
    else
      { s with trigger := { s.trigger with
          schedule := s.trigger.schedule ++ [{ group := group, source := source, due := s.now + delay }] } }
  else s.post (.triggerMissed group source)

/-- The own trigger completes: the timer stops, nothing is pending, TRIGGER_DONE is posted (R136). -/
def State.finishTrigger (s : State) (status : TriggerStatus) : State :=
  State.post { s with trigger := { s.trigger with own := .none, group := none, returnTimer := none } }
    (.triggerDone (s.trigger.group.getD 0) status)

/-- The TRIGGER_DONE event with which LEAVE, a census entry or a change to BARRED ends a pending own trigger; with none
pending there is none (R127, R128, R136). -/
def TriggerUnit.abandonEvents (u : TriggerUnit) (status : TriggerStatus) : List Event :=
  if u.own = .none then [] else [.triggerDone (u.group.getD 0) status]

/-- A pending own trigger ends, less its TRIGGER_DONE event (R127, R128). -/
def State.dropTrigger (s : State) : State :=
  if s.trigger.own = .none then s
  else { s with trigger := { s.trigger with own := .none, group := none, returnTimer := none } }

/-- An own TRIGGER is the return of the pending trigger (R125). -/
def State.isTriggerReturn (s : State) (b : TriggerBody) : Bool :=
  s.trigger.own == .sent && s.trigger.group == some b.group && s.returnHop b.hop

/-- An own TRIGGER given to the trigger unit (R125): TRIGGER_DONE before the own fire (R136), or a stale return. -/
def State.ownTriggerFrame (s : State) (b : TriggerBody) : State :=
  if s.isTriggerReturn b then
    let s' := s.finishTrigger .done
    if s.trigger.isMember b.group then s'.requestFire b.group (s.member.number.getD 0) 0 else s'
  else s.countStale

/-- The delay of a member that is reached with hop h: (N − 1 − h) hop times (R130). -/
def State.fireDelay (s : State) (hop : BitVec 5) : Time :=
  (s.member.ringSize.toNat - 1 - hop.toNat) * s.member.hopTime.toNat

/-- Another station's TRIGGER given to the trigger unit (R130). -/
def State.otherTrigger (s : State) (b : TriggerBody) : State :=
  if s.trigger.isMember b.group then s.requestFire b.group b.source (s.fireDelay b.hop) else s

/-- TRIGGER taken: WAITING with the command's group, and the return timer starts (R123). -/
def State.raiseTrigger (s : State) (group : BitVec 3) : State :=
  { s with trigger := { s.trigger with own := .waiting, group := some group, returnTimer := s.timer triggerReturnSpan } }

/-- An entry of the schedule whose due time no other entry's precedes is the one that falls due (R132, R133): the clock
reaches its due time, the entry leaves and fires. -/
def State.fireEntry (s : State) (entry : Nat) : State :=
  match s.trigger.schedule[entry]? with
  | none => s
  | some f =>
    if s.trigger.schedule.all (fun g => decide (f.due ≤ g.due)) then
      let s := s.reach f.due
      State.fire { s with trigger := { s.trigger with schedule := s.trigger.schedule.eraseIdx entry } } f.group f.source
    else s

/-! ### The commands -/

/-- OWN_TRIGGER_SENT (R124). -/
def execOwnTriggerSent (o : Occasion) (s : State) : Host.Outcome State Fault Refusal :=
  .next (s.live o (·.sendIfNext .trigger))

/-- TRIGGER_RETURN_TIMER_EXPIRES (R126): a WAITING own TRIGGER is withdrawn, the trigger is LOST. -/
def execTriggerReturnTimerExpires (o : Occasion) (s : State) : Host.Outcome State Fault Refusal :=
  .next (s.live o (·.expiry (·.trigger.returnTimer) (·.finishTrigger .lost)))

/-- FIRE_DUE (R133). -/
def execFireDue (o : Occasion) (entry : Nat) (s : State) : Host.Outcome State Fault Refusal :=
  .next (s.live o (·.fireEntry entry))

/-- TRIG_PULSE_TIMER_EXPIRES (R134). -/
def execTrigPulseTimerExpires (o : Occasion) (s : State) : Host.Outcome State Fault Refusal :=
  .next (s.live o (·.expiry (·.trigger.pulseTimer)
    (fun s => { s with trigger := { s.trigger with pulseTimer := none, pin := false } })))

end Sys2Proof.Machine
end

