-- ==== Sys2Proof/Machine/Membership.lean ====
section
/-! DEFINITION. The membership unit (chapter 2, R23 to R50): the changes of forwarding mode (R10), census entry, attempts,
the election, numbering and closing, RUN entry, the failures of a census, BARRED, leaving, and the commands that send its
own frames and expire its timers. -/

namespace Sys2Proof.Machine

/-! ### Notices on a change of mode (R10) -/

/-- The input phase becomes CLEAR, the owner of an open record is told of a truncation on a change of mode, and frames of
an own record not yet begun are not sent (R10, R59). -/
def State.leaveMode (s : State) : State :=
  let s' :=
    match s.path.phase with
    | .forwarding => s.filterDiscard
    | .returning => s.returnAbandoned
    | .clear | .orphan => s
  State.endInsertion { s' with path := { s'.path with phase := .clear } }

/-- Entering census mode, the bypass buffer is emptied as well (R10). -/
def State.toCensusMode (s : State) : State :=
  let s := s.leaveMode
  { s with path := { s.path with bypass := [] } }

/-- The STATE event of a transition just made (R50). -/
def State.postState (s : State) (cause : StateCause) : State :=
  s.post (.stateChange s.member.station cause s.member.ringSize (s.member.number.getD 0) s.member.epoch)

/-- A WAITING own frame is withdrawn (R26, R43). -/
def OwnState.withdraw : OwnState → OwnState
  | .waiting => .none
  | .none => .none
  | .sent => .sent

/-- The own census frame that waits at the output arbiter is withdrawn. -/
def State.withdrawCensusFrame (s : State) : State := { s with path := { s.path with ownCensus := none } }

/-! ### Census entry (R29 to R31) -/

/-- An attempt starts (R31): CLAIMING, an own CLAIM ready, the census timer at 2 ms. -/
def State.startAttempt (s : State) : State :=
  { s with
    member := { s.member with sub := some .claiming, provisional := none, numberSent := none, claimBegun := false,
                              censusTimer := s.timer censusSpan }
    path := { s.path with ownCensus := some (.claim { spareHigh := 0, mark := s.member.mark, spareLow := 0 }) } }

/-- What every entry into CENSUS does (R29, R50), less the start of attempt 0 and the postings. -/
def State.openCensus (s : State) : State :=
  let s := if s.onRing then (s.toCensusMode).filterDiscard else s.toCensusMode
  State.countCensusEntry
    { (s.clearDuplicates) with
      member := { s.member with station := .census, attempts := 0, roster := Vector.replicate 30 none, number := none,
                                provisional := none, announce := .none, depart := .none, departTimer := none,
                                isolationTimer := none } }

/-- The STATE event of a census entry, none where R50 gives none. -/
def State.entryEvents (s : State) (cause : Option StateCause) : List Event :=
  match cause with
  | some c => [.stateChange s.member.station c s.member.ringSize (s.member.number.getD 0) s.member.epoch]
  | none => []

/-- The end of a census entry or of a change to BARRED: from RUN or LEAVING the send unit and the trigger unit act on the
notice (R30, R73, R127), and the three blocks post their events, each posting taken singly in the occasion's turns
(R171). -/
def State.ringLeft (s : State) (onRing : Bool) (cause : Option StateCause) : State :=
  if onRing then
    (s.ringLostSends.dropTrigger).postAll
      (takeTurns s.order s.send.ringLostEvents (s.trigger.abandonEvents .ringLost) (s.entryEvents cause))
  else s.postAll (s.entryEvents cause)

/-- A census entry with attempt 0 in CLAIMING (R29, R31). -/
def State.censusEntry (s : State) (cause : Option StateCause) : State :=
  (s.openCensus.startAttempt).ringLeft s.onRing cause

/-- A census entry from LEAVING (R44): the leave is pending, DEFERRED, no own CLAIM; the rest of R31's start of an attempt
holds as in any entry. -/
def State.censusEntryLeaving (s : State) (cause : StateCause) : State :=
  let s' := s.openCensus
  State.ringLeft
    { s' with member := { s'.member with leavePending := true, sub := some .deferred, claimBegun := false,
                                         numberSent := none, censusTimer := s'.timer censusSpan } }
    s.onRing (some cause)

/-- A cause of census entry at a station in RUN or LEAVING (R28). -/
def State.enterCensus (s : State) (cause : StateCause) : State :=
  if s.member.station = .leaving then s.censusEntryLeaving cause else s.censusEntry (some cause)

/-! ### Leaving CENSUS -/

/-- RUN entry (R39). An own RING_UP not yet sent is withdrawn (DESIGN CHOICE, notes/assumptions/9.md). -/
def State.enterRun (s : State) : State :=
  let s := s.withdrawCensusFrame
  let number := s.member.provisional.getD 0
  State.postState
    { s with member := { s.member with
        station := .run, sub := none, number := some number, censusTimer := none, claimBegun := false, attempts := 0,
        epoch := s.member.epoch + 1, roster := tableSet s.member.roster number (some s.member.mark),
        announce := .waiting } }
    .ringFormed

/-- ISOLATED entry (R41). -/
def State.enterIsolated (s : State) : State :=
  let s := s.withdrawCensusFrame
  State.postState
    { s with member := { s.member with station := .isolated, sub := none, censusTimer := none, provisional := none,
                                       isolationTimer := s.timer isolationSpan } }
    .censusFailed

/-- EXCLUDED entry (R42). -/
def State.enterExcluded (s : State) : State :=
  let s := s.withdrawCensusFrame
  State.postState
    { s with member := { s.member with station := .excluded, sub := none, censusTimer := none, attempts := 0 } }
    .overfull

/-- BARRED entry (R43), with the notices of R30 from RUN or LEAVING; the bypass buffer keeps its frames (R10). -/
def State.enterBarred (s : State) : State :=
  let s' := if s.onRing then ((s.leaveMode).filterDiscard).clearDuplicates else s
  let s' := s'.withdrawCensusFrame
  State.ringLeft
    { s' with member := { s'.member with
        station := .barred, sub := none, censusTimer := none, departTimer := none, isolationTimer := none,
        announce := s'.member.announce.withdraw, depart := s'.member.depart.withdraw, leavePending := false,
        provisional := none, number := none } }
    s.onRing (some .markClash)

/-- The mark clash of R33: BARRED, and the NUMBER send time becomes none. -/
def State.markClash (s : State) : State :=
  State.enterBarred { s with member := { s.member with numberSent := none } }

/-- The end of a leave-pending census (R44). A SEND taken since the leave became pending has put entries in the queue (R52),
and R74 leaves none in PASS but a FETCHING head with its disposition: they complete with LEFT before the STATE event, as at
a LEAVE (DEDUCED, notes/assumptions/31.md). -/
def State.endLeavePending (s : State) : State :=
  let s := s.leaveSends
  State.postState
    { s with member := { s.member with station := .pass, sub := none, leavePending := false, censusTimer := none } } .left

/-- LEAVE taken in CENSUS (R25). -/
def State.leaveCensus (s : State) : State :=
  let s := s.withdrawCensusFrame
  State.postState
    { s with member := { s.member with station := .pass, sub := none, censusTimer := none, provisional := none,
                                       claimBegun := false, leavePending := false } }
    .left

/-! ### Leaving the ring from RUN (R26) -/

/-- LEAVE taken in RUN: LEAVING, an own DEPART WAITING, the DEPART limit timer started (R26). -/
def State.startLeaving (s : State) : State :=
  { s with member := { s.member with station := .leaving, announce := s.member.announce.withdraw, depart := .waiting,
                                     departTimer := s.timer departSpan } }

/-- From LEAVING to PASS (R26). -/
def State.leaveRing (s : State) : State :=
  let s := s.leaveMode
  State.postState
    { s with member := { s.member with station := .pass, number := none, depart := .none, departTimer := none } } .left

/-! ### Census frames at a station in CENSUS (R32 to R38, R44) -/

/-- The station whose own CLAIM has returned becomes the originator (R35). -/
def State.becomeOriginator (s : State) : State :=
  { s with
    member := { s.member with provisional := some 1, sub := some .counting }
    path := { s.path with ownCensus := some (.number { count := 2, overfull := false, spare := 0 }) } }

/-- A CLAIM at a station in CLAIMING or DEFERRED (R32). -/
def State.judgeElection (s : State) (b : ClaimBody) : State :=
  if s.member.mark < b.mark then
    State.cutThrough { s.withdrawCensusFrame with member := { s.member with sub := some .deferred } } (.claim b)
  else if b.mark < s.member.mark then s
  else if s.member.claimBegun then s.becomeOriginator
  else s.markClash.forward (.claim b)

/-- A CLAIM at a station in CENSUS (R32, R33, R34, R44). -/
def State.censusClaim (s : State) (b : ClaimBody) : State :=
  if s.member.leavePending then s.cutThrough (.claim b)
  else match s.member.sub with
    | some .claiming | some .deferred => s.judgeElection b
    | some .numbered => s.startAttempt.judgeElection b
    | some .counting | some .closing =>
      if b.mark = s.member.mark then s.markClash.forward (.claim b) else s.startAttempt.judgeElection b
    | none => s

/-- The ring size that a returned NUMBER gives (R37). -/
def returnedSize (b : NumberBody) : BitVec 5 := if b.overfull then 30 else b.count - 1

/-- The hop time: the round trip divided by the ring size, rounded down, saturating (R37). -/
def measuredHopTime (roundTrip : Time) (size : BitVec 5) : BitVec 16 :=
  BitVec.ofNat 16 (min (roundTrip / size.toNat) 65535)

/-- The originator's NUMBER has returned (R37). -/
def State.numberReturned (s : State) (b : NumberBody) (sent : Time) : State :=
  if b.count = 1 ∧ b.overfull = false then s.startAttempt
  else
    let size := returnedSize b
    let hop := measuredHopTime (s.now - sent) size
    { s with
      member := { s.member with pendingSize := size, pendingHop := hop, sub := some .closing }
      path := { s.path with
        ownCensus := some (.ringUp { size := size, overfull := b.overfull, spare := 0, hopTime := hop }) } }

/-- A NUMBER at a station in CENSUS (R36, R37, R44). -/
def State.censusNumber (s : State) (b : NumberBody) : State :=
  if s.member.leavePending then s.cutThrough (.number b)
  else match s.member.sub with
    | some .claiming | some .deferred =>
      let s := s.withdrawCensusFrame
      if b.count.toNat ≤ 30 ∧ b.overfull = false then
        State.cutThrough { s with member := { s.member with provisional := some b.count, sub := some .numbered } }
          (.number { b with count := b.count + 1 })
      else
        State.cutThrough { s with member := { s.member with sub := some .deferred } }
          (.number { b with count := 31, overfull := true })
    | some .counting =>
      match s.member.numberSent with
      | none => s
      | some sent => s.numberReturned b sent
    | some .numbered | some .closing | none => s

/-- A RING_UP at a station in CENSUS (R38, R39, R42, R44). -/
def State.censusRingUp (s : State) (b : RingUpBody) : State :=
  if s.member.leavePending then (s.cutThrough (.ringUp b)).endLeavePending
  else match s.member.sub with
    | some .numbered =>
      let s' := s.cutThrough (.ringUp b)
      if (s.member.provisional.getD 0).toNat ≤ b.size.toNat then
        State.enterRun { s' with member := { s'.member with ringSize := b.size, hopTime := b.hopTime } }
      else s'.startAttempt
    | some .claiming | some .deferred =>
      let s' := s.cutThrough (.ringUp b)
      if b.overfull then s'.enterExcluded else s'.startAttempt
    | some .counting => s.startAttempt
    | some .closing =>
      State.enterRun { s with member := { s.member with ringSize := s.member.pendingSize, hopTime := s.member.pendingHop } }
    | none => s

/-! ### ANNOUNCE and DEPART at a station in RUN or LEAVING (R27, R46, R47) -/

/-- The own ANNOUNCE has returned (R47). -/
def State.isOwnAnnounce (s : State) (b : AnnounceBody) : Bool :=
  s.member.announce == .sent && b.mark == s.member.mark && s.returnHop b.hop

/-- An ANNOUNCE of the own ring number (R47). -/
def State.ownAnnounce (s : State) (b : AnnounceBody) : State :=
  if s.isOwnAnnounce b then { s with member := { s.member with announce := .none } }
  else if b.mark = s.member.mark then s.enterBarred.forward (.announce b)
  else s.enterCensus .rosterConflict

/-- The roster holds a mark at a ring number other than `n` (R46). -/
def rosterHoldsElsewhere (roster : Vector (Option (BitVec 16)) 30) (n : BitVec 5) (mark : BitVec 16) : Bool :=
  (List.range 30).any (fun i => roster[i]? == some (some mark) && i != n.toNat - 1)

/-- An ANNOUNCE of another ring number, neither own nor orphan (R46). -/
def State.otherAnnounce (s : State) (b : AnnounceBody) : State :=
  let entry := tableEntry s.member.roster b.number
  if b.mark = s.member.mark then s.enterBarred.forward (.announce b)
  else if s.member.ringSize.toNat < b.number.toNat then s.enterCensus .rosterConflict
  else if rosterHoldsElsewhere s.member.roster b.number b.mark then s.enterCensus .rosterConflict
  else if entry ≠ none ∧ entry ≠ some b.mark then s.enterCensus .rosterConflict
  else
    State.forward
      { s with member := { s.member with roster := tableSet s.member.roster b.number (some b.mark) } }
      (.announce { b with hop := b.hop + 1 })

/-- The own DEPART has returned (R27). -/
def State.isOwnDepart (s : State) (b : DepartBody) : Bool :=
  s.member.station == .leaving && s.member.depart == .sent && s.returnHop b.hop

/-- A DEPART with the own ring number (R27). -/
def State.ownDepart (s : State) (b : DepartBody) : State :=
  if s.isOwnDepart b then s.leaveRing else s.enterCensus .rosterConflict

/-! ### Own frames of the membership unit (R9, R26, R31, R35, R37, R47) -/

/-- A row that names the sending of one kind of own census frame. -/
def State.sendCensusIf (s : State) (kind : Frame → Bool) : State :=
  if s.path.ownCensus.any kind then s.sendIfNext .census else s

/-- OWN_CLAIM_SENT (R31). -/
def execOwnClaimSent (o : Occasion) (s : State) : Host.Outcome State Fault Refusal :=
  .next (s.live o (·.sendCensusIf Frame.isClaim))

/-- OWN_NUMBER_SENT (R35). -/
def execOwnNumberSent (o : Occasion) (s : State) : Host.Outcome State Fault Refusal :=
  .next (s.live o (·.sendCensusIf Frame.isNumber))

/-- OWN_RING_UP_SENT (R37). -/
def execOwnRingUpSent (o : Occasion) (s : State) : Host.Outcome State Fault Refusal :=
  .next (s.live o (·.sendCensusIf Frame.isRingUp))

/-- OWN_ANNOUNCE_SENT (R47). -/
def execOwnAnnounceSent (o : Occasion) (s : State) : Host.Outcome State Fault Refusal :=
  .next (s.live o (·.sendIfNext .announce))

/-- OWN_DEPART_SENT (R26). -/
def execOwnDepartSent (o : Occasion) (s : State) : Host.Outcome State Fault Refusal :=
  .next (s.live o (·.sendIfNext .depart))

/-! ### Timers of the membership unit -/

/-- The census timer has expired (R40, R44). -/
def State.censusTimedOut (s : State) : State :=
  if s.member.leavePending then s.endLeavePending
  else
    let s := { s with member := { s.member with attempts := s.member.attempts + 1 } }
    if 8 ≤ s.member.attempts then s.enterIsolated else s.startAttempt

/-- CENSUS_TIMER_EXPIRES (R40). -/
def execCensusTimerExpires (o : Occasion) (s : State) : Host.Outcome State Fault Refusal :=
  .next (s.live o (·.expiry (·.member.censusTimer) State.censusTimedOut))

/-- ISOLATION_INTERVAL_EXPIRES (R41): a census entry that posts no STATE event. -/
def execIsolationIntervalExpires (o : Occasion) (s : State) : Host.Outcome State Fault Refusal :=
  .next (s.live o (·.expiry (·.member.isolationTimer) (·.censusEntry none)))

/-- DEPART_LIMIT_TIMER_EXPIRES (R26). -/
def execDepartLimitTimerExpires (o : Occasion) (s : State) : Host.Outcome State Fault Refusal :=
  .next (s.live o (·.expiry (·.member.departTimer) State.leaveRing))

end Sys2Proof.Machine
end

