-- ==== Sys2Proof/Machine/Arrivals.lean ====
section
/-! DEFINITION. The ring receiver's reports and the handling of each arriving frame (R1, R4, R7 to R17): the commands
LINK_UP, LINK_LOSS, FILL, FILL_SYMBOL_ARRIVES and the eleven arrivals, and the two commands that send frames from upstream,
BYPASS_BUFFER_FRAME_SENT and ARRIVING_FRAME_FORWARDED. -/

namespace Sys2Proof.Machine

/-! ### Link status (R4) -/

/-- A decodable symbol arrives: in DOWN it sets UP and is reported to the membership unit, for which it is a census entry
in ISOLATED (R41, R48); in UP it restarts the link-loss timer (R4). -/
def State.symbolArrives (s : State) : State :=
  let s' := { s with receiver := { s.receiver with up := true, lossTimer := s.timer linkLossSpan, lostAt := none } }
  if s.receiver.up then s'
  else if s.member.station = .isolated then s'.censusEntry none
  else s'

/-- A truncation in active mode: the phase becomes CLEAR, and its owner is told (R15). -/
def State.truncate (s : State) : State :=
  let s' := { s with path := { s.path with phase := .clear } }
  match s.path.phase with
  | .forwarding => s'.filterTruncated
  | .returning => s'.returnTruncated
  | .clear | .orphan => s'

/-- Fill or link loss at the forwarding path: in active mode it truncates an open record (R8, R9, R15). -/
def State.pathFill (s : State) : State := if s.onRing then s.truncate else s

/-- Link loss at the membership unit: a census entry in RUN and LEAVING, nothing elsewhere (R48). -/
def State.memberLinkLoss (s : State) : State := if s.onRing then s.enterCensus .linkLoss else s

/-- The link-loss timer expires (R4): DOWN, counted, and reported to the forwarding path and the membership unit, which
may take it in either order (R62, R95). -/
def State.linkLost (s : State) (truncationFirst : Bool) : State :=
  let s := State.countLinkLoss
    { s with receiver := { s.receiver with up := false, lossTimer := none, lostAt := some s.now } }
  if truncationFirst then s.pathFill.memberLinkLoss else s.memberLinkLoss.pathFill

/-- LINK_UP (R4). -/
def execLinkUp (o : Occasion) (s : State) : Host.Outcome State Fault Refusal := .next (s.live o State.symbolArrives)

/-- LINK_LOSS (R4). -/
def execLinkLoss (o : Occasion) (truncationFirst : Bool) (s : State) : Host.Outcome State Fault Refusal :=
  .next (s.live o (·.expiry (·.receiver.lossTimer) (·.linkLost truncationFirst)))

/-- The receiver reports fill: at the end of a frame time in which no start symbol began, so no earlier than one frame time
after the frame before it, and a frame that follows is judged one frame time later or more (R1, notes/assumptions/10.md).
The report itself is no symbol: the fill symbols that restart the link-loss timer are FILL_SYMBOL_ARRIVES (R4). While the
link is DOWN the receiver reports none (R4). -/
def State.fillReported (s : State) : State :=
  if s.receiver.up then
    let s := s.reach s.receiver.nextFrame
    State.pathFill { s with receiver := { s.receiver with nextFrame := s.now + frameTime } }
  else s

/-- FILL (R15). -/
def execFill (o : Occasion) (s : State) : Host.Outcome State Fault Refusal := .next (s.live o State.fillReported)

/-- FILL_SYMBOL_ARRIVES (R4). -/
def execFillSymbolArrives (o : Occasion) (s : State) : Host.Outcome State Fault Refusal :=
  .next (s.live o State.symbolArrives)

/-! ### Receiving a frame (R1, R4) -/

/-- The link-loss timer once a frame has arrived whose last decodable symbol is `silence` old: that symbol has restarted it
at 32 µs, unless a later one has, a fill symbol reported by itself (R4); without a decodable symbol it runs on. -/
def Receiver.restarted (r : Receiver) (now : Time) (silence : Option Time) : Timer :=
  match silence with
  | none => r.lossTimer
  | some 0 => some (now + linkLossSpan)
  | some d => some (max (r.lossTimer.getD 0) (now + linkLossSpan - d))

/-- The moment a frame is judged: no earlier than one frame time after the frame before it (R1). Its decodable symbols, the
last of them `silence` before this moment, have restarted the link-loss timer (R4, notes/assumptions/15.md), and an arriving
frame that waited for the output has gone out by now (R19). -/
def State.frameJudged (s : State) (silence : Option Time) : State :=
  let s := s.reach s.receiver.nextFrame
  State.flushWaiting
    { s with receiver := { s.receiver with lossTimer := s.receiver.restarted s.now silence,
                                           nextFrame := s.now + frameTime } }

/-- A frame whose last symbol decodes is judged at the very moment of the link loss since which the link is DOWN: the two
have fallen together, and the loss has been taken first (R48, notes/assumptions/34.md). -/
def State.endsAtLoss (s : State) (silence : Option Time) : Bool :=
  silence == some 0 && s.receiver.lostAt == some (max s.now s.receiver.nextFrame)

/-- A frame is received and handled; while the link is DOWN the receiver delivers none (R4), but the one that falls together
with the link loss: its last symbol sets UP, and it is judged in the state that the loss has left (R48). -/
def State.receive (s : State) (silence : Option Time) (handle : State → State) : State :=
  if s.receiver.up then handle (s.frameJudged silence)
  else if s.endsAtLoss silence then handle (s.frameJudged silence).symbolArrives
  else s

/-- What a step in which a frame arrives answers: the bypass buffer has 72 places (R18). -/
def withinBypass (s : State) : Host.Outcome State Fault Refusal :=
  if s.path.bypass.length ≤ 72 then .next s else .fault .bypassOverrun

/-- The step in which a frame arrives; `silence` as in `State.frameJudged`. -/
def arrivalStep (o : Occasion) (silence : Option Time) (handle : State → State) (s : State) :
    Host.Outcome State Fault Refusal :=
  withinBypass (s.live o (·.receive silence handle))

/-! ### Bad and malformed frames (R8, R9, R12) -/

/-- The VOID this station puts in place of a bad frame (R12, R184). -/
def State.ownVoidBody (s : State) : VoidBody := { station := s.member.number.getD 0, spare := 0, hop := 0 }

/-- A VOID is substituted for a bad or malformed frame (R12). -/
def State.substituteVoid (s : State) : State :=
  let s := s.countVoided
  match s.path.phase with
  | .clear => s.forward (.void s.ownVoidBody)
  | .forwarding => s.filterVoid.forward (.void s.ownVoidBody)
  | .returning => s.ownVoid
  | .orphan => s

/-- A bad or malformed frame, in each mode (R8, R9, R12). -/
def State.badFrame (s : State) (f : Frame) : State :=
  match s.mode with
  | .transparent => s.forward f
  | .census => s
  | .active => s.substituteVoid

/-- A good frame that is not a census frame: as a bad frame when it is malformed (R3), unchanged in transparent mode (R8),
discarded in census mode (R9), handled by `act` in active mode (R11). In census mode an own TAIL is discarded and no counter
is touched, as R9 and R73 say; R30 calls it a stale return (notes/assumptions/6.md). -/
def State.byMode (s : State) (f : Frame) (act : State → State) : State :=
  if f.unusable then s.badFrame f
  else match s.mode with
    | .transparent => s.forward f
    | .census => s
    | .active => act s

/-! ### Own frames and orphans (R13, R14) -/

/-- A source field names this station (R13). -/
def State.isOwn (s : State) (source : BitVec 5) : Bool := s.member.number == some source

/-- A hop of N − 1 or more (R14). -/
def State.orphanHop (s : State) (hop : BitVec 5) : Bool := decide (s.member.ringSize.toNat ≤ hop.toNat + 1)

/-- The input phase becomes `p`. -/
def State.setPhase (s : State) (p : InputPhase) : State := { s with path := { s.path with phase := p } }

/-! ### Record frames in active mode (R11, R13 to R17) -/

/-- A HEAD (R11, R13, R14, R17). -/
def State.activeHead (s : State) (b : HeadBody) : State :=
  let s := s.truncate
  if s.isOwn b.source then (s.ownHead b).setPhase .returning
  else if s.orphanHop b.hop then s.countOrphan.setPhase .orphan
  else ((s.filterHead b).setPhase .forwarding).forward (.head { b with hop := b.hop + 1 })

/-- A DATA (R13, R16). -/
def State.activeData (s : State) (b : DataBody) : State :=
  if s.isOwn b.source then s.ownData b
  else match s.path.phase with
    | .forwarding => (s.filterData b).forward (.data b)
    | .orphan => s
    | .clear | .returning => s.countStray

/-- A TAIL (R13, R16, R91). -/
def State.activeTail (s : State) (b : TailBody) : State :=
  if s.isOwn b.source then
    (s.ownTail b).setPhase (if s.path.phase = .returning then .clear else s.path.phase)
  else match s.path.phase with
    | .forwarding => ((s.filterTail b).setPhase .clear).forward (.tail (s.markedTail b))
    | .orphan => s.setPhase .clear
    | .clear | .returning => s.countStray

/-! ### Control frames in active mode -/

/-- A TRIGGER (R13, R14, R17): a forwarded one goes ahead of the bypass buffer and of own insertions (R19, R21). A stripped
one leaves its frame time to the arbiter (notes/assumptions/33.md). -/
def State.activeTrigger (s : State) (b : TriggerBody) : State :=
  if s.isOwn b.source then s.ownTriggerFrame b
  else if s.orphanHop b.hop then s.countOrphan
  else (s.otherTrigger b).overtake (.trigger { b with hop := b.hop + 1 })

/-- A VOID (R13, R14, R17): inside a returning record it is given to the send unit as well. A stripped one leaves its frame
time to the arbiter (notes/assumptions/33.md). -/
def State.activeVoid (s : State) (b : VoidBody) : State :=
  let s := if s.path.phase = .returning then s.ownVoid else s
  if s.isOwn b.station then s
  else if s.orphanHop b.hop then s.countOrphan
  else
    let s := if s.path.phase = .forwarding then s.filterVoid else s
    s.forward (.void { b with hop := b.hop + 1 })

/-- An ANNOUNCE (R13, R14, R46, R47). -/
def State.activeAnnounce (s : State) (b : AnnounceBody) : State :=
  let s := s.truncate
  if s.isOwn b.number then s.ownAnnounce b
  else if s.orphanHop b.hop then s.countOrphan
  else s.otherAnnounce b

/-- A DEPART (R13, R14, R27): another station's is discarded by the census it causes. -/
def State.activeDepart (s : State) (b : DepartBody) : State :=
  let s := s.truncate
  if s.isOwn b.source then s.ownDepart b
  else if s.orphanHop b.hop then s.countOrphan
  else s.enterCensus .departSeen

/-! ### Census frames (R7, R8, R9, R28, R44) -/

/-- A good census frame in each mode. In active mode it causes a census entry and is then handled as a census frame, but
that a NUMBER or RING_UP met in RUN is discarded (R28); `after` is what that handling is at a station that was in RUN. In
transparent mode a CLAIM is a census entry in ISOLATED and EXCLUDED (R8, R41, R42). -/
def State.censusFrame (s : State) (f : Frame) (judge after : State → State) : State :=
  if f.unusable then s.badFrame f
  else match s.mode with
    | .census => judge s
    | .active =>
      let s' := s.truncate.enterCensus .claimSeen
      if s'.member.leavePending then s'.cutThrough f else after s'
    | .transparent =>
      if (s.member.station = .isolated ∨ s.member.station = .excluded) ∧ f.isClaim then
        judge (s.censusEntry (some .claimSeen))
      else s.forward f

/-! ### The commands

Every symbol of a good frame decodes (R2), so that its last one arrives at the moment of the judgment. -/

/-- BAD_FRAME_ARRIVES (R12). -/
def execBadFrameArrives (o : Occasion) (r : RawFrame) (s : State) : Host.Outcome State Fault Refusal :=
  arrivalStep o r.silence (·.badFrame (.raw r)) s

/-- HEAD_ARRIVES (R17). -/
def execHeadArrives (o : Occasion) (b : HeadBody) (s : State) : Host.Outcome State Fault Refusal :=
  arrivalStep o (some 0) (·.byMode (.head b) (·.activeHead b)) s

/-- DATA_ARRIVES (R16). -/
def execDataArrives (o : Occasion) (b : DataBody) (s : State) : Host.Outcome State Fault Refusal :=
  arrivalStep o (some 0) (·.byMode (.data b) (·.activeData b)) s

/-- TAIL_ARRIVES (R85). -/
def execTailArrives (o : Occasion) (b : TailBody) (s : State) : Host.Outcome State Fault Refusal :=
  arrivalStep o (some 0) (·.byMode (.tail b) (·.activeTail b)) s

/-- CLAIM_ARRIVES (R32). -/
def execClaimArrives (o : Occasion) (b : ClaimBody) (s : State) : Host.Outcome State Fault Refusal :=
  arrivalStep o (some 0) (·.censusFrame (.claim b) (·.censusClaim b) (·.censusClaim b)) s

/-- NUMBER_ARRIVES (R36). -/
def execNumberArrives (o : Occasion) (b : NumberBody) (s : State) : Host.Outcome State Fault Refusal :=
  arrivalStep o (some 0) (·.censusFrame (.number b) (·.censusNumber b) id) s

/-- RING_UP_ARRIVES (R38). -/
def execRingUpArrives (o : Occasion) (b : RingUpBody) (s : State) : Host.Outcome State Fault Refusal :=
  arrivalStep o (some 0) (·.censusFrame (.ringUp b) (·.censusRingUp b) id) s

/-- ANNOUNCE_ARRIVES (R46). -/
def execAnnounceArrives (o : Occasion) (b : AnnounceBody) (s : State) : Host.Outcome State Fault Refusal :=
  arrivalStep o (some 0) (·.byMode (.announce b) (·.activeAnnounce b)) s

/-- TRIGGER_ARRIVES (R130). -/
def execTriggerArrives (o : Occasion) (b : TriggerBody) (s : State) : Host.Outcome State Fault Refusal :=
  arrivalStep o (some 0) (·.byMode (.trigger b) (·.activeTrigger b)) s

/-- VOID_ARRIVES (R13). -/
def execVoidArrives (o : Occasion) (b : VoidBody) (s : State) : Host.Outcome State Fault Refusal :=
  arrivalStep o (some 0) (·.byMode (.void b) (·.activeVoid b)) s

/-- DEPART_ARRIVES (R27). -/
def execDepartArrives (o : Occasion) (b : DepartBody) (s : State) : Host.Outcome State Fault Refusal :=
  arrivalStep o (some 0) (·.byMode (.depart b) (·.activeDepart b)) s

/-! ### Frames from upstream on the ring output (R18, R19) -/

/-- BYPASS_BUFFER_FRAME_SENT (R18). -/
def execBypassBufferFrameSent (o : Occasion) (s : State) : Host.Outcome State Fault Refusal :=
  .next (s.live o (·.sendIfNext .buffered))

/-- ARRIVING_FRAME_FORWARDED (R19). -/
def execArrivingFrameForwarded (o : Occasion) (s : State) : Host.Outcome State Fault Refusal :=
  .next (s.live o (·.sendIfNext .arriving))

end Sys2Proof.Machine
end

