-- ==== Sys2Proof/Machine/Configuration.lean ====
section
/-! DEFINITION. The configuration loader (section 8.5, R157 to R164): the validation of a record, its load in one step, and
the ends of a load. -/

namespace Sys2Proof.Machine

/-! ### Validation (R161) -/

/-- Checks 6 and 7, entry by entry from position `index`: a stream that an entry before it names, then a ring without at
least 2 slots. -/
def entryFault (slots : BitVec 2 → Nat) :
    List (BitVec 6) → Nat → List (BitVec 6 × BitVec 2) → Option (RejectReason × Nat)
  | _, _, [] => none
  | seen, index, (stream, ring) :: rest =>
    if seen.contains stream then some (.subscriptionDuplicate, index)
    else if slots ring < 2 then some (.subscriptionRing, index)
    else entryFault slots (stream :: seen) (index + 1) rest

/-- A slot count that a ring may have: 0, or 2 to 128. -/
def slotCountAllowed (n : Nat) : Bool := n == 0 || (decide (2 ≤ n) && decide (n ≤ 128))

/-- The first failing check of a record, with its index, 0 where the table gives none (R161). -/
def recordFault (words : List Word) : Option (RejectReason × Nat) :=
  if recordMark words = 0 then some (.mark, 0)
  else if 15 < recordRetryLimit words then some (.retryLimit, 0)
  else if !([1, 2, 4, 8].contains (recordBurstLength words)) then some (.burstLength, 0)
  else match (List.range 4).find? (fun r => !slotCountAllowed (recordSlots words r)) with
    | some r => some (.ringSlots, r)
    | none =>
      if 16 < recordSubscriptionCount words then some (.subscriptionCount, 0)
      else entryFault (fun r => recordSlots words r.toNat) [] 0 (recordSubscriptions words)

/-! ### The ends of a load -/

/-- The load ends: the loading sub-flag clears, the load address becomes none, the load buffer empties. -/
def HostPort.endLoad (h : HostPort) : HostPort := { h with loading := false, loadAddress := none, loadBuffer := [] }

/-- The descriptor a record gives ring `r` (R101, R162). -/
def recordRing (words : List Word) (r : Nat) : DeliveryRing :=
  { base := recordBase words r, slots := recordSlots words r, writeIndex := 0, filled := 0, reserved := 0, delivered := 0 }

/-- A valid record is loaded in one step, the station goes to PASS, and CONFIGURED is posted (R162). -/
def State.loadRecord (s : State) (words : List Word) : State :=
  State.post
    { s with
      member := { s.member with mark := recordMark words, station := .pass }
      send := { s.send with retryLimit := recordRetryLimit words }
      bus := { s.bus with burstLength := recordBurstLength words, order := recordOrder words }
      trigger := { s.trigger with membership := recordMembership words }
      delivery := { s.delivery with rings := Vector.ofFn (fun r : Fin 4 => recordRing words r.val) }
      filter := { s.filter with subscriptions := recordSubscriptions words }
      host := s.host.endLoad }
    (.configured (recordMark words))

/-- The twentieth word has been read: the record is validated at once, and loaded or rejected (R158, R161, R162). -/
def State.loadCompleted (s : State) : State :=
  match recordFault s.host.loadBuffer with
  | none => s.loadRecord s.host.loadBuffer
  | some (reason, index) => State.post { s with host := s.host.endLoad } (.configRejected reason index)

/-- The loader request has failed (R159). -/
def State.loadFailed (s : State) (cause : BusCause) (address : Word) : State :=
  State.post { s with host := s.host.endLoad } (.configFault cause address)

/-- CONFIGURE taken: the load begins (R158). -/
def State.startLoad (s : State) (address : Word) : State :=
  State.makeRequest { s with host := { s.host with loading := true, loadAddress := some address, loadBuffer := [] } }
    .loader false address 20

end Sys2Proof.Machine
end

