-- ==== Sys2Proof/Machine/BusAnswers.lean ====
section
/-! DEFINITION. The bus partner's answers and the bus timeout (R144, R145, R146): the commands BUS_WORD_ANSWERED and
BUS_TIMEOUT, and what the end of a request does at its client. -/

namespace Sys2Proof.Machine

/-- What the client is told at a completed request (R146). -/
def State.requestCompleted (s : State) : Client → State
  | .loader => s.loadCompleted
  | .fetch => s.fetchCompleted
  | .delivery => s.deliveryRequestCompleted

/-- What the client is told at a failed request (R146). -/
def State.requestFailed (s : State) (c : Client) (cause : BusCause) (address : Word) : State :=
  match c with
  | .loader => s.loadFailed cause address
  | .fetch => s.fetchFailed
  | .delivery => s.failDelivery cause address

/-- A word answered without an error: a read word is handed to the client, a write word is written (R144). -/
def State.transferWord (s : State) (b : Burst) (r : Request) (data : Word) : State :=
  match b.client with
  | .loader => { s with host := { s.host with loadBuffer := s.host.loadBuffer ++ [data] } }
  | .fetch => s.stageWord data
  | .delivery =>
    { s with outside := { s.outside with
        written := writeWord s.outside.written b.address.toNat (s.deliveryWord (r.done + b.answered)) } }

/-- No burst is current and the bus timeout timer is stopped. -/
def BusMaster.endBurst (b : BusMaster) : BusMaster := { b with burst := none, timeout := none }

/-- The current burst ends failed at the presented word, and its request with it (R144, R145, R146); the arbiter grants
again. -/
def State.failBurst (s : State) (b : Burst) (cause : BusCause) : State :=
  let s := { s with bus := (s.bus.endBurst).setRequest b.client none }
  (s.requestFailed b.client cause b.address).grant

/-- The last word of the current burst has been transferred (R144): the request's next word advances past it, or the
request completes (R146); the arbiter grants again. -/
def State.completeBurst (s : State) (b : Burst) (r : Request) : State :=
  let done := r.done + b.words
  if r.words ≤ done then
    (State.requestCompleted { s with bus := (s.bus.endBurst).setRequest b.client none } b.client).grant
  else State.grant { s with bus := (s.bus.endBurst).setRequest b.client (some { r with done := done }) }

/-- A presented word is answered without an error (R144): the next word of the burst is presented and the timer restarts
(R145), or the burst ends. -/
def State.answerWord (s : State) (b : Burst) (r : Request) (data : Word) : State :=
  let s := s.transferWord b r data
  if b.answered + 1 < b.words then
    { s with bus := { s.bus with burst := some { b with answered := b.answered + 1 }, timeout := s.timer busTimeoutSpan } }
  else s.completeBurst b r

/-- The bus partner's answer: to the presented word (R144); a late one, to a word whose transfer has ended, and one with no
word presented are ignored (R145). -/
def State.busAnswer (s : State) (answer : BusAnswer) : State :=
  match s.bus.burst with
  | none => s
  | some b =>
    match s.bus.request b.client, answer with
    | none, _ => s
    | some r, .ok data => s.answerWord b r data
    | some _, .error => s.failBurst b .error
    | some _, .late => s

/-- The bus timeout timer has expired (R145). -/
def State.busTimedOut (s : State) : State :=
  match s.bus.burst with
  | none => s
  | some b => s.failBurst b .timeout

/-- BUS_WORD_ANSWERED (R144). -/
def execBusWordAnswered (o : Occasion) (answer : BusAnswer) (s : State) : Host.Outcome State Fault Refusal :=
  .next (s.live o (·.busAnswer answer))

/-- BUS_TIMEOUT (R145). -/
def execBusTimeout (o : Occasion) (s : State) : Host.Outcome State Fault Refusal :=
  .next (s.live o (·.expiry (·.bus.timeout) State.busTimedOut))

end Sys2Proof.Machine
end

