-- ==== Sys2Proof/Machine/HostPort.lean ====
section
/-! DEFINITION. The host port (chapter 8) and the QUERY command (9.4): the register window (R150, R188), the command
collector (R151 to R155), the judgment of the nine commands, and the commands the host makes of the controller. -/

namespace Sys2Proof.Machine

/-! ### The nine commands (8.3). Each answers COMMAND STATUS's value and the state; a refusal leaves the state (R154). -/

/-- CONFIGURE (R157, R158). -/
def State.judgeConfigure (s : State) (address : Word) : CommandValue × State :=
  if s.member.station ≠ .config then (.state, s)
  else if s.host.loading then (.busy, s)
  else if address.toNat % 4 ≠ 0 then (.range, s)
  else (.ok, s.startLoad address)

/-- JOIN (R24). -/
def State.judgeJoin (s : State) : CommandValue × State :=
  if s.member.station = .pass then (.ok, s.censusEntry (some .joined)) else (.state, s)

/-- LEAVE in RUN (R25, R26, R72, R93, R128): the station leaves, the send unit and the trigger unit end their work, the open
record context is discarded, and the two units post their events, each posting taken singly in the occasion's turns
(R171). -/
def State.leaveRun (s : State) : State :=
  ((((s.filterDiscard).startLeaving).emptySends).dropTrigger).postAll
    (takeTurns s.order s.send.leftEvents (s.trigger.abandonEvents .left) [])

/-- LEAVE (R25, R72): sends complete before STATE with cause LEFT is posted (2.10). -/
def State.judgeLeave (s : State) : CommandValue × State :=
  match s.member.station with
  | .run => (.ok, s.leaveRun)
  | .census => (.ok, s.leaveSends.leaveCensus)
  | .isolated =>
    (.ok, State.postState
      { s.leaveSends with member := { s.member with station := .pass, isolationTimer := none } } .left)
  | .excluded => (.ok, State.postState { s.leaveSends with member := { s.member with station := .pass } } .left)
  | .config | .pass | .leaving | .barred => (.state, s)

/-- SEND (R52). -/
def State.judgeSend (s : State) (stream length : BitVec 8) (address : Word) (tag : Halfword) : CommandValue × State :=
  match s.member.station with
  | .config | .pass | .leaving | .barred => (.state, s)
  | .run | .census | .isolated | .excluded =>
    if 64 < length.toNat ∨ 63 < stream.toNat ∨ address.toNat % 4 ≠ 0 then (.range, s)
    else if 16 ≤ s.send.queue.length then (.full, s)
    else (.ok, s.enqueue { stream := stream.setWidth 6, length := length.setWidth 7, address := address, tag := tag })

/-- CANCEL (R70). -/
def State.judgeCancel (s : State) (tag : Halfword) : CommandValue × State :=
  if s.send.queue.any (fun e => e.tag == tag) then (.ok, s.cancelSends tag) else (.noMatch, s)

/-- TRIGGER (R123). -/
def State.judgeTrigger (s : State) (group : BitVec 8) : CommandValue × State :=
  if s.member.station ≠ .run then (.state, s)
  else if 7 < group.toNat then (.range, s)
  else if s.trigger.own ≠ .none then (.busy, s)
  else (.ok, s.raiseTrigger (group.setWidth 3))

/-- RELEASE (R114). -/
def State.judgeRelease (s : State) (ring n : BitVec 8) : CommandValue × State :=
  let r : BitVec 2 := ring.setWidth 2
  if 3 < ring.toNat ∨ (s.delivery.ring r).slots = 0 then (.range, s)
  else if (s.delivery.ring r).filled < n.toNat then (.range, s)
  else (.ok, s.releaseSlots r n.toNat)

/-- RESUME (R112, R113). -/
def State.judgeResume (s : State) (skip : Bool) : CommandValue × State :=
  match s.delivery.engine with
  | .halted _ _ => (.ok, if skip then s.skipDelivery else s.resumeDelivery)
  | .idle | .delivering _ _ _ => (.state, s)

/-- A report is entered, and a COUNTERS report clears the counters in the same step (R177, R179). -/
def State.enterReport (s : State) (subject : Subject) : State :=
  let s' := s.post (.report subject (reportContents subject s))
  match subject with
  | .counters => { s' with counters := .zero }
  | .roster | .ring | .queues => s'

/-- QUERY (R177). -/
def State.judgeQuery (s : State) (subject : BitVec 8) : CommandValue × State :=
  match Subject.ofByte subject with
  | none => (.range, s)
  | some subject =>
    if s.events.free < (Event.report subject (reportContents subject s)).length then (.full, s)
    else (.ok, s.enterReport subject)

/-- A whole command is judged by the rule that owns it (R155). -/
def State.judge (s : State) : HostCommand → CommandValue × State
  | .configure address => s.judgeConfigure address
  | .join => s.judgeJoin
  | .leave => s.judgeLeave
  | .send stream length address tag => s.judgeSend stream length address tag
  | .cancel tag => s.judgeCancel tag
  | .trigger group => s.judgeTrigger group
  | .release ring n => s.judgeRelease ring n
  | .resume skip => s.judgeResume skip
  | .query subject => s.judgeQuery subject

/-! ### The command collector (R151, R152, R153) -/

/-- COMMAND STATUS is set. -/
def State.setStatus (s : State) (value : CommandValue) (code : BitVec 8) (words : Nat) : State :=
  { s with host := { s.host with status := { value := value, code := code, words := words } } }

/-- The record is whole: the collector empties, the command is judged, and COMMAND STATUS is its result (R152, R155). -/
def State.finishCommand (s : State) (code : BitVec 8) (words : List Halfword) : State :=
  let s := { s with host := { s.host with collector := none } }
  match HostCommand.ofWords code words with
  | some c => State.setStatus (s.judge c).2 (s.judge c).1 code words.length
  | none => s.setStatus .unknown code 0

/-- The collector holds the words so far, and COMMAND STATUS shows them (R151, R152). -/
def State.collect (s : State) (code : BitVec 8) (count : Nat) (words : List Halfword) : State :=
  State.setStatus { s with host := { s.host with collector := some { code := code, count := count, words := words } } }
    .collecting code words.length

/-- A write to COMMAND (R151, R152). -/
def State.writeCommand (s : State) (w : Halfword) : State :=
  match s.host.collector with
  | some c =>
    if c.words.length + 1 < c.count then s.collect c.code c.count (c.words ++ [w])
    else s.finishCommand c.code (c.words ++ [w])
  | none =>
    if codeCount (wordCode w) = some (wordCount w) then
      if wordCount w = 1 then s.finishCommand (wordCode w) [w] else s.collect (wordCode w) (wordCount w) [w]
    else s.setStatus .unknown (wordCode w) 0

/-- The host writes a whole command record to COMMAND, word after word. With no command being collected the record is whole
at its last word and is judged then (R152, R155); its words join a command that is being collected (R152). -/
def State.writeRecord (s : State) (c : HostCommand) : State :=
  match s.host.collector with
  | none => State.setStatus (s.judge c).2 (s.judge c).1 c.code c.words.length
  | some _ => c.words.foldl State.writeCommand s

/-- A write to COMMAND CLEAR (R153). -/
def State.clearCommand (s : State) : State :=
  State.setStatus { s with host := { s.host with collector := none } } .idle 0 0

/-! ### The register window (R150, R188, 11.6) -/

/-- A write of the window: bits 4–1 of the slave address select the register (R188); what names no writable register is
ignored (R150). -/
def State.windowWrite (s : State) (address : BitVec 5) (value : Halfword) : State :=
  match (address.extractLsb' 1 4).toNat with
  | 0 => s.writeCommand value
  | 1 => s.clearCommand
  | 7 => { s with events := { s.events with enable := value.getLsbD 0 } }
  | _ => s

/-- The halfword a read of the window returns (R150, R188); zero while RESET is asserted. -/
def State.windowValue (s : State) (address : BitVec 5) : Halfword :=
  if s.resetPin then 0
  else match (address.extractLsb' 1 4).toNat with
    | 2 => s.host.status.word
    | 3 => s.events.nextWord
    | 4 => s.events.status
    | 5 => s.statusFirst
    | 6 => s.host.capture
    | 7 => 0#15 ++ BitVec.ofBool s.events.enable
    | 8 => Config.ident
    | _ => 0

/-- What a read of the window changes: EVENT gives up a word (R172), and the first halfword of STATION STATUS captures the
second (R166). -/
def State.windowTake (s : State) (address : BitVec 5) : State :=
  match (address.extractLsb' 1 4).toNat with
  | 3 => { s with events := s.events.afterRead }
  | 5 => { s with host := { s.host with capture := s.statusSecond } }
  | _ => s

/-- A read of the window. `readData` keeps what it returned. -/
def State.windowRead (s : State) (address : BitVec 5) : State :=
  let value := s.windowValue address
  let s := if s.resetPin then s else s.windowTake address
  { s with host := { s.host with readData := value } }

/-! ### The commands of the table -/

/-- CONFIGURE (R157). -/
def execConfigure (o : Occasion) (address : Word) (s : State) : Host.Outcome State Fault Refusal :=
  .next (s.live o (·.writeRecord (.configure address)))

/-- JOIN (R24). -/
def execJoin (o : Occasion) (s : State) : Host.Outcome State Fault Refusal := .next (s.live o (·.writeRecord .join))

/-- LEAVE (R25). -/
def execLeave (o : Occasion) (s : State) : Host.Outcome State Fault Refusal := .next (s.live o (·.writeRecord .leave))

/-- SEND (R52). -/
def execSend (o : Occasion) (stream length : BitVec 8) (address : Word) (tag : Halfword) (s : State) :
    Host.Outcome State Fault Refusal :=
  .next (s.live o (·.writeRecord (.send stream length address tag)))

/-- CANCEL (R70). -/
def execCancel (o : Occasion) (tag : Halfword) (s : State) : Host.Outcome State Fault Refusal :=
  .next (s.live o (·.writeRecord (.cancel tag)))

/-- TRIGGER (R123). -/
def execTrigger (o : Occasion) (group : BitVec 8) (s : State) : Host.Outcome State Fault Refusal :=
  .next (s.live o (·.writeRecord (.trigger group)))

/-- RELEASE (R114). -/
def execRelease (o : Occasion) (ring n : BitVec 8) (s : State) : Host.Outcome State Fault Refusal :=
  .next (s.live o (·.writeRecord (.release ring n)))

/-- RESUME without skip (R112). -/
def execResume (o : Occasion) (s : State) : Host.Outcome State Fault Refusal :=
  .next (s.live o (·.writeRecord (.resume false)))

/-- RESUME with skip (R113). -/
def execResumeWithSkip (o : Occasion) (s : State) : Host.Outcome State Fault Refusal :=
  .next (s.live o (·.writeRecord (.resume true)))

/-- QUERY with subject COUNTERS (R179). -/
def execQueryCounters (o : Occasion) (s : State) : Host.Outcome State Fault Refusal :=
  .next (s.live o (·.writeRecord (.query 0)))

/-- QUERY with subject ROSTER (R178). -/
def execQueryRoster (o : Occasion) (s : State) : Host.Outcome State Fault Refusal :=
  .next (s.live o (·.writeRecord (.query 1)))

/-- QUERY with subject RING (R178). -/
def execQueryRing (o : Occasion) (s : State) : Host.Outcome State Fault Refusal :=
  .next (s.live o (·.writeRecord (.query 2)))

/-- QUERY with subject QUEUES (R178). -/
def execQueryQueues (o : Occasion) (s : State) : Host.Outcome State Fault Refusal :=
  .next (s.live o (·.writeRecord (.query 3)))

/-- QUERY with a subject out of range (R177). -/
def execQuerySubjectOutOfRange (o : Occasion) (subject : BitVec 8) (s : State) : Host.Outcome State Fault Refusal :=
  .next (s.live o (·.writeRecord (.query subject)))

/-- UNKNOWN_COMMAND (R151): the write of a word to COMMAND. -/
def execUnknownCommand (o : Occasion) (word : Halfword) (s : State) : Host.Outcome State Fault Refusal :=
  .next (s.live o (·.writeCommand word))

/-- COMMAND_WORD_COLLECTED (R152): the write of a word to COMMAND. -/
def execCommandWordCollected (o : Occasion) (word : Halfword) (s : State) : Host.Outcome State Fault Refusal :=
  .next (s.live o (·.windowWrite 0 word))

/-- COMMAND_CLEAR (R153). -/
def execCommandClear (o : Occasion) (value : Halfword) (s : State) : Host.Outcome State Fault Refusal :=
  .next (s.live o (·.windowWrite 2 value))

/-- EVENT_READ (R172). -/
def execEventRead (o : Occasion) (s : State) : Host.Outcome State Fault Refusal := .next ((s.at o).windowRead 6)

/-- STATION_STATUS_FIRST_READ (R166). -/
def execStationStatusFirstRead (o : Occasion) (s : State) : Host.Outcome State Fault Refusal :=
  .next ((s.at o).windowRead 10)

/-- INTERRUPT_ENABLE_WRITE (R175). -/
def execInterruptEnableWrite (o : Occasion) (value : Halfword) (s : State) : Host.Outcome State Fault Refusal :=
  .next (s.live o (·.windowWrite 14 value))

/-- IGNORED_WRITE (R150): the write of a value to an offset of the window. -/
def execIgnoredWrite (o : Occasion) (address : BitVec 5) (value : Halfword) (s : State) :
    Host.Outcome State Fault Refusal :=
  .next (s.live o (·.windowWrite address value))

end Sys2Proof.Machine
end

