-- ==== Sys2Proof/Machine/Reset.lean ====
section
/-! DEFINITION. The RESET pin (R1, R23, R51, R97, R104, R120, R121, R135, R148, R149, R164, R167, R183): the commands
RESET_ASSERTED and RESET_RELEASED. -/

namespace Sys2Proof.Machine

/-- The frames that have gone out whole by a moment. -/
def Outside.sentBy (u : Outside) (t : Time) : Outside :=
  { u with ringOut := u.ringOut.filter (fun f => decide (f.start + frameTime ≤ t)) }

/-- Every block takes its reset values with the RESET pin asserted; work in progress is abandoned without events, and the
frame on the output is cut short, since the output sends fill from then on (R1, notes/assumptions/13.md). What has left the
controller, the clock and the waiting commands stay. -/
def State.assertReset (s : State) : State :=
  { State.reset with resetPin := true, outside := s.outside.sentBy s.now, now := s.now, order := s.order,
                     pending := s.pending }

/-- RESET_ASSERTED (R1). -/
def execResetAsserted (o : Occasion) (s : State) : Host.Outcome State Fault Refusal := .next (s.at o).assertReset

/-- RESET_RELEASED (R1): the station is in CONFIG with its reset values; with RESET not asserted nothing changes. -/
def execResetReleased (o : Occasion) (s : State) : Host.Outcome State Fault Refusal :=
  .next { s.at o with resetPin := false }

end Sys2Proof.Machine
end

