-- ==== Sys2Proof/Machine/Dispatch.lean ====
section
/-! DEFINITION. One arm per command: each is one direct call of its meaning. -/

namespace Sys2Proof.Machine

/-- The effect of a command on everything but the queue of commands. -/
def exec (i : Instr) (s : State) : Host.Outcome State Fault Refusal :=
  match i with
  | .resetAsserted o => Sys2Proof.Machine.execResetAsserted o s
  | .resetReleased o => Sys2Proof.Machine.execResetReleased o s
  | .linkUp o => Sys2Proof.Machine.execLinkUp o s
  | .linkLoss o truncationFirst => Sys2Proof.Machine.execLinkLoss o truncationFirst s
  | .fill o => Sys2Proof.Machine.execFill o s
  | .badFrameArrives o r => Sys2Proof.Machine.execBadFrameArrives o r s
  | .headArrives o b => Sys2Proof.Machine.execHeadArrives o b s
  | .dataArrives o b => Sys2Proof.Machine.execDataArrives o b s
  | .tailArrives o b => Sys2Proof.Machine.execTailArrives o b s
  | .claimArrives o b => Sys2Proof.Machine.execClaimArrives o b s
  | .numberArrives o b => Sys2Proof.Machine.execNumberArrives o b s
  | .ringUpArrives o b => Sys2Proof.Machine.execRingUpArrives o b s
  | .announceArrives o b => Sys2Proof.Machine.execAnnounceArrives o b s
  | .triggerArrives o b => Sys2Proof.Machine.execTriggerArrives o b s
  | .voidArrives o b => Sys2Proof.Machine.execVoidArrives o b s
  | .departArrives o b => Sys2Proof.Machine.execDepartArrives o b s
  | .ownClaimSent o => Sys2Proof.Machine.execOwnClaimSent o s
  | .ownNumberSent o => Sys2Proof.Machine.execOwnNumberSent o s
  | .ownAnnounceSent o => Sys2Proof.Machine.execOwnAnnounceSent o s
  | .ownDepartSent o => Sys2Proof.Machine.execOwnDepartSent o s
  | .attemptBegins o => Sys2Proof.Machine.execAttemptBegins o s
  | .ownRecordFrameSent o => Sys2Proof.Machine.execOwnRecordFrameSent o s
  | .ownTriggerSent o => Sys2Proof.Machine.execOwnTriggerSent o s
  | .bypassBufferFrameSent o => Sys2Proof.Machine.execBypassBufferFrameSent o s
  | .censusTimerExpires o => Sys2Proof.Machine.execCensusTimerExpires o s
  | .isolationIntervalExpires o => Sys2Proof.Machine.execIsolationIntervalExpires o s
  | .departLimitTimerExpires o => Sys2Proof.Machine.execDepartLimitTimerExpires o s
  | .returnTimerExpires o => Sys2Proof.Machine.execReturnTimerExpires o s
  | .retryGapTimerExpires o => Sys2Proof.Machine.execRetryGapTimerExpires o s
  | .triggerReturnTimerExpires o => Sys2Proof.Machine.execTriggerReturnTimerExpires o s
  | .fireDue o entry => Sys2Proof.Machine.execFireDue o entry s
  | .trigPulseTimerExpires o => Sys2Proof.Machine.execTrigPulseTimerExpires o s
  | .busTimeout o => Sys2Proof.Machine.execBusTimeout o s
  | .busWordAnswered o answer => Sys2Proof.Machine.execBusWordAnswered o answer s
  | .configure o address => Sys2Proof.Machine.execConfigure o address s
  | .join o => Sys2Proof.Machine.execJoin o s
  | .leave o => Sys2Proof.Machine.execLeave o s
  | .send o stream length address tag => Sys2Proof.Machine.execSend o stream length address tag s
  | .cancel o tag => Sys2Proof.Machine.execCancel o tag s
  | .trigger o group => Sys2Proof.Machine.execTrigger o group s
  | .release o ring n => Sys2Proof.Machine.execRelease o ring n s
  | .resume o => Sys2Proof.Machine.execResume o s
  | .resumeWithSkip o => Sys2Proof.Machine.execResumeWithSkip o s
  | .queryCounters o => Sys2Proof.Machine.execQueryCounters o s
  | .queryRoster o => Sys2Proof.Machine.execQueryRoster o s
  | .queryRing o => Sys2Proof.Machine.execQueryRing o s
  | .queryQueues o => Sys2Proof.Machine.execQueryQueues o s
  | .unknownCommand o word => Sys2Proof.Machine.execUnknownCommand o word s
  | .commandWordCollected o word => Sys2Proof.Machine.execCommandWordCollected o word s
  | .commandClear o value => Sys2Proof.Machine.execCommandClear o value s
  | .eventRead o => Sys2Proof.Machine.execEventRead o s
  | .stationStatusFirstRead o => Sys2Proof.Machine.execStationStatusFirstRead o s
  | .interruptEnableWrite o value => Sys2Proof.Machine.execInterruptEnableWrite o value s
  | .ignoredWrite o address value => Sys2Proof.Machine.execIgnoredWrite o address value s
  | .ownRingUpSent o => Sys2Proof.Machine.execOwnRingUpSent o s
  | .arrivingFrameForwarded o => Sys2Proof.Machine.execArrivingFrameForwarded o s
  | .fillSymbolArrives o => Sys2Proof.Machine.execFillSymbolArrives o s
  | .querySubjectOutOfRange o subject => Sys2Proof.Machine.execQuerySubjectOutOfRange o subject s

end Sys2Proof.Machine
end

