-- ==== Sys2Proof/Safety.lean ====
section
/-! DEFINITION. What holds of every state a run can reach, block by block, in the spec's own words. Each predicate cites the
rules that claim it; `State.Inv` joins them. They are stated over the machine's accessors and are decidable. -/

namespace Sys2Proof

/-- The command is one of the eleven in which a frame arrives. -/
def Instr.isArrival : Instr → Bool
  | .badFrameArrives _ _ | .headArrives _ _ | .dataArrives _ _ | .tailArrives _ _ | .claimArrives _ _
  | .numberArrives _ _ | .ringUpArrives _ _ | .announceArrives _ _ | .triggerArrives _ _ | .voidArrives _ _
  | .departArrives _ _ => true
  | _ => false

end Sys2Proof

namespace Sys2Proof.Machine

/-! ### Event queue (R167 to R169) -/

/-- The event queue holds at most 128 words, a current event at most 31 unread ones, and records of 2 to 32 words. -/
abbrev EventQueue.Sound (q : EventQueue) : Prop :=
  q.used ≤ 128 ∧ q.current.length ≤ 31 ∧ ∀ r ∈ q.whole, 2 ≤ r.event.length ∧ r.event.length ≤ 32

/-! ### Membership unit (R23, R26, R31, R37, R39 to R45) -/

/-- The station holds a ring number exactly in RUN and LEAVING, between 1 and N, with N at most 30 (R39). -/
abbrev State.NumberSound (s : State) : Prop :=
  (s.member.number.isSome ↔ s.onRing = true) ∧
  ∀ n ∈ s.member.number, 1 ≤ n.toNat ∧ n.toNat ≤ s.member.ringSize.toNat ∧ s.member.ringSize.toNat ≤ 30

/-- Sub-state and timers stand exactly in the station states that own them (R23, R26, R31, R41). -/
abbrev State.TimersSound (s : State) : Prop :=
  (s.member.sub.isSome ↔ s.member.station = .census) ∧
  (s.member.censusTimer.isSome ↔ s.member.station = .census) ∧
  (s.member.isolationTimer.isSome ↔ s.member.station = .isolated) ∧
  (s.member.departTimer.isSome ↔ s.member.station = .leaving)

/-- What the census has given out: a provisional number in NUMBERED, 1 for the originator, and a pending ring size from 1
to 30 in CLOSING; the leave-pending flag stands only in DEFERRED; the attempt counter (R31, R35 to R37, R40, R44). -/
abbrev State.CensusSound (s : State) : Prop :=
  (s.member.sub = some .numbered → ∃ p ∈ s.member.provisional, 1 ≤ p.toNat ∧ p.toNat ≤ 30) ∧
  (s.member.sub = some .counting ∨ s.member.sub = some .closing → s.member.provisional = some 1) ∧
  (s.member.sub = some .closing → 1 ≤ s.member.pendingSize.toNat ∧ s.member.pendingSize.toNat ≤ 30) ∧
  (s.member.leavePending = true → s.member.sub = some .deferred) ∧
  s.member.attempts ≤ 8 ∧ (s.member.station = .census → s.member.attempts ≤ 7)

/-- The census frame that waits at the output arbiter: the own CLAIM in CLAIMING, the originator's NUMBER in COUNTING, its
RING_UP with the pending ring parameters in CLOSING (R31, R35, R37). -/
def State.readyFrame (s : State) : Frame → Bool
  | .claim b => decide (s.member.sub = some .claiming) && decide (b = { spareHigh := 0, mark := s.member.mark, spareLow := 0 })
  | .number b => decide (s.member.sub = some .counting) && decide (b = { count := 2, overfull := false, spare := 0 })
  | .ringUp b =>
    decide (s.member.sub = some .closing) &&
      decide (b = { size := s.member.pendingSize, overfull := b.overfull, spare := 0, hopTime := s.member.pendingHop })
  | _ => false

/-- Own frames of the membership unit wait only where they may go out: a census frame in the sub-state that readied it, an
ANNOUNCE in RUN, a DEPART in LEAVING (R9, R26, R39). -/
abbrev State.OwnFramesSound (s : State) : Prop :=
  (∀ f ∈ s.path.ownCensus, s.readyFrame f = true) ∧
  (s.member.announce = .waiting → s.member.station = .run) ∧
  (s.member.depart = .waiting → s.member.station = .leaving)

/-- A configured station has a mark (R161); the loading sub-flag stands only in CONFIG (R149). -/
abbrev State.ConfigSound (s : State) : Prop :=
  (s.member.station ≠ .config → s.member.mark ≠ 0) ∧ (s.host.loading = true → s.member.station = .config)

/-- The membership unit and its frames. -/
abbrev State.MemberSound (s : State) : Prop :=
  s.NumberSound ∧ s.TimersSound ∧ s.CensusSound ∧ s.OwnFramesSound ∧ s.ConfigSound

/-- No two filled roster entries hold the same mark (R45), and the roster is empty in CENSUS (R29). -/
abbrev State.RosterSound (s : State) : Prop :=
  (∀ i j : Fin 30, i ≠ j → s.member.roster[i] ≠ none → s.member.roster[i] ≠ s.member.roster[j]) ∧
  (s.member.station = .census → s.member.roster = Vector.replicate 30 none)

/-! ### Send unit (R51 to R54, R58, R66 to R73) -/

/-- The head state tells what the send unit's other items are: no head without an entry; the return timer runs exactly in
IN_FLIGHT; the gap timer, the cancel-requested flag and the disposition stand only where their rules set them (R51 to R58,
R66, R68, R71). -/
abbrev SendUnit.HeadSound (u : SendUnit) : Prop :=
  (u.head = none ↔ u.queue = []) ∧
  (u.returnTimer.isSome ↔ u.head = some .inFlight) ∧
  (u.gapTimer.isSome → u.head = some .retryWait) ∧
  (u.cancelRequested = true → u.head = some .inFlight) ∧
  (u.disposition.isSome → u.head = some .fetching) ∧
  (u.context = .openCurrent ∨ u.context = .openHeadless → u.head = some .inFlight)

/-- The attempt counter: 0 before the first HEAD, then 1 to 1 + retry limit, which is at most 16 (R51, R54, R58, R67). -/
abbrev SendUnit.AttemptsSound (u : SendUnit) : Prop :=
  u.retryLimit ≤ 15 ∧
  (u.head = none ∨ u.head = some .fetching ∨ u.head = some .staged → u.attempts = 0) ∧
  (u.head = some .inFlight → 1 ≤ u.attempts ∧ u.attempts ≤ 1 + u.retryLimit) ∧
  (u.head = some .retryWait → 1 ≤ u.attempts ∧ u.attempts < 1 + u.retryLimit)

/-- The queue holds at most 16 entries of at most 64 halfwords at word-aligned addresses; the staging buffer at most 64
halfwords, what waits for it among them (R51, R52, R53). -/
abbrev SendUnit.QueueSound (u : SendUnit) : Prop :=
  u.queue.length ≤ 16 ∧ u.staging.length + u.incoming.length ≤ 64 ∧ ∀ e ∈ u.queue, e.length.toNat ≤ 64 ∧ e.address.toNat % 4 = 0

/-- The queue holds at most one entry, a FETCHING head that completes by its pending disposition (R74). -/
abbrev SendUnit.Leaves (u : SendUnit) : Prop :=
  u.queue = [] ∨ u.queue.length = 1 ∧ u.head = some .fetching ∧ u.disposition.isSome

/-- The send unit: as above, an attempt is made or awaits its retry only in RUN (R57, R72, R73), CONFIG has no queue
(R138), LEAVING and PASS have none but what a LEAVE has left of it (R72, R74), and words of a payload wait for the staging
buffer only while an own record in progress holds it, the head entry's fetch having read them (R55, R59). -/
abbrev State.SendSound (s : State) : Prop :=
  s.send.HeadSound ∧ s.send.AttemptsSound ∧ s.send.QueueSound ∧
  (s.send.head = some .inFlight ∨ s.send.head = some .retryWait → s.member.station = .run) ∧
  (s.member.station = .config → s.send.queue = []) ∧
  (s.member.station = .pass ∨ s.member.station = .leaving → s.send.Leaves) ∧
  (s.send.incoming ≠ [] → s.path.insertion.isSome ∧ (s.send.head = some .fetching ∨ s.send.head = some .staged))

/-! ### Receive store, delivery rings and record filter (R75 to R102) -/

/-- The store's entries take at most 384 places; only the newest may be FILLING, only the oldest DELIVERING; a committed
entry holds its whole payload (R98, R99). -/
abbrev Delivery.EntriesSound (d : Delivery) : Prop :=
  placesUsed d.store ≤ 384 ∧
  (∀ e ∈ d.store.dropLast, e.state ≠ .filling) ∧ (∀ e ∈ d.store.tail, e.state ≠ .delivering) ∧
  ∀ e ∈ d.store, e.length.toNat ≤ 64 ∧ (e.state ≠ .filling → e.payload.length = e.length.toNat)

/-- Each ring's counts: unused or 2 to 128 slots, filled plus reserved within them, the write index a slot, and one
reservation for each entry of the store whose target it is (R96, R101, R102). -/
abbrev Delivery.RingsSound (d : Delivery) : Prop :=
  ∀ i : Fin 4,
    (d.rings[i].slots = 0 ∧ d.rings[i].writeIndex = 0 ∨
      2 ≤ d.rings[i].slots ∧ d.rings[i].slots ≤ 128 ∧ d.rings[i].writeIndex < d.rings[i].slots) ∧
    d.rings[i].filled + d.rings[i].reserved ≤ d.rings[i].slots ∧
    d.rings[i].reserved = d.store.countP (fun e => e.ring.toNat == i.val) ∧
    d.rings[i].base.toNat % 4 = 0

/-- The engine and the oldest entry: DELIVERING holds the DELIVERING entry, its ring and the slot at its write index;
HALTED a COMPLETE one; IDLE leaves no COMPLETE entry waiting (R104, R105, R110 to R112). -/
def Delivery.EngineSound (d : Delivery) : Bool :=
  match d.engine, d.store with
  | .idle, [] => true
  | .idle, e :: _ => decide (e.state = .filling)
  | .delivering phase ring slot, e :: _ =>
    decide (e.state = .delivering) && decide (ring = e.ring) && decide (slot = (d.ring ring).writeIndex) &&
      (decide (phase ≠ .body) || decide (e.length ≠ 0))
  | .halted ring slot, e :: _ =>
    decide (e.state = .complete) && decide (ring = e.ring) && decide (slot = (d.ring ring).writeIndex)
  | .delivering _ _ _, [] => false
  | .halted _ _, [] => false

/-- The record context and its store entry: the newest entry is FILLING exactly under an open ACCEPTING context, and is
then the record's, with every good halfword so far; the context stands only inside a forwarded record (R77, R80, R82). -/
def State.ContextSound (s : State) : Bool :=
  match s.filter.context with
  | none => s.delivery.store.all (fun e => decide (e.state ≠ .filling))
  | some c =>
    decide (s.path.phase = .forwarding) && decide (c.next ≤ c.expected.toNat) && decide (c.expected.toNat ≤ 64) &&
      (if c.verdict = .accepting then
        match s.delivery.store.getLast? with
        | some e =>
          decide (e.state = .filling ∧ e.source = c.source ∧ e.stream = c.stream ∧ e.seq = c.seq ∧ e.length = c.expected ∧
            some e.ring = c.target ∧ (c.damaged = false → e.payload.length = c.next))
        | none => false
      else s.delivery.store.all (fun e => decide (e.state ≠ .filling)))

/-- The subscription table: at most 16 entries, no stream twice, every ring used (R75). -/
abbrev State.SubscriptionsSound (s : State) : Prop :=
  s.filter.subscriptions.length ≤ 16 ∧ (s.filter.subscriptions.map (·.1)).Nodup ∧
  ∀ x ∈ s.filter.subscriptions, 2 ≤ (s.delivery.ring x.2).slots

/-- Receive store, rings, engine and record filter; in CONFIG the store and the subscription table are empty (R119,
R138). -/
abbrev State.StoreSound (s : State) : Prop :=
  s.delivery.EntriesSound ∧ s.delivery.RingsSound ∧ s.delivery.EngineSound = true ∧ s.ContextSound = true ∧
  s.SubscriptionsSound ∧
  (s.member.station = .config → s.delivery.store = [] ∧ s.filter.subscriptions = [])

/-! ### Forwarding path and ring output (R1, R6, R9, R10, R15, R18 to R22) -/

/-- The bypass buffer never holds more than 66 frames and is empty in CENSUS; a record is open on the input, and an own
record of at most 64 halfwords in progress, only in RUN and LEAVING (R6, R9, R10, R15, R18, R59). -/
abbrev State.PathSound (s : State) : Prop :=
  s.path.bypass.length ≤ 66 ∧ (s.member.station = .census → s.path.bypass = []) ∧
  (s.path.phase ≠ .clear → s.onRing = true) ∧ (s.path.insertion.isSome → s.onRing = true) ∧
  ∀ i ∈ s.path.insertion, i.next ≤ i.length.toNat ∧ i.length.toNat ≤ 64

/-- The frames that the output has still to send before an own insertion may begin: the buffered ones, the arriving one
that waits, and those of an own record in progress (R19, R20). -/
def Path.backlog (p : Path) : Nat :=
  p.bypass.length + p.waiting.toList.length + (p.insertion.elim 0 (fun i => i.length.toNat - i.next + 1))

/-- While frames stand ready the output sends no fill; an arriving frame waits only for the end of the frame on the output;
and the output lags behind the input by no more than the 66 frames of an own record (R1, R18 to R20). -/
abbrev State.BacklogSound (s : State) : Prop :=
  (s.path.backlog ≠ 0 → s.now ≤ s.path.freeAt) ∧ (s.path.waiting.isSome → s.path.freeAt ≤ s.receiver.nextFrame) ∧
  s.path.freeAt ≤ max s.now s.receiver.nextFrame + 80 ∧
  s.path.freeAt + 80 * s.path.backlog ≤ max s.now s.receiver.nextFrame + 5280

/-- The ring output sends at most one frame per frame time, the last of them the one whose end is the next boundary (R1). -/
abbrev State.SentSound (s : State) : Prop :=
  s.outside.ringOut.Pairwise (fun f g => f.start + 80 ≤ g.start) ∧
  (∀ f ∈ s.outside.ringOut, f.start + 80 ≤ s.boundary) ∧
  ∀ g ∈ s.path.output, 80 ≤ g.ends ∧ s.outside.ringOut.getLast? = some { frame := g.frame, start := g.ends - 80 }

/-- The forwarding path and the ring output. -/
abbrev State.OutputSound (s : State) : Prop := s.PathSound ∧ s.BacklogSound ∧ s.SentSound

/-! ### Ring receiver (R4) -/

/-- The link-loss timer runs exactly while the link is UP, and expires no later than 32 µs from now; a link loss that stands
is past, and the link DOWN since (R4). -/
abbrev State.ReceiverSound (s : State) : Prop :=
  (s.receiver.lossTimer.isSome ↔ s.receiver.up = true) ∧ (∀ t ∈ s.receiver.lossTimer, t ≤ s.now + 3200) ∧
  (s.receiver.lostAt.isSome → s.receiver.up = false) ∧ ∀ t ∈ s.receiver.lostAt, t ≤ s.now

/-! ### Trigger unit (R121, R123, R132, R134) -/

/-- At most four fires are scheduled; TRIG is high exactly while the pulse timer runs; the group and the return timer stand
exactly while an own trigger is pending, which it is only in RUN (R121, R123, R132, R134). -/
abbrev State.TriggerSound (s : State) : Prop :=
  s.trigger.schedule.length ≤ 4 ∧ (s.trigger.pin = true ↔ s.trigger.pulseTimer.isSome) ∧
  (s.trigger.group.isSome ↔ s.trigger.own ≠ .none) ∧ (s.trigger.returnTimer.isSome ↔ s.trigger.own ≠ .none) ∧
  (s.trigger.own ≠ .none → s.member.station = .run)

/-! ### Bus master (R138 to R146) -/

/-- The current burst is part of its client's standing request, stays within a 32-byte block and is timed; without one, no
request stands, since a waiting request is granted at once (R138, R140 to R142, R145). -/
abbrev BusMaster.Sound (b : BusMaster) : Prop :=
  (b.timeout.isSome ↔ b.burst.isSome) ∧ b.lastGrant ≠ some .loader ∧
  (b.burstLength = 1 ∨ b.burstLength = 2 ∨ b.burstLength = 4 ∨ b.burstLength = 8) ∧
  (∀ r ∈ b.loader, r.done < r.words ∧ r.write = false) ∧ (∀ r ∈ b.fetch, r.done < r.words ∧ r.write = false) ∧
  (∀ r ∈ b.delivery, r.done < r.words ∧ r.write = true) ∧
  (b.burst = none → b.loader = none ∧ b.fetch = none ∧ b.delivery = none) ∧
  ∀ u ∈ b.burst, u.answered < u.words ∧ u.words ≤ 8 ∧ u.words ≤ wordsToBoundary u.first ∧
    ∃ r ∈ b.request u.client, u.write = r.write ∧ u.first = r.nextAddress ∧ r.done + u.words ≤ r.words

/-- Each client's request stands exactly while the client is in the work that makes it (R55, R105, R139, R140, R158). -/
abbrev State.ClientsSound (s : State) : Prop :=
  (s.bus.loader.isSome ↔ s.host.loading = true) ∧ (s.bus.fetch.isSome ↔ s.send.head = some .fetching) ∧
  (s.bus.delivery.isSome ↔ s.delivery.engine.code = 1)

/-- The bus master and its clients. -/
abbrev State.BusSound (s : State) : Prop := s.bus.Sound ∧ s.ClientsSound

/-! ### Host port (R149, R151, R152) -/

/-- A command is being collected exactly while COMMAND STATUS is COLLECTING, which shows its code and its words so far, at
least 1 and fewer than the code's count (R149, R151, R152). -/
def HostPort.Sound (h : HostPort) : Bool :=
  match h.collector with
  | none => decide (h.status.value ≠ .collecting) && decide (h.status.words ≤ 8)
  | some c =>
    decide (h.status = { value := .collecting, code := c.code, words := c.words.length }) &&
      decide (codeCount c.code = some c.count) && decide (1 ≤ c.words.length) && decide (c.words.length < c.count)

/-! ### RESET (R1) and what has left the controller -/

/-- While RESET is asserted every block stands at its reset values (R1). -/
abbrev State.ResetSound (s : State) : Prop := s.resetPin = true → s = s.assertReset

/-- The record of written words has strictly rising addresses, so that equal contents are equal data. -/
abbrev State.WrittenSound (s : State) : Prop := (s.outside.written.map (·.1)).Pairwise (· < ·)

/-! ### The whole -/

/-- Everything above together: what holds of every state that a run reaches. -/
structure State.Inv (s : State) : Prop where
  events   : s.events.Sound
  member   : s.MemberSound
  roster   : s.RosterSound
  send     : s.SendSound
  store    : s.StoreSound
  receiver : s.ReceiverSound
  path     : s.OutputSound
  trigger  : s.TriggerSound
  bus      : s.BusSound
  host     : s.host.Sound = true
  reset    : s.ResetSound
  written  : s.WrittenSound

/-! ### Terms that claims about one command use -/

/-- The state in which an arriving frame is handled: the frame judged at its moment, its symbols counted, a frame that
waited for the output gone out (R1, R4, R19). As in `State.at`, the output has sent at every boundary before that moment. -/
def State.heard (s : State) (o : Occasion) : State := (s.at o).frameJudged (some 0)

/-- The same for a frame that arrives as its content bits, of which some may not have decoded: the link-loss timer has been
restarted by its last decodable symbol (R4). -/
def State.heardRaw (s : State) (o : Occasion) (r : RawFrame) : State := (s.at o).frameJudged r.silence

/-- The controller can receive a frame: RESET is not asserted, the link is UP, the bypass buffer has a place left. -/
abbrev State.Receiving (s : State) : Prop :=
  s.resetPin = false ∧ s.receiver.up = true ∧ s.path.bypass.length < 72

/-- The state in which the expiry of a timer that stands at `t` is handled. -/
def State.expired (s : State) (o : Occasion) (t : Time) : State := (s.at o).reach t

/-- A frame has gone out on the ring output at the next output frame boundary (R1, R19). -/
def State.sent (s : State) (f : Frame) (own : Bool) : State :=
  { s with now := s.boundary,
           path := { s.path with output := some { frame := f, own := own, ends := s.boundary + 80 } },
           outside := { s.outside with ringOut := s.outside.ringOut ++ [{ frame := f, start := s.boundary }] } }

/-- The record of the membership unit right after a census entry at moment `t` (R29, R31). -/
def Membership.censusEntered (m : Membership) (t : Time) : Membership :=
  { m with station := .census, sub := some .claiming, attempts := 0, claimBegun := false, provisional := none,
           number := none, numberSent := none, roster := Vector.replicate 30 none, announce := .none, depart := .none,
           censusTimer := some (t + 200000), isolationTimer := none, departTimer := none }

/-- The state right after a census entry of a station that was not on the ring, less the STATE event (R29, R31, R50). -/
def State.censusEntered (s : State) : State :=
  { s with
    member := s.member.censusEntered s.now
    path := { s.path with
      phase := .clear, bypass := [], insertion := none,
      ownCensus := some (.claim { spareHigh := 0, mark := s.member.mark, spareLow := 0 }) }
    filter := { s.filter with duplicates := Vector.replicate 30 none }
    counters := { s.counters with censusEntries := saturatingInc s.counters.censusEntries } }

/-- The host may begin a command record: RESET is not asserted and no command is being collected (R150, R151). -/
abbrev State.CommandReady (s : State) : Prop := s.resetPin = false ∧ s.host.collector = none

end Sys2Proof.Machine
end

