-- ==== Sys2Proof/WellFormed.lean ====
section
/-! DEFINITION. Well-formed commands: those whose operands fit the row they stand for. A meaning is defined on the others
too (a "good HEAD" with a malformed body is handled as R3 says; a write that names a register acts on it). -/

namespace Sys2Proof

/-- The operands of a command fit its row. -/
def Instr.wellFormed : Instr → Bool
  -- A bad or malformed frame (R2, R3).
  | .badFrameArrives _ r => r.read.unusable
  -- Good frames that are not malformed (R3).
  | .headArrives _ b => !(Frame.head b).unusable
  | .dataArrives _ b => !(Frame.data b).unusable
  | .tailArrives _ b => !(Frame.tail b).unusable
  | .claimArrives _ b => !(Frame.claim b).unusable
  | .numberArrives _ b => !(Frame.number b).unusable
  | .ringUpArrives _ b => !(Frame.ringUp b).unusable
  | .announceArrives _ b => !(Frame.announce b).unusable
  | .triggerArrives _ b => !(Frame.trigger b).unusable
  | .voidArrives _ b => !(Frame.void b).unusable
  | .departArrives _ b => !(Frame.depart b).unusable
  -- A position of the fire schedule (R132).
  | .fireDue _ entry => decide (entry < 4)
  -- A first word whose code or count is not valid (R151).
  | .unknownCommand _ w => codeCount (wordCode w) != some (wordCount w)
  -- A register that a write does not reach: not COMMAND, COMMAND CLEAR or INTERRUPT ENABLE (R150).
  | .ignoredWrite _ a _ => !([0, 1, 7].contains (a.extractLsb' 1 4).toNat)
  -- A subject that is none of the four (R177).
  | .querySubjectOutOfRange _ subject => (Subject.ofByte subject).isNone
  | .resetAsserted _ | .resetReleased _ | .linkUp _ | .linkLoss _ _ | .fill _ | .ownClaimSent _ | .ownNumberSent _
  | .ownAnnounceSent _ | .ownDepartSent _ | .attemptBegins _ | .ownRecordFrameSent _ | .ownTriggerSent _
  | .bypassBufferFrameSent _ | .censusTimerExpires _ | .isolationIntervalExpires _ | .departLimitTimerExpires _
  | .returnTimerExpires _ | .retryGapTimerExpires _ | .triggerReturnTimerExpires _ | .trigPulseTimerExpires _
  | .busTimeout _ | .busWordAnswered _ _ | .configure _ _ | .join _ | .leave _ | .send _ _ _ _ _ | .cancel _ _
  | .trigger _ _ | .release _ _ _ | .resume _ | .resumeWithSkip _ | .queryCounters _ | .queryRoster _ | .queryRing _
  | .queryQueues _ | .commandWordCollected _ _ | .commandClear _ _ | .eventRead _ | .stationStatusFirstRead _
  | .interruptEnableWrite _ _ | .ownRingUpSent _ | .arrivingFrameForwarded _ | .fillSymbolArrives _ => true

end Sys2Proof
end

