-- ==== Sys2Proof/Certificates/Slice0/Obligations.lean ====
section
/-! DEFINITION. The statements about the 2240, rule by rule. `s.heard o`, `s.expired o t`, `s.sent f own` and the predicates
`Sound` and `Inv` stand in `Sys2Proof/Safety.lean`. `s.at o` is the state at a command's moment: the clock moved on, and the
output has sent at every boundary before it, as `Obligations.UpstreamFramesKeepOrder` says; a hypothesis on it is one on the
state and the operands. An equation `exec c s = .next { s.at o with … }` says all that the command changes: every item that
the right side does not name keeps its value. -/

open Sys2Proof Sys2Proof.Machine

/-! ### Steps, reset and the whole machine -/

/-- A step takes the command at the front of the queue and runs it with the queue's rest; on an empty queue the block
idles, which is the model's choice (notes/assumptions/4.md). -/
def Obligations.StepRunsFrontCommand : Prop :=
  (∀ (s : State) (c : Instr) (rest : List Instr),
    step { s with pending := c :: rest } = exec c { s with pending := rest }) ∧
  ∀ s : State, s.pending = [] → step s = .next s

/-- R1 and the reset columns of R23, R51, R121, R138, R149, R167: RESET_ASSERTED gives every block its reset values;
after RESET_RELEASED the station is in CONFIG with them. What has left the controller, the clock, the order of
postings and the waiting commands stay; a frame that is still on the output is cut short (notes/assumptions/2.md,
notes/assumptions/13.md). The values after reset that the spec's tables give (R4, R15, R18, R23, R51, R75 to R77, R98,
R101, R104, R121, R138, R149, R167); two fields of the model's own, the send unit's `incoming` and the receiver's
`lostAt`, start empty (notes/assumptions/12.md). -/
def Obligations.ResetGivesResetValues : Prop :=
  (∀ (s : State) (o o' : Occasion), ∃ out : Outside,
     out = { (s.at o).outside with
       ringOut := (s.at o).outside.ringOut.filter (fun f => decide (f.start + 80 ≤ max s.now o.time)) } ∧
     exec (.resetAsserted o) s =
       .next { State.reset with resetPin := true, now := max s.now o.time, order := o.order, outside := out,
                                pending := s.pending } ∧
     exec (.resetReleased o') s = .next { s.at o' with resetPin := false } ∧
     ∀ t, exec (.resetAsserted o) s = .next t →
       exec (.resetReleased o') t =
         .next { State.reset with now := max (max s.now o.time) o'.time, order := o'.order, outside := out,
                                  pending := s.pending }) ∧
  (State.reset.receiver.up = false ∧ State.reset.receiver.lossTimer = none ∧ State.reset.receiver.lostAt = none ∧
   State.reset.path.phase = .clear ∧ State.reset.path.bypass = [] ∧ State.reset.path.ownCensus = none ∧
   State.reset.path.insertion = none ∧
   State.reset.member =
     { station := .config, sub := none, mark := 0, leavePending := false, claimBegun := false, provisional := none,
       number := none, ringSize := 0, hopTime := 0, pendingSize := 0, pendingHop := 0, epoch := 0, attempts := 0,
       censusTimer := none, isolationTimer := none, departTimer := none, numberSent := none, announce := .none,
       depart := .none, roster := Vector.replicate 30 none } ∧
   State.reset.send =
     { queue := [], head := none, staging := [], incoming := [], seq := 0, attempt := false, attempts := 0,
       returnTimer := none, gapTimer := none, cancelRequested := false, disposition := none, context := .closed,
       nextIndex := 0, fault := false, accept := 0, held := 0, retryLimit := 0 } ∧
   State.reset.filter = { subscriptions := [], duplicates := Vector.replicate 30 none, context := none } ∧
   State.reset.delivery.store = [] ∧ State.reset.delivery.engine = .idle ∧
   (∀ i : Fin 4, State.reset.delivery.rings[i] =
     { base := 0, slots := 0, writeIndex := 0, filled := 0, reserved := 0, delivered := 0 }) ∧
   State.reset.trigger =
     { own := .none, group := none, returnTimer := none, membership := 0, schedule := [], pulseTimer := none,
       pin := false } ∧
   State.reset.bus =
     { loader := none, fetch := none, delivery := none, burst := none, lastGrant := none, timeout := none,
       burstLength := 1, order := .lowFirst } ∧
   State.reset.host.collector = none ∧ State.reset.host.status = { value := .idle, code := 0, words := 0 } ∧
   State.reset.host.loading = false ∧ State.reset.host.loadAddress = none ∧ State.reset.host.loadBuffer = [] ∧
   State.reset.host.capture = State.reset.statusSecond ∧
   State.reset.events = { current := [], whole := [], lost := 0, enable := false } ∧
   State.reset.counters.words = List.replicate 11 0 ∧ State.reset.intPin = false)

/-- R1 and R150: while RESET is asserted, no command but the release of the pin changes anything beyond the clock, and
the two reads of the table return zero. -/
def Obligations.NothingActsUnderReset : Prop :=
  ∀ (s : State) (c : Instr), s.resetPin = true → s.path.bypass.length ≤ 72 →
    match c with
    | .resetAsserted _ | .resetReleased _ => True
    | .eventRead o | .stationStatusFirstRead o =>
      exec c s = .next { s with now := max s.now o.time, order := o.order, host := { s.host with readData := 0 } }
    | _ => exec c s = .next { s with now := max s.now c.occasion.time, order := c.occasion.order }

/-- Every command answers a next state; the one exception is an arriving frame that finds the bypass buffer full,
beyond the 66 frames of R18 (notes/assumptions/8.md). No command is refused, and none touches the queue of commands.
-/
def Obligations.CommandsAnswerNextStates : Prop :=
  ∀ (c : Instr) (s : State),
    ((c.isArrival = true → s.path.bypass.length < 72) → ∃ t, exec c s = .next t ∧ t.pending = s.pending) ∧
    ∀ r, exec c s ≠ .refused r

/-! ### Frames and words (R2, R3, R147, R184, R185, 11.1, 11.5) -/

/-- Every frame that is no `raw` one is read back from the content a station sends for it, whatever its fields and
spare bits hold. A frame sent on as it was read has the content it arrived with, its check included, good or bad (R2,
R8). The 40 bits of a content stand on a link kind first, then body, then check, each most significant bit first, and
the content taken from them is the one they were made of (R1, R184). The check (R2, R184): of the polynomial whose
coefficients are the bits of kind and body and six zero bits, it is what a quotient `q` times x^6 + x + 1 leaves,
addition being exclusive or; a station that makes or changes a frame sends it, and a frame is bad exactly when a symbol
did not decode or its check is another. The kind of each frame, and every field of its body at the position that 11.1.1
and 11.1.2 give it, spare bits included. The receiver's judgment (R2, R3): the command that the arrival of a well-formed
frame's content is carries that very frame, of each of the ten kinds, and the arrival of any content is a well-formed
command. -/
def Obligations.FramesReadBack : Prop :=
  (∀ f : Frame, (∀ r, f ≠ .raw r) → f.content.read = f) ∧
  (∀ r : RawFrame, r.read.content = r) ∧
  (∀ r : RawFrame, r.sequence.length = 40 ∧ RawFrame.ofSequence r.sequence r.undecoded = r ∧
     (∀ i, i < 2 → r.sequence[i]? = some (r.kind.getMsbD i)) ∧
     (∀ i, i < 32 → r.sequence[2 + i]? = some (r.body.getMsbD i)) ∧
     ∀ i, i < 6 → r.sequence[34 + i]? = some (r.check.getMsbD i)) ∧
  (∀ (kind : BitVec 2) (body : BitVec 32), ∃ q : BitVec 34,
     (kind ++ body ++ 0#6 : BitVec 40) =
       (q.setWidth 40 <<< 6) ^^^ (q.setWidth 40 <<< 1) ^^^ q.setWidth 40 ^^^ (frameCheck kind body).setWidth 40) ∧
  (∀ f : Frame, (∀ r, f ≠ .raw r) →
     f.content.check = frameCheck f.content.kind f.content.body ∧ f.content.undecoded = 0) ∧
  (∀ r : RawFrame, r.bad = true ↔ r.undecoded ≠ 0 ∨ r.check ≠ frameCheck r.kind r.body) ∧
  (∀ (f : Frame) (kind : BitVec 2) (body : BitVec 32), kind = f.content.kind → body = f.content.body →
     match f with
     | .head b => kind = 0 ∧ body.extractLsb' 27 5 = b.source ∧ body.extractLsb' 21 6 = b.stream ∧
         body.extractLsb' 13 8 = b.seq ∧ body.extractLsb' 6 7 = b.length ∧ body.extractLsb' 1 5 = b.hop ∧
         body.extractLsb' 0 1 = BitVec.ofBool b.attempt
     | .data b => kind = 1 ∧ body.extractLsb' 27 5 = b.source ∧ body.extractLsb' 21 6 = b.index ∧
         body.extractLsb' 16 5 = b.spare ∧ body.extractLsb' 0 16 = b.word
     | .tail b => kind = 2 ∧ body.extractLsb' 27 5 = b.source ∧ body.extractLsb' 19 8 = b.seq ∧
         body.extractLsb' 18 1 = BitVec.ofBool b.attempt ∧ body.extractLsb' 13 5 = b.accept ∧
         body.extractLsb' 8 5 = b.held ∧ body.extractLsb' 7 1 = BitVec.ofBool b.refused ∧
         body.extractLsb' 6 1 = BitVec.ofBool b.damaged ∧ body.extractLsb' 0 6 = b.spare
     | .claim b => kind = 3 ∧ body.extractLsb' 29 3 = 0 ∧ body.extractLsb' 24 5 = b.spareHigh ∧
         body.extractLsb' 8 16 = b.mark ∧ body.extractLsb' 0 8 = b.spareLow
     | .number b => kind = 3 ∧ body.extractLsb' 29 3 = 1 ∧ body.extractLsb' 24 5 = b.count ∧
         body.extractLsb' 23 1 = BitVec.ofBool b.overfull ∧ body.extractLsb' 0 23 = b.spare
     | .ringUp b => kind = 3 ∧ body.extractLsb' 29 3 = 2 ∧ body.extractLsb' 24 5 = b.size ∧
         body.extractLsb' 23 1 = BitVec.ofBool b.overfull ∧ body.extractLsb' 16 7 = b.spare ∧
         body.extractLsb' 0 16 = b.hopTime
     | .announce b => kind = 3 ∧ body.extractLsb' 29 3 = 3 ∧ body.extractLsb' 24 5 = b.number ∧
         body.extractLsb' 8 16 = b.mark ∧ body.extractLsb' 5 3 = b.spare ∧ body.extractLsb' 0 5 = b.hop
     | .trigger b => kind = 3 ∧ body.extractLsb' 29 3 = 4 ∧ body.extractLsb' 24 5 = b.source ∧
         body.extractLsb' 21 3 = b.group ∧ body.extractLsb' 5 16 = b.spare ∧ body.extractLsb' 0 5 = b.hop
     | .void b => kind = 3 ∧ body.extractLsb' 29 3 = 5 ∧ body.extractLsb' 24 5 = b.station ∧
         body.extractLsb' 5 19 = b.spare ∧ body.extractLsb' 0 5 = b.hop
     | .depart b => kind = 3 ∧ body.extractLsb' 29 3 = 6 ∧ body.extractLsb' 24 5 = b.source ∧
         body.extractLsb' 5 19 = b.spare ∧ body.extractLsb' 0 5 = b.hop
     | .raw r => f.content = r) ∧
  (∀ (o : Occasion) (r : RawFrame), (r.arrival o).wellFormed = true ∧ (r.arrival o).occasion = o ∧
     (r.read.unusable = true → r.arrival o = .badFrameArrives o r) ∧
     (r.read.unusable = false →
       (∀ b, r.read = .head b → r.arrival o = .headArrives o b) ∧
       (∀ b, r.read = .data b → r.arrival o = .dataArrives o b) ∧
       (∀ b, r.read = .tail b → r.arrival o = .tailArrives o b) ∧
       (∀ b, r.read = .claim b → r.arrival o = .claimArrives o b) ∧
       (∀ b, r.read = .number b → r.arrival o = .numberArrives o b) ∧
       (∀ b, r.read = .ringUp b → r.arrival o = .ringUpArrives o b) ∧
       (∀ b, r.read = .announce b → r.arrival o = .announceArrives o b) ∧
       (∀ b, r.read = .trigger b → r.arrival o = .triggerArrives o b) ∧
       (∀ b, r.read = .void b → r.arrival o = .voidArrives o b) ∧
       ∀ b, r.read = .depart b → r.arrival o = .departArrives o b))

/-- A command record is judged as the command it was written for, every parameter bit kept (11.5). -/
def Obligations.CommandRecordReadsBack : Prop :=
  ∀ c : HostCommand, ∃ w rest, c.words = w :: rest ∧ wordCode w = c.code ∧ codeCount c.code = some (wordCount w) ∧
    c.words.length = wordCount w ∧ HostCommand.ofWords c.code c.words = some c

/-- R147: halfword 2k lies in bits 15–0 and halfword 2k + 1 in bits 31–16 of its word in the low-first order, and the
other way in the high-first order; the two come back in their order under either; and a payload assembled into words
for a delivery is read back by a fetch of those words, whether its length is even or odd. -/
def Obligations.HalfwordsComeBack : Prop :=
  (∀ a b : Halfword,
     (HalfwordOrder.lowFirst.join a b).extractLsb' 0 16 = a ∧ (HalfwordOrder.lowFirst.join a b).extractLsb' 16 16 = b ∧
     (HalfwordOrder.highFirst.join a b).extractLsb' 16 16 = a ∧ (HalfwordOrder.highFirst.join a b).extractLsb' 0 16 = b) ∧
  (∀ (order : HalfwordOrder) (a b : Halfword), order.split (order.join a b) = [a, b]) ∧
  ∀ (order : HalfwordOrder) (payload : List Halfword) (length : BitVec 7), payload.length = length.toNat →
    (((List.range (payloadWords length)).map (payloadWord order payload)).flatMap order.split).take length.toNat = payload

/-! ### The event queue and the register window (R150, R166, R169 to R175, R188) -/

/-- A record that fits the free words is entered whole behind the others, carrying the lost count, which clears; one
that does not is dropped and counted, saturating at 31. Nothing but the event queue changes (R169, R170). Where one
step makes the send unit, the trigger unit and the membership unit post, each posting is taken singly: every sequence
that keeps each block's own order comes of some turns, and no turns give any other (R171). The words of a record (R168,
R187, 11.4): the first holds the kind, its length in words and the lost count it carries; the others hold the fields of
its kind at their positions, every other bit zero; and the codes of the values they carry. -/
def Obligations.PostingEntersOrDrops : Prop :=
  (∀ (s : State) (e : Event),
     (e.length ≤ 128 - s.events.used →
       s.post e = { s with events := { s.events with
         whole := s.events.whole ++ [{ event := e, lostBefore := s.events.lost }], lost := 0 } } ∧
       (s.post e).events.used = s.events.used + e.length) ∧
     (128 - s.events.used < e.length →
       s.post e = { s with events := { s.events with lost := if s.events.lost = 31 then 31 else s.events.lost + 1 } })) ∧
  (∀ postings : List (Poster × Event),
     takeTurns (postings.map (·.1)) ((postings.filter (·.1 == .send)).map (·.2))
       ((postings.filter (·.1 == .trigger)).map (·.2)) ((postings.filter (·.1 == .member)).map (·.2)) =
       postings.map (·.2)) ∧
  (∀ (turns : List Poster) (send trigger member : List Event),
    (takeTurns turns send trigger member).Perm (send ++ trigger ++ member) ∧
    send.Sublist (takeTurns turns send trigger member) ∧ trigger.Sublist (takeTurns turns send trigger member) ∧
    member.Sublist (takeTurns turns send trigger member)) ∧
  (∀ (e : Event) (lost : BitVec 5), ∃ (kind : BitVec 4) (first : Halfword) (fields : List Halfword),
     EventRecord.words { event := e, lostBefore := lost } = first :: fields ∧ e.length = fields.length + 1 ∧
     first.extractLsb' 12 4 = kind ∧ first.getLsbD 11 = false ∧
     first.extractLsb' 5 6 = BitVec.ofNat 6 (fields.length + 1) ∧ first.extractLsb' 0 5 = lost ∧
     match e with
     | .configured mark => kind = 1 ∧ fields = [mark]
     | .configRejected reason index => kind = 2 ∧ fields = [BitVec.ofNat 8 index ++ reason.code]
     | .configFault cause address =>
       kind = 3 ∧ fields = [cause.code.setWidth 16, address.extractLsb' 16 16, address.extractLsb' 0 16]
     | .stateChange state cause ringSize number epoch => kind = 4 ∧ fields =
         [cause.code ++ state.code, number.setWidth 8 ++ ringSize.setWidth 8, epoch.setWidth 16]
     | .sent tag status attempts accept held => kind = 5 ∧ fields =
         [tag, BitVec.ofNat 8 attempts ++ status.code, held.setWidth 8 ++ accept.setWidth 8]
     | .delivered ring slot source stream seq length => kind = 6 ∧ fields =
         [BitVec.ofNat 8 slot ++ ring.setWidth 8, stream.setWidth 8 ++ source.setWidth 8, length.setWidth 8 ++ seq]
     | .deliveryFault ring slot address cause => kind = 7 ∧ fields =
         [cause.code ++ ring.setWidth 4 ++ BitVec.ofNat 8 slot, address.extractLsb' 16 16, address.extractLsb' 0 16]
     | .deliverySkipped ring slot source stream seq length => kind = 8 ∧ fields =
         [BitVec.ofNat 8 slot ++ ring.setWidth 8, stream.setWidth 8 ++ source.setWidth 8, length.setWidth 8 ++ seq]
     | .triggerDone group status => kind = 9 ∧ fields = [status.code ++ group.setWidth 8]
     | .triggerFired group source => kind = 10 ∧ fields = [source.setWidth 8 ++ group.setWidth 8]
     | .triggerMissed group source => kind = 11 ∧ fields = [source.setWidth 8 ++ group.setWidth 8]
     | .report subject contents => kind = 12 ∧ fields = subject.code.setWidth 16 :: contents) ∧
  ([StationState.config, .pass, .census, .run, .leaving, .isolated, .excluded, .barred].map StationState.code =
     [0, 1, 2, 3, 4, 5, 6, 7] ∧
   [none, some SubState.claiming, some .deferred, some .counting, some .numbered, some .closing].map subStateCode =
     [0, 1, 2, 3, 4, 5] ∧
   [StateCause.joined, .claimSeen, .linkLoss, .departSeen, .rosterConflict, .ringFormed, .censusFailed, .overfull,
     .markClash, .left].map StateCause.code = [1, 2, 3, 4, 5, 6, 7, 8, 9, 10] ∧
   [SendStatus.done, .refused, .damaged, .lost, .ringLost, .fetchFault, .cancelled, .left].map SendStatus.code =
     [0, 1, 2, 3, 4, 5, 6, 7] ∧
   [TriggerStatus.done, .lost, .ringLost, .left].map TriggerStatus.code = [0, 3, 4, 7] ∧
   [none, some HeadState.fetching, some .staged, some .inFlight, some .retryWait].map headStateCode = [0, 1, 2, 3, 4] ∧
   [BusCause.error, .timeout].map BusCause.code = [1, 2] ∧
   [RejectReason.mark, .retryLimit, .burstLength, .ringSlots, .subscriptionCount, .subscriptionDuplicate,
     .subscriptionRing].map RejectReason.code = [1, 2, 3, 4, 5, 6, 7] ∧
   [Subject.counters, .roster, .ring, .queues].map Subject.code = [0, 1, 2, 3])

/-- EVENT_READ (R172): the next word of the current event, else the first word of the oldest whole event, which becomes
the current one, else a NONE word that shows the lost count. STATION_STATUS_FIRST_READ (R165, R166): the read returns
the first halfword of the current fields and copies the second into the capture, the fields at the positions of 11.6.
The reads that have no row change nothing (R150): COMMAND STATUS, EVENT STATUS (R173), the second halfword of STATION
STATUS from the capture (R166), INTERRUPT ENABLE and IDENT return their content at the offsets of R188, every other
offset zero, and under RESET all of them zero. The codes of the COMMAND STATUS values (11.5) and of the engine states
(11.4), beside those that `Obligations.PostingEntersOrDrops` lists. The INT pin (R175) is asserted exactly while the
enable is set, at least one whole event stands in the queue and RESET is not asserted. -/
def Obligations.WindowReads : Prop :=
  (∀ (s : State) (o : Occasion), s.resetPin = false →
     (∀ w rest, s.events.current = w :: rest →
       exec (.eventRead o) s = .next { s.at o with
         events := { s.events with current := rest }, host := { s.host with readData := w } }) ∧
     (∀ r rest, s.events.current = [] → s.events.whole = r :: rest →
       exec (.eventRead o) s = .next { s.at o with
         events := { s.events with current := r.words.tail, whole := rest }
         host := { s.host with readData := r.words.headD 0 } }) ∧
     (s.events.current = [] → s.events.whole = [] →
       exec (.eventRead o) s = .next { s.at o with host := { s.host with readData := 0#11 ++ s.events.lost } })) ∧
  (∀ (s : State) (o : Occasion), s.resetPin = false →
     ∃ first second : Halfword,
       exec (.stationStatusFirstRead o) s = .next { s.at o with
         host := { s.host with readData := first, capture := second } } ∧
       first.extractLsb' 0 3 = s.member.station.code.setWidth 3 ∧
       first.extractLsb' 3 3 = (subStateCode s.member.sub).setWidth 3 ∧
       first.extractLsb' 6 5 = s.member.ringSize ∧ first.extractLsb' 11 5 = s.member.number.getD 0 ∧
       second.extractLsb' 0 8 = s.member.epoch ∧ second.getLsbD 8 = s.host.loading ∧
       second.extractLsb' 9 2 = s.delivery.engine.code ∧
       second.extractLsb' 11 5 = BitVec.ofNat 5 s.send.queue.length) ∧
  (∀ (s : State) (a : BitVec 5), a.toNat / 2 ≠ 3 → a.toNat / 2 ≠ 5 → ∃ v : Halfword,
     s.windowRead a = { s with host := { s.host with readData := v } } ∧
     (s.resetPin = true → v = 0) ∧
     (s.resetPin = false →
       (a.toNat / 2 = 2 → v.extractLsb' 0 4 = s.host.status.value.code ∧
         v.extractLsb' 4 4 = BitVec.ofNat 4 s.host.status.words ∧ v.extractLsb' 8 8 = s.host.status.code) ∧
       (a.toNat / 2 = 4 → v.extractLsb' 0 6 = BitVec.ofNat 6 (min s.events.whole.length 63) ∧
         v.extractLsb' 6 5 = BitVec.ofNat 5 s.events.current.length ∧ v.extractLsb' 11 5 = s.events.lost) ∧
       (a.toNat / 2 = 6 → v = s.host.capture) ∧ (a.toNat / 2 = 7 → v = if s.events.enable then 1 else 0) ∧
       (a.toNat / 2 = 8 → v = 0x2240) ∧ (a.toNat / 2 < 2 ∨ 8 < a.toNat / 2 → v = 0))) ∧
  ([CommandValue.idle, .collecting, .ok, .busy, .full, .state, .range, .noMatch, .unknown].map CommandValue.code =
     [0, 1, 2, 3, 4, 5, 6, 7, 8] ∧
   Engine.idle.code = 0 ∧ (∀ phase ring slot, (Engine.delivering phase ring slot).code = 1) ∧
   ∀ ring slot, (Engine.halted ring slot).code = 2) ∧
  ∀ s : State, s.intPin = true ↔ s.events.enable = true ∧ s.events.whole ≠ [] ∧ s.resetPin = false

/-- INTERRUPT_ENABLE_WRITE takes bit 0 as the enable; COMMAND_CLEAR empties the collector and sets COMMAND STATUS to
IDLE whatever its value; a write to a register that is not writable changes nothing (R150, R153, R175, R188). -/
def Obligations.WindowWrites : Prop :=
  ∀ (s : State) (o : Occasion) (v : Halfword), s.resetPin = false →
    exec (.interruptEnableWrite o v) s = .next { s.at o with events := { s.events with enable := v.getLsbD 0 } } ∧
    exec (.commandClear o v) s = .next { s.at o with
      host := { s.host with collector := none, status := { value := .idle, code := 0, words := 0 } } } ∧
    ∀ a : BitVec 5, a.toNat / 2 ≠ 0 → a.toNat / 2 ≠ 1 → a.toNat / 2 ≠ 7 →
      exec (.ignoredWrite o a v) s = .next (s.at o)

/-! ### The command collector and the nine commands (chapter 8, R114, R123, R177) -/

/-- UNKNOWN_COMMAND and COMMAND_WORD_COLLECTED (R151, R152): a first word whose count does not fit its code is refused
with UNKNOWN, code as written, words 0; a valid one of two or more words is held; a further word joins until the last;
a valid one of a single word, JOIN or LEAVE with any bits 7–4, is judged at once. The codes and their counts (8.3,
11.5). The last word of a record is judged against the state that stands then, whatever came between, its parameters
taken from their positions and every other bit ignored (R152, R155). -/
def Obligations.WordsAreCollected : Prop :=
  (∀ (s : State) (o : Occasion) (w : Halfword), s.resetPin = false →
     (s.host.collector = none → codeCount (w.extractLsb' 8 8) ≠ some (w.extractLsb' 0 4).toNat →
       exec (.unknownCommand o w) s = .next { s.at o with
         host := { s.host with status := { value := .unknown, code := w.extractLsb' 8 8, words := 0 } } }) ∧
     (s.host.collector = none → codeCount (w.extractLsb' 8 8) = some (w.extractLsb' 0 4).toNat →
       2 ≤ (w.extractLsb' 0 4).toNat →
       exec (.commandWordCollected o w) s = .next { s.at o with
         host := { s.host with
           collector := some { code := w.extractLsb' 8 8, count := (w.extractLsb' 0 4).toNat, words := [w] }
           status := { value := .collecting, code := w.extractLsb' 8 8, words := 1 } } }) ∧
     (∀ c, s.host.collector = some c → c.words.length + 1 < c.count →
       exec (.commandWordCollected o w) s = .next { s.at o with
         host := { s.host with
           collector := some { c with words := c.words ++ [w] }
           status := { value := .collecting, code := c.code, words := c.words.length + 1 } } }) ∧
     (s.host.collector = none → w.extractLsb' 0 4 = 1 →
       (w.extractLsb' 8 8 = 2 → exec (.commandWordCollected o w) s = exec (.join o) s) ∧
       (w.extractLsb' 8 8 = 3 → exec (.commandWordCollected o w) s = exec (.leave o) s))) ∧
  (∀ (code : BitVec 8) (n : Nat), codeCount code = some n ↔
     (code, n) ∈ [((1 : BitVec 8), 3), (2, 1), (3, 1), (4, 5), (5, 2), (6, 2), (7, 2), (8, 2), (9, 2)]) ∧
  (∀ (s : State) (o : Occasion) (c : HostCommand) (code : BitVec 8) (w : Halfword) (words : List Halfword)
     (p : Nat → Halfword), s.resetPin = false → (∀ k, p k = (words ++ [w]).getD k 0) →
     s.host.collector = some { code := code, count := words.length + 1, words := words } →
     (match c with
      | .configure a => code = 1 ∧ words.length = 2 ∧ a.extractLsb' 16 16 = p 1 ∧ a.extractLsb' 0 16 = p 2
      | .join | .leave => False
      | .send stream length a tag => code = 4 ∧ words.length = 4 ∧ stream = (p 1).extractLsb' 0 8 ∧
          length = (p 1).extractLsb' 8 8 ∧ a.extractLsb' 16 16 = p 2 ∧ a.extractLsb' 0 16 = p 3 ∧ tag = p 4
      | .cancel tag => code = 5 ∧ words.length = 1 ∧ tag = p 1
      | .trigger group => code = 6 ∧ words.length = 1 ∧ group = (p 1).extractLsb' 0 8
      | .release ring n =>
          code = 7 ∧ words.length = 1 ∧ ring = (p 1).extractLsb' 0 8 ∧ n = (p 1).extractLsb' 8 8
      | .resume skip => code = 8 ∧ words.length = 1 ∧ skip = (p 1).getLsbD 0
      | .query subject => code = 9 ∧ words.length = 1 ∧ subject = (p 1).extractLsb' 0 8) →
     ∃ t : State, t = { s.at o with host := { s.host with collector := none } } ∧
       exec (.commandWordCollected o w) s =
         .next (State.setStatus (t.judge c).2 (t.judge c).1 code (words.length + 1)))

/-- A record written to COMMAND one word after another, with no command being collected, leaves the state that judging
the whole record at once leaves, COMMAND STATUS and every effect included (R151, R152, R155). Each row that stands for a
whole record (notes/assumptions/1.md) is that record's words written one after another at the row's moment, whatever is
being collected; with an empty collector, so, the judgment of the whole record in the state of that moment. -/
def Obligations.RecordWordByWord : Prop :=
  (∀ (s : State) (c : HostCommand), s.host.collector = none →
    c.words.foldl (fun t w => t.windowWrite 0 w) s = State.setStatus (s.judge c).2 (s.judge c).1 c.code c.words.length) ∧
  ∀ (s : State) (o : Occasion) (row : Instr) (c : HostCommand), s.resetPin = false →
    (match c with
     | .configure a => row = .configure o a
     | .join => row = .join o
     | .leave => row = .leave o
     | .send stream length a tag => row = .send o stream length a tag
     | .cancel tag => row = .cancel o tag
     | .trigger group => row = .trigger o group
     | .release ring n => row = .release o ring n
     | .resume skip => row = if skip then .resumeWithSkip o else .resume o
     | .query subject =>
       (subject = 0 → row = .queryCounters o) ∧ (subject = 1 → row = .queryRoster o) ∧
       (subject = 2 → row = .queryRing o) ∧ (subject = 3 → row = .queryQueues o) ∧
       (3 < subject.toNat → row = .querySubjectOutOfRange o subject)) →
    ∃ t : State, t = s.at o ∧
      exec row s = .next (c.words.foldl (fun t w => t.windowWrite 0 w) t) ∧
      (s.host.collector = none →
        exec row s = .next (State.setStatus (t.judge c).2 (t.judge c).1 c.code c.words.length))

/-- CONFIGURE (R157, R158): refused with STATE, BUSY or RANGE by the first failing check; taken, the load begins and
the loader's burst of one word is granted at once. -/
def Obligations.ConfigureBeginsLoad : Prop :=
  ∀ (s : State) (o : Occasion) (a : Word), s.CommandReady → ∃ t : State, t = s.at o ∧
    (s.member.station ≠ .config → exec (.configure o a) s = .next (t.setStatus .state 1 3)) ∧
    (s.member.station = .config → s.host.loading = true →
      exec (.configure o a) s = .next (t.setStatus .busy 1 3)) ∧
    (s.member.station = .config → s.host.loading = false → a.toNat % 4 ≠ 0 →
      exec (.configure o a) s = .next (t.setStatus .range 1 3)) ∧
    (s.member.station = .config → s.host.loading = false → a.toNat % 4 = 0 → t.bus.burst = none →
      exec (.configure o a) s = .next { t with
        host := { s.host with loading := true, loadAddress := some a, loadBuffer := [],
                              status := { value := .ok, code := 1, words := 3 } }
        bus := { t.bus with
          loader := some { write := false, start := a, words := 20, done := 0 }
          burst := some { client := .loader, write := false, first := a, words := 1, answered := 0 }
          timeout := some (max s.now o.time + 6400) } })

/-- JOIN (R24, R29, R31, R50): taken in PASS as a census entry with cause JOINED; refused with STATE elsewhere. -/
def Obligations.JoinEntersCensus : Prop :=
  ∀ (s : State) (o : Occasion), s.CommandReady →
    (s.member.station ≠ .pass → exec (.join o) s = .next ((s.at o).setStatus .state 2 1)) ∧
    (s.member.station = .pass → s.path.phase = .clear → s.path.insertion = none → s.send.incoming = [] →
      exec (.join o) s = .next (((s.at o).censusEntered.post
        (.stateChange .census .joined s.member.ringSize 0 s.member.epoch)).setStatus .ok 2 1))

/-- LEAVE (R25, R26, R72, R93, R128). From ISOLATED, EXCLUDED and CENSUS it takes the station to PASS, with STATE LEFT
once the sends have completed, in this order (notes/assumptions/24.md). In RUN it takes the station to LEAVING with
the own DEPART waiting; an open record context is discarded and its reservation released; every queued entry completes
with LEFT but a FETCHING head, whose pending disposition becomes LEFT unless one is recorded; the attempt of an
IN_FLIGHT head ends, and OPEN_CURRENT or OPEN_HEADLESS becomes OPEN_STALE and is counted; a pending own trigger
completes with LEFT; the SENT events and TRIGGER_DONE are posted in the occasion's turns. Refused with STATE
elsewhere. What the send unit does in the first three states (R72): nothing beyond it and the event queue changes. -/
def Obligations.LeaveLeavesTheRing : Prop :=
  (∀ (s : State) (o : Occasion), s.CommandReady → ∃ t : State, t = s.at o ∧
     (s.member.station = .config ∨ s.member.station = .pass ∨ s.member.station = .leaving ∨ s.member.station = .barred →
       exec (.leave o) s = .next (t.setStatus .state 3 1)) ∧
     (s.member.station = .isolated → exec (.leave o) s = .next ((State.post
       { t.leaveSends with member := { t.member with station := .pass, isolationTimer := none } }
       (.stateChange .pass .left s.member.ringSize (s.member.number.getD 0) s.member.epoch)).setStatus .ok 3 1)) ∧
     (s.member.station = .excluded → exec (.leave o) s = .next ((State.post
       { t.leaveSends with member := { t.member with station := .pass } }
       (.stateChange .pass .left s.member.ringSize (s.member.number.getD 0) s.member.epoch)).setStatus .ok 3 1)) ∧
     (s.member.station = .census → exec (.leave o) s = .next ((State.post
       { t.leaveSends with
         path := { t.path with ownCensus := none }
         member := { t.member with station := .pass, sub := none, censusTimer := none, provisional := none,
                                   claimBegun := false, leavePending := false } }
       (.stateChange .pass .left s.member.ringSize (s.member.number.getD 0) s.member.epoch)).setStatus .ok 3 1)) ∧
     (s.member.station = .run →
       ∃ (delivery : Delivery) (send : SendUnit) (counters : Counters) (trigger : TriggerUnit) (sent done : List Event),
         exec (.leave o) s = .next ((State.postAll
           { t with
             member := { t.member with
               station := .leaving, depart := .waiting, departTimer := some (max s.now o.time + 200000)
               announce := if t.member.announce = .waiting then .none else t.member.announce }
             filter := { s.filter with context := none }
             delivery := delivery, send := send, counters := counters, trigger := trigger }
           (takeTurns o.order sent done [])).setStatus .ok 3 1) ∧
         ((∀ c, s.filter.context = some c → c.verdict ≠ .accepting) → delivery = s.delivery) ∧
         (∀ c older e, s.filter.context = some c → c.verdict = .accepting → s.delivery.store = older ++ [e] →
           e.state = .filling → delivery = Delivery.setRing { s.delivery with store := older } e.ring
             { s.delivery.ring e.ring with reserved := (s.delivery.ring e.ring).reserved - 1 }) ∧
         (s.send.queue = [] → send = t.send ∧ counters = s.counters ∧ sent = []) ∧
         (∀ e behind, s.send.queue = e :: behind → ∃ (left : List Event) (emptied : SendUnit),
           left = behind.map (fun x => .sent x.tag .left 0 0 0) ∧
           emptied = { t.send with
             queue := [], head := none, staging := [], incoming := [], gapTimer := none, attempts := 0
             cancelRequested := false, disposition := none, accept := 0, held := 0
             seq := if t.send.attempts = 0 then t.send.seq else t.send.seq + 1 } ∧
           (t.send.head = some .fetching → sent = left ∧ counters = s.counters ∧ send = { t.send with
             queue := [e], disposition := some (t.send.disposition.getD .left) }) ∧
           (t.send.head = some .staged ∨ t.send.head = some .retryWait →
             sent = .sent e.tag .left t.send.attempts t.send.accept t.send.held :: left ∧
             counters = s.counters ∧ send = emptied) ∧
           (t.send.head = some .inFlight → sent = .sent e.tag .left t.send.attempts 0 0 :: left ∧
             (t.send.context = .openCurrent ∨ t.send.context = .openHeadless →
               counters = { s.counters with staleReturns := saturatingInc s.counters.staleReturns } ∧
               send = { emptied with returnTimer := none, attempt := !t.send.attempt, context := .openStale }) ∧
             (t.send.context = .closed ∨ t.send.context = .openStale → counters = s.counters ∧
               send = { emptied with returnTimer := none, attempt := !t.send.attempt }))) ∧
         (t.trigger.own = .none → trigger = t.trigger ∧ done = []) ∧
         (∀ g, t.trigger.own ≠ .none → t.trigger.group = some g → done = [.triggerDone g .left] ∧
           trigger = { t.trigger with own := .none, group := none, returnTimer := none }))) ∧
  (∀ s : State,
     (s.send.queue = [] → s.leaveSends = s) ∧
     (∀ e behind, s.send.queue = e :: behind → s.send.head = some .fetching →
       s.leaveSends = State.postAll
         { s with send := { s.send with queue := [e], disposition := some (s.send.disposition.getD .left) } }
         (behind.map (fun x => .sent x.tag .left 0 0 0))) ∧
     (∀ e behind, s.send.queue = e :: behind → (s.send.head = some .staged ∨ s.send.head = some .retryWait) →
       s.leaveSends = State.postAll
         { s with
           send := { s.send with
             queue := [], head := none, staging := [], incoming := [], gapTimer := none, attempts := 0,
             cancelRequested := false, disposition := none, accept := 0, held := 0,
             seq := if s.send.attempts = 0 then s.send.seq else s.send.seq + 1 } }
         (.sent e.tag .left s.send.attempts s.send.accept s.send.held ::
           behind.map (fun x => .sent x.tag .left 0 0 0))))

/-- SEND (R52, R54, R55, R139): refused with STATE, RANGE or FULL by the first failing check; taken behind other
entries it joins at the newest end; taken in an empty queue with length 0 it is STAGED at once, with another length
its fetch of half as many words, rounded up, is requested at once (R139), whatever own record is in progress. -/
def Obligations.SendJoinsQueue : Prop :=
  ∀ (s : State) (o : Occasion) (stream length : BitVec 8) (a : Word) (tag : Halfword), s.CommandReady →
    ∃ t : State, t = s.at o ∧
    (s.member.station = .config ∨ s.member.station = .pass ∨ s.member.station = .leaving ∨ s.member.station = .barred →
      exec (.send o stream length a tag) s = .next (t.setStatus .state 4 5)) ∧
    (s.member.station = .run ∨ s.member.station = .census ∨ s.member.station = .isolated ∨ s.member.station = .excluded →
      (64 < length.toNat ∨ 63 < stream.toNat ∨ a.toNat % 4 ≠ 0 →
        exec (.send o stream length a tag) s = .next (t.setStatus .range 4 5)) ∧
      (length.toNat ≤ 64 → stream.toNat ≤ 63 → a.toNat % 4 = 0 →
        (16 ≤ s.send.queue.length → exec (.send o stream length a tag) s = .next (t.setStatus .full 4 5)) ∧
        (s.send.queue.length < 16 → s.send.queue ≠ [] →
          exec (.send o stream length a tag) s = .next (State.setStatus { t with send := { t.send with
            queue := s.send.queue ++ [{ stream := stream.setWidth 6, length := length.setWidth 7, address := a, tag := tag }]
            } } .ok 4 5)) ∧
        (s.send.queue = [] → ∃ u : SendUnit,
          u = { t.send with
            queue := [{ stream := stream.setWidth 6, length := length.setWidth 7, address := a, tag := tag }]
            staging := [], incoming := [], attempts := 0, cancelRequested := false, disposition := none, accept := 0
            held := 0 } ∧
          (length = 0 → exec (.send o stream length a tag) s = .next (State.setStatus
            { t with send := { u with head := some .staged } } .ok 4 5)) ∧
          (length ≠ 0 →
            exec (.send o stream length a tag) s = .next (State.setStatus (State.makeRequest
              { t with send := { u with head := some .fetching } } .fetch false a ((length.toNat + 1) / 2)) .ok 4 5)))))

/-- CANCEL (R70, R71, R56): refused with NOMATCH when no entry carries the tag; behind the head matching entries
complete CANCELLED and leave in order; a matching head that is IN_FLIGHT gets the cancel-requested flag, one that is
FETCHING the pending disposition, and one that is STAGED or in RETRY_WAIT completes CANCELLED at once, before them. -/
def Obligations.CancelByHeadState : Prop :=
  ∀ (s : State) (o : Occasion) (tag : Halfword), s.CommandReady → ∃ u : State, u = s.at o ∧
    ((∀ e ∈ s.send.queue, e.tag ≠ tag) → exec (.cancel o tag) s = .next (u.setStatus .noMatch 5 2)) ∧
    ∀ e behind, s.send.queue = e :: behind →
      ∃ (gone : List Event) (kept : List SendEntry) (t : State),
        gone = (behind.filter (fun x => x.tag == tag)).map (fun x => .sent x.tag .cancelled 0 0 0) ∧
        kept = behind.filter (fun x => x.tag != tag) ∧ t = { u with send := { u.send with queue := e :: kept } } ∧
        (e.tag ≠ tag → gone ≠ [] → exec (.cancel o tag) s = .next ((t.postAll gone).setStatus .ok 5 2)) ∧
        (e.tag = tag → u.send.head = some .inFlight → exec (.cancel o tag) s =
          .next ((State.postAll { t with send := { t.send with cancelRequested := true } } gone).setStatus .ok 5 2)) ∧
        (e.tag = tag → u.send.head = some .fetching → exec (.cancel o tag) s =
          .next ((State.postAll
            { t with send := { t.send with disposition := some (u.send.disposition.getD .cancelled) } } gone).setStatus
            .ok 5 2)) ∧
        (e.tag = tag → (u.send.head = some .staged ∨ u.send.head = some .retryWait) → exec (.cancel o tag) s =
          .next (((State.adoptHead { t with send := { t.send with
              queue := kept, head := none, gapTimer := none
              seq := if u.send.attempts = 0 then u.send.seq else u.send.seq + 1 } }).postAll
            (.sent tag .cancelled u.send.attempts u.send.accept u.send.held :: gone)).setStatus .ok 5 2))

/-- TRIGGER (R123): refused with STATE, RANGE or BUSY by the first failing check; taken, the own trigger of the group
waits and its return timer starts at 2 ms. RELEASE (R114): refused with RANGE when the ring is above 3, unused, or has
fewer filled slots; taken, its filled count falls by n and nothing else of any ring changes. -/
def Obligations.TriggerAndReleaseAreTaken : Prop :=
  (∀ (s : State) (o : Occasion) (g : BitVec 8), s.CommandReady →
     (s.member.station ≠ .run → exec (.trigger o g) s = .next ((s.at o).setStatus .state 6 2)) ∧
     (s.member.station = .run → 7 < g.toNat → exec (.trigger o g) s = .next ((s.at o).setStatus .range 6 2)) ∧
     (s.member.station = .run → g.toNat ≤ 7 → s.trigger.own ≠ .none →
       exec (.trigger o g) s = .next ((s.at o).setStatus .busy 6 2)) ∧
     (s.member.station = .run → g.toNat ≤ 7 → s.trigger.own = .none →
       exec (.trigger o g) s = .next { s.at o with
         host := { s.host with status := { value := .ok, code := 6, words := 2 } }
         trigger := { s.trigger with own := .waiting, group := some (g.setWidth 3),
                                     returnTimer := some (max s.now o.time + 200000) } })) ∧
  (∀ (s : State) (o : Occasion) (ring n : BitVec 8), s.CommandReady →
     (3 < ring.toNat → exec (.release o ring n) s = .next ((s.at o).setStatus .range 7 2)) ∧
     ∀ r : BitVec 2, ring = r.setWidth 8 →
       ((s.delivery.ring r).slots = 0 ∨ (s.delivery.ring r).filled < n.toNat →
         exec (.release o ring n) s = .next ((s.at o).setStatus .range 7 2)) ∧
       ((s.delivery.ring r).slots ≠ 0 → n.toNat ≤ (s.delivery.ring r).filled →
         exec (.release o ring n) s = .next (State.setStatus { s.at o with
           delivery := s.delivery.setRing r
             { s.delivery.ring r with filled := (s.delivery.ring r).filled - n.toNat } } .ok 7 2)))

/-- RESUME (R112, R113): refused with STATE unless the engine is HALTED. Without skip the oldest entry is delivered
again from its first phase into the same slot; with skip it leaves the store with its reservation, DELIVERY_SKIPPED is
posted, and the engine is IDLE or takes the next COMPLETE entry. How a delivery begins (R105, R106, R139, 11.3): with the
engine IDLE and the oldest entry COMPLETE, into the slot of its ring's write index, by a request of half as many words as
the length, rounded up, from word 2 of the slot, or with length 0 of word 1; otherwise nothing begins. -/
def Obligations.ResumeAfterHalt : Prop :=
  (∀ (s : State) (o : Occasion), s.CommandReady →
    ((∀ ring slot, s.delivery.engine ≠ .halted ring slot) →
      exec (.resume o) s = .next ((s.at o).setStatus .state 8 2) ∧
      exec (.resumeWithSkip o) s = .next ((s.at o).setStatus .state 8 2)) ∧
    ∀ ring slot e rest, s.delivery.engine = .halted ring slot → s.delivery.store = e :: rest →
      (e.state = .complete → ∃ (next : Nat) (base : Word) (t : State),
        next = (s.delivery.ring e.ring).writeIndex ∧
        base = (s.delivery.ring e.ring).base + BitVec.ofNat 32 (136 * next) ∧
        t = { s.at o with delivery := { s.delivery with store := { e with state := .delivering } :: rest } } ∧
        (e.length ≠ 0 → exec (.resume o) s = .next ((State.makeRequest
          { t with delivery := { t.delivery with engine := .delivering .body e.ring next } }
          .delivery true (base + 8) ((e.length.toNat + 1) / 2)).setStatus .ok 8 2)) ∧
        (e.length = 0 → exec (.resume o) s = .next ((State.makeRequest
          { t with delivery := { t.delivery with engine := .delivering .header1 e.ring next } }
          .delivery true (base + 4) 1).setStatus .ok 8 2))) ∧
      exec (.resumeWithSkip o) s = .next (((State.post { s.at o with
        delivery := Delivery.setRing { s.delivery with store := rest, engine := .idle } e.ring
          { s.delivery.ring e.ring with reserved := (s.delivery.ring e.ring).reserved - 1 } }
        (.deliverySkipped ring slot e.source e.stream e.seq e.length)).beginDelivery).setStatus .ok 8 2)) ∧
  ∀ s : State,
    (∀ e rest, s.delivery.engine = .idle → s.delivery.store = e :: rest → e.state = .complete →
      ∃ (next : Nat) (base : Word) (t : State),
        next = (s.delivery.ring e.ring).writeIndex ∧
        base = (s.delivery.ring e.ring).base + BitVec.ofNat 32 (136 * next) ∧
        t = { s with delivery := { s.delivery with store := { e with state := .delivering } :: rest } } ∧
        (e.length ≠ 0 → s.beginDelivery = State.makeRequest
          { t with delivery := { t.delivery with engine := .delivering .body e.ring next } }
          .delivery true (base + 8) ((e.length.toNat + 1) / 2)) ∧
        (e.length = 0 → s.beginDelivery = State.makeRequest
          { t with delivery := { t.delivery with engine := .delivering .header1 e.ring next } }
          .delivery true (base + 4) 1)) ∧
    (s.delivery.engine ≠ .idle ∨ s.delivery.store = [] ∨
        (∃ e rest, s.delivery.store = e :: rest ∧ e.state ≠ .complete) → s.beginDelivery = s)

/-- QUERY (R177 to R179): refused with RANGE for a subject that is none of the four and with FULL when the report does
not fit, 13, 32, 6 or 8 words; taken, the report of the state before it is entered, and COUNTERS clears the counters.
-/
def Obligations.QueryEntersReport : Prop :=
  ∀ (s : State) (o : Occasion), s.CommandReady →
    (∀ subject : BitVec 8, 3 < subject.toNat →
      exec (.querySubjectOutOfRange o subject) s = .next ((s.at o).setStatus .range 9 2)) ∧
    (13 ≤ 128 - s.events.used → exec (.queryCounters o) s = .next (State.setStatus
      { (s.at o).post (.report .counters s.counters.words) with counters := .zero } .ok 9 2)) ∧
    (128 - s.events.used < 13 → exec (.queryCounters o) s = .next ((s.at o).setStatus .full 9 2)) ∧
    (32 ≤ 128 - s.events.used → exec (.queryRoster o) s = .next (State.setStatus
      ((s.at o).post (.report .roster (s.member.roster.toList.map (fun e => e.getD 0)))) .ok 9 2)) ∧
    (128 - s.events.used < 32 → exec (.queryRoster o) s = .next ((s.at o).setStatus .full 9 2)) ∧
    (6 ≤ 128 - s.events.used → exec (.queryRing o) s = .next (State.setStatus
      ((s.at o).post (.report .ring
        [subStateCode s.member.sub ++ s.member.station.code,
         (s.member.number.getD 0).setWidth 8 ++ s.member.ringSize.setWidth 8, s.member.hopTime,
         BitVec.ofNat 8 s.member.attempts ++ s.member.epoch])) .ok 9 2)) ∧
    (128 - s.events.used < 6 → exec (.queryRing o) s = .next ((s.at o).setStatus .full 9 2)) ∧
    (8 ≤ 128 - s.events.used → exec (.queryQueues o) s = .next (State.setStatus
      ((s.at o).post (.report .queues
        ([headStateCode (s.at o).send.head ++ BitVec.ofNat 8 s.send.queue.length,
          BitVec.ofNat 16 (s.delivery.store.map (fun e => e.length.toNat + 1)).sum] ++
         s.delivery.rings.toList.map (fun r => BitVec.ofNat 8 r.reserved ++ BitVec.ofNat 8 r.filled)))) .ok 9 2)) ∧
    (128 - s.events.used < 8 → exec (.queryQueues o) s = .next ((s.at o).setStatus .full 9 2))

/-! ### Frames arriving: reception, forwarding, the three modes (R1 to R19) -/

/-- The moment an arriving frame is judged (R1, R4, R19): the link-loss timer has restarted at 32 µs at each of its
decodable symbols, and a frame that still waited for the output has gone out at the boundary it waited for. Every symbol
of a good frame decodes. In a bad frame whose last `i` content bits did not decode, the symbol before them, 20 ns
earlier for each, is the last to restart the timer, unless a fill symbol has done so since; where none of its symbols
decoded the timer runs on (notes/assumptions/15.md). While the link is DOWN no frame is delivered, whatever its content
(R4), but the one that falls together with the link loss (`Obligations.LinkLossIsCounted`). The spacing of one frame
time between two arrivals is kept by the model's `nextFrame` (notes/assumptions/10.md). -/
def Obligations.ArrivingFrameIsHeard : Prop :=
  ∀ (s : State) (o : Occasion) (m : Time), m = max (max s.now o.time) s.receiver.nextFrame →
    ∃ u : State, u = (s.at o).reach s.receiver.nextFrame ∧ u.now = m ∧
    (u.path.waiting = none →
      s.heard o = { u with receiver := { s.receiver with lossTimer := some (m + 3200), nextFrame := m + 80 } }) ∧
    (∀ f, u.path.waiting = some f →
      s.heard o = { u with
        receiver := { s.receiver with lossTimer := some (m + 3200), nextFrame := m + 80 }
        path := { u.path with waiting := none, output := some { frame := f, own := false, ends := u.boundary + 80 } }
        outside := { u.outside with ringOut := u.outside.ringOut ++ [{ frame := f, start := u.boundary }] } }) ∧
    (∀ r : RawFrame, ∃ timer : Option Time,
      s.heardRaw o r = { s.heard o with receiver := { s.receiver with lossTimer := timer, nextFrame := m + 80 } } ∧
      ((∀ i, i < 40 → r.undecoded.getLsbD i = true) → timer = s.receiver.lossTimer) ∧
      (r.undecoded.getLsbD 0 = false → timer = some (m + 3200)) ∧
      ∀ i, i ≠ 0 → i < 40 → r.undecoded.getLsbD i = false → (∀ j, j < i → r.undecoded.getLsbD j = true) →
        timer = some (max (s.receiver.lossTimer.getD 0) (m + 3200 - 2 * i))) ∧
    (s.receiver.up = false → s.path.bypass.length ≤ 72 → ∀ r : RawFrame,
      s.receiver.lostAt ≠ some m ∨ r.undecoded.getLsbD 0 = true → exec (r.arrival o) s = .next (s.at o))

/-- A frame to be forwarded (R18, R19, R20): it joins the newest end of the bypass buffer when that holds frames, when
an own record is in progress, or when the output carries an own frame, and at a boundary the oldest frame goes first;
otherwise it goes out at once, at the moment it is judged (notes/assumptions/10.md), or waits for the end of the frame
on the output. Nothing else changes. BYPASS_BUFFER_FRAME_SENT and ARRIVING_FRAME_FORWARDED (R18, R19): the oldest
frame of the bypass buffer, or the arriving frame that waits, goes out at the next boundary; the buffer gives way to a
waiting frame and to an own record in progress. What the arbiter chooses (R9, R19, R20), first to last. As the clock
moves on (R19, R22) the first item that stands ready goes out at each boundary before the command's moment, and where
none does only the clock and the turns of postings change: the output then carries fill. -/
def Obligations.UpstreamFramesKeepOrder : Prop :=
  (∀ (s : State) (f : Frame),
     (s.carriesOwn = true ↔ ∃ g, s.path.output = some g ∧ g.own = true ∧ s.now < g.ends) ∧
     (s.path.bypass ≠ [] ∨ s.path.insertion ≠ none ∨ s.carriesOwn = true →
       s.now < s.path.freeAt ∨ s.mode = .active ∧ s.path.insertion ≠ none →
       s.forward f = { s with path := { s.path with bypass := s.path.bypass ++ [f] } }) ∧
     (∀ g rest, s.path.bypass = g :: rest → s.path.insertion = none → s.path.waiting = none → s.resetPin = false →
       s.mode ≠ .census → s.path.freeAt ≤ s.now →
       s.forward f = State.forward { s.sent g false with path := { (s.sent g false).path with bypass := rest } } f) ∧
     (s.path.bypass = [] → s.path.insertion = none → s.carriesOwn = false → s.forward f = s.cutThrough f) ∧
     (s.path.freeAt ≤ s.now → s.cutThrough f = { s with
       path := { s.path with output := some { frame := f, own := false, ends := s.now + 80 } }
       outside := { s.outside with ringOut := s.outside.ringOut ++ [{ frame := f, start := s.now }] } }) ∧
     (s.now < s.path.freeAt → s.path.waiting = none →
       s.cutThrough f = { s with path := { s.path with waiting := some f } })) ∧
  (∀ (s t : State) (o : Occasion) (f : Frame), s.resetPin = false → t = s.at o →
     (t.path.waiting = some f → ∃ u : State, u = t.sent f false ∧
       exec (.arrivingFrameForwarded o) s = .next { u with path := { u.path with waiting := none } }) ∧
     ∀ rest, t.path.bypass = f :: rest →
       (t.path.waiting ≠ none ∨ t.mode = .active ∧ t.path.insertion ≠ none →
         exec (.bypassBufferFrameSent o) s = .next t) ∧
       (t.path.waiting = none → t.path.insertion = none → t.mode ≠ .census → ∃ u : State, u = t.sent f false ∧
         exec (.bypassBufferFrameSent o) s = .next { u with path := { u.path with bypass := rest } })) ∧
  (∀ s : State, s.resetPin = false →
     (s.path.waiting ≠ none → s.nextItem = some .arriving) ∧
     (s.path.waiting = none →
       (s.mode = .census → s.nextItem = if s.path.ownCensus = none then none else some .census) ∧
       (s.mode = .transparent → s.nextItem = if s.path.bypass = [] then none else some .buffered) ∧
       (s.mode = .active → s.path.insertion ≠ none →
         s.nextItem = if s.trigger.own = .waiting ∧ s.path.bypass = [] then some .trigger else some .recordFrame) ∧
       (s.mode = .active → s.path.insertion = none → s.nextItem =
         if s.path.bypass ≠ [] then some .buffered
         else if s.trigger.own = .waiting then some .trigger
         else if s.path.phase = .forwarding then none
         else if s.member.announce = .waiting then some .announce
         else if s.member.depart = .waiting then some .depart
         else if s.send.queue ≠ [] ∧ s.offered = true then some .record
         else none))) ∧
  ∀ (s : State) (o : Occasion),
    (s.nextItem = none ∨ o.time ≤ s.boundary → s.at o = { s with now := max s.now o.time, order := o.order }) ∧
    (∀ i, s.nextItem = some i → s.boundary < o.time → s.at o = (s.sendItem i).at o) ∧
    ∀ f own t, (s.sent f own).outside.carriesFill t = true ↔
      s.outside.carriesFill t = true ∧ (t < s.boundary ∨ s.boundary + 80 ≤ t)

/-- R8: in transparent mode every arriving frame, good, bad or malformed, is sent on with the content it arrived with,
its check included, and no block is given it. A good CLAIM in ISOLATED or EXCLUDED is the one exception. R9: in census
mode every frame but a good CLAIM, NUMBER or RING_UP is discarded: it is heard, and nothing else happens. -/
def Obligations.OtherModesPassOrDiscard : Prop :=
  (∀ (s : State) (o : Occasion) (r : RawFrame), s.Receiving → s.mode = .transparent →
     (r.read.unusable = true ∨ (∀ b, r.read ≠ .claim b) ∨
       s.member.station ≠ .isolated ∧ s.member.station ≠ .excluded) →
     ∃ f : Frame, f.content = r ∧ exec (r.arrival o) s = .next ((s.heardRaw o r).forward f)) ∧
  (∀ (s : State) (o : Occasion) (r : RawFrame), s.Receiving → s.member.station = .census →
     (r.read.unusable = true ∨
       (∀ b, r.read ≠ .claim b) ∧ (∀ b, r.read ≠ .number b) ∧ ∀ b, r.read ≠ .ringUp b) →
     exec (r.arrival o) s = .next (s.heardRaw o r))

/-- R12: a bad or malformed frame in RUN or LEAVING is replaced by a VOID with the own ring number and hop 0 and is
counted. The VOID is forwarded in CLEAR and FORWARDING, where it damages the open context; in RETURNING it is a fault
of the record being followed and is stripped; in ORPHAN it is stripped. The input phase never changes. R3: a good
frame with a field outside its range is handled as a bad frame: in RUN, LEAVING and CENSUS the two commands leave the
same state, the link-loss timer included, where the bad frame's last symbol decoded as a good frame's does (R4). -/
def Obligations.BadFrameIsReplacedByVoid : Prop :=
  (∀ (s : State) (o : Occasion) (r : RawFrame) (n : BitVec 5), s.Receiving → s.mode = .active → s.member.number = some n →
     ∃ t : State,
       t = { s.heardRaw o r with counters := { s.counters with framesVoided := saturatingInc s.counters.framesVoided } } ∧
       (s.path.phase = .clear ∨ s.path.phase = .forwarding ∧ s.filter.context = none →
         exec (.badFrameArrives o r) s = .next (t.forward (.void { station := n, spare := 0, hop := 0 }))) ∧
       (∀ c, s.path.phase = .forwarding → s.filter.context = some c →
         exec (.badFrameArrives o r) s = .next (State.forward
           { t with filter := { s.filter with context := some { c with damaged := true } } }
           (.void { station := n, spare := 0, hop := 0 }))) ∧
       (s.path.phase = .returning → s.send.context = .openCurrent →
         exec (.badFrameArrives o r) s = .next { t with send := { t.send with fault := true } }) ∧
       (s.path.phase = .returning ∧ s.send.context ≠ .openCurrent ∨ s.path.phase = .orphan →
         exec (.badFrameArrives o r) s = .next t)) ∧
  (∀ (s : State) (o : Occasion) (r : RawFrame), s.mode ≠ .transparent → r.undecoded.getLsbD 0 = false →
     (∀ b : HeadBody, (b.source = 0 ∨ b.source = 31 ∨ 64 < b.length.toNat) →
       exec (.headArrives o b) s = exec (.badFrameArrives o r) s) ∧
     (∀ b : DataBody, (b.source = 0 ∨ b.source = 31) → exec (.dataArrives o b) s = exec (.badFrameArrives o r) s) ∧
     (∀ b : TailBody, (b.source = 0 ∨ b.source = 31) → exec (.tailArrives o b) s = exec (.badFrameArrives o r) s) ∧
     (∀ b : ClaimBody, b.mark = 0 → exec (.claimArrives o b) s = exec (.badFrameArrives o r) s) ∧
     (∀ b : NumberBody, b.count = 0 → exec (.numberArrives o b) s = exec (.badFrameArrives o r) s) ∧
     (∀ b : RingUpBody, (b.size = 0 ∨ b.size = 31) → exec (.ringUpArrives o b) s = exec (.badFrameArrives o r) s) ∧
     (∀ b : AnnounceBody, (b.number = 0 ∨ b.number = 31 ∨ b.mark = 0) →
       exec (.announceArrives o b) s = exec (.badFrameArrives o r) s) ∧
     (∀ b : TriggerBody, (b.source = 0 ∨ b.source = 31) → exec (.triggerArrives o b) s = exec (.badFrameArrives o r) s) ∧
     (∀ b : VoidBody, (b.station = 0 ∨ b.station = 31) → exec (.voidArrives o b) s = exec (.badFrameArrives o r) s) ∧
     (∀ b : DepartBody, (b.source = 0 ∨ b.source = 31) → exec (.departArrives o b) s = exec (.badFrameArrives o r) s))

/-- VOID_ARRIVES in RUN and LEAVING (R13, R14, R17, R62, R83): inside a returning record it sets the fault flag of
OPEN_CURRENT; an own one is stripped; with hop N − 1 or more it is an orphan; any other goes on with hop one greater
and damages the open context in FORWARDING. -/
def Obligations.VoidPassesOrEnds : Prop :=
  ∀ (s : State) (o : Occasion) (b : VoidBody), s.Receiving → s.mode = .active → (Frame.void b).unusable = false →
    ∃ t : State,
      t = (if s.path.phase = .returning ∧ s.send.context = .openCurrent then
        { s.heard o with send := { (s.heard o).send with fault := true } } else s.heard o) ∧
      (s.member.number = some b.station → exec (.voidArrives o b) s = .next t) ∧
      (s.member.number ≠ some b.station → s.member.ringSize.toNat ≤ b.hop.toNat + 1 →
        exec (.voidArrives o b) s = .next
          { t with counters := { s.counters with orphans := saturatingInc s.counters.orphans } }) ∧
      (s.member.number ≠ some b.station → b.hop.toNat + 1 < s.member.ringSize.toNat →
        (s.path.phase ≠ .forwarding ∨ s.filter.context = none →
          exec (.voidArrives o b) s = .next (t.forward (.void { b with hop := b.hop + 1 }))) ∧
        (∀ c, s.path.phase = .forwarding → s.filter.context = some c →
          exec (.voidArrives o b) s = .next (State.forward
            { t with filter := { s.filter with context := some { c with damaged := true } } }
            (.void { b with hop := b.hop + 1 }))))

/-! ### Records of other stations (R11, R15 to R17, R78 to R94) -/

/-- HEAD_ARRIVES of another station, no record open (R17, R78 to R80): the verdict is the first row of R79 that holds,
the context opens with it, and the HEAD goes on with hop one greater. Under ACCEPTING a FILLING entry joins the newest
end of the store and the target ring's reserved count rises by one; under the others nothing is reserved. -/
def Obligations.HeadIsJudged : Prop :=
  ∀ (s : State) (o : Occasion) (b : HeadBody), s.Receiving → s.mode = .active → (Frame.head b).unusable = false →
    s.path.phase = .clear → s.member.number ≠ some b.source → b.hop.toNat + 1 < s.member.ringSize.toNat →
    ∃ (v : Verdict) (t : State),
      v = (if s.member.station = .leaving then .passing else
        match s.filter.subscriptions.lookup b.stream with
        | none => .passing
        | some ring =>
          if tableEntry s.filter.duplicates b.source = some b.seq then .held
          else if 384 - (s.delivery.store.map (fun e => e.length.toNat + 1)).sum < b.length.toNat + 1 ∨
              (s.delivery.ring ring).slots - (s.delivery.ring ring).filled - (s.delivery.ring ring).reserved < 1 then
            .refusing
          else .accepting) ∧
      t = { s.heard o with
        path := { (s.heard o).path with phase := .forwarding }
        filter := { s.filter with
          context := some { source := b.source, stream := b.stream, seq := b.seq, attempt := b.attempt,
                            expected := b.length, next := 0, verdict := v, damaged := false,
                            target := s.filter.subscriptions.lookup b.stream } } } ∧
      (v ≠ .accepting → exec (.headArrives o b) s = .next (t.forward (.head { b with hop := b.hop + 1 }))) ∧
      (∀ ring, v = .accepting → s.filter.subscriptions.lookup b.stream = some ring →
        exec (.headArrives o b) s = .next (State.forward
          { t with
            delivery := Delivery.setRing
              { s.delivery with
                store := s.delivery.store ++
                  [{ state := .filling, source := b.source, stream := b.stream, seq := b.seq, length := b.length,
                     ring := ring, epoch := s.member.epoch, payload := [] }] }
              ring { s.delivery.ring ring with reserved := (s.delivery.ring ring).reserved + 1 } }
          (.head { b with hop := b.hop + 1 })))

/-- DATA_ARRIVES of another station (R16, R82, R94): in FORWARDING it goes on as it is; a good one under an open
context advances the next index and is stored when the verdict is ACCEPTING and nothing is damaged; any other sets the
damaged flag; with the context CLOSED nothing else happens. In ORPHAN it is stripped; in CLEAR and RETURNING it is a
stray. -/
def Obligations.DataFollowsTheRecord : Prop :=
  ∀ (s : State) (o : Occasion) (b : DataBody), s.Receiving → s.mode = .active → (Frame.data b).unusable = false →
    s.member.number ≠ some b.source →
    ∃ t : State, t = s.heard o ∧
      (s.path.phase = .orphan → exec (.dataArrives o b) s = .next t) ∧
      (s.path.phase = .clear ∨ s.path.phase = .returning →
        exec (.dataArrives o b) s = .next { t with counters := { s.counters with strays := saturatingInc s.counters.strays } }) ∧
      (s.path.phase = .forwarding →
        (s.filter.context = none → exec (.dataArrives o b) s = .next (t.forward (.data b))) ∧
        ∀ c, s.filter.context = some c →
          (b.source ≠ c.source ∨ b.index.toNat ≠ c.next ∨ c.expected.toNat ≤ b.index.toNat ∨ b.spare ≠ 0 →
            exec (.dataArrives o b) s = .next (State.forward
              { t with filter := { s.filter with context := some { c with damaged := true } } } (.data b))) ∧
          (b.source = c.source → b.index.toNat = c.next → b.index.toNat < c.expected.toNat → b.spare = 0 →
            ∃ u : State, u = { t with filter := { s.filter with context := some { c with next := c.next + 1 } } } ∧
              (c.verdict ≠ .accepting ∨ c.damaged = true → exec (.dataArrives o b) s = .next (u.forward (.data b))) ∧
              (∀ older e, c.verdict = .accepting → c.damaged = false → s.delivery.store = older ++ [e] →
                exec (.dataArrives o b) s = .next (State.forward
                  { u with
                    delivery := { s.delivery with store := older ++ [{ e with payload := e.payload ++ [b.word] }] } }
                  (.data b)))))

/-- TAIL_ARRIVES of another station (R16, R85 to R91, R94): in FORWARDING the phase becomes CLEAR and the TAIL goes
on. A damaged record is closed with the damaged mark, its room given back; an intact one by its verdict, each with its
own mark, its own effect on the duplicate entry and its own counter; with the context CLOSED the TAIL goes on as it
arrived. In ORPHAN it is stripped and ends the phase; in CLEAR and RETURNING it is a stray. -/
def Obligations.TailClosesTheRecord : Prop :=
  ∀ (s : State) (o : Occasion) (b : TailBody), s.Receiving → s.mode = .active → (Frame.tail b).unusable = false →
    s.member.number ≠ some b.source →
    ∃ t u : State, t = s.heard o ∧
      u = { t with path := { t.path with phase := .clear }, filter := { s.filter with context := none } } ∧
      (s.path.phase = .clear ∨ s.path.phase = .returning →
        exec (.tailArrives o b) s = .next { t with counters := { s.counters with strays := saturatingInc s.counters.strays } }) ∧
      (s.path.phase = .orphan → exec (.tailArrives o b) s = .next { t with path := { t.path with phase := .clear } }) ∧
      (s.path.phase = .forwarding → s.filter.context = none → exec (.tailArrives o b) s = .next (u.forward (.tail b))) ∧
      ∀ c, s.path.phase = .forwarding → s.filter.context = some c →
        (c.damaged = true ∨ b.source ≠ c.source ∨ b.seq ≠ c.seq ∨ b.attempt ≠ c.attempt ∨ c.next ≠ c.expected.toNat →
          (c.verdict ≠ .accepting → exec (.tailArrives o b) s = .next (State.forward
            { u with counters := { s.counters with recordsDamaged := saturatingInc s.counters.recordsDamaged } }
            (.tail { b with damaged := true }))) ∧
          (∀ older e, c.verdict = .accepting → s.delivery.store = older ++ [e] → e.state = .filling →
            exec (.tailArrives o b) s = .next (State.forward
              { u with
                counters := { s.counters with recordsDamaged := saturatingInc s.counters.recordsDamaged }
                delivery := Delivery.setRing { s.delivery with store := older } e.ring
                  { s.delivery.ring e.ring with reserved := (s.delivery.ring e.ring).reserved - 1 } }
              (.tail { b with damaged := true })))) ∧
        (c.damaged = false → b.source = c.source → b.seq = c.seq → b.attempt = c.attempt → c.next = c.expected.toNat →
          (∀ older e, c.verdict = .accepting → s.delivery.store = older ++ [e] →
            exec (.tailArrives o b) s = .next (State.forward (State.beginDelivery
              { u with
                counters := { s.counters with recordsAccepted := saturatingInc s.counters.recordsAccepted }
                delivery := { s.delivery with store := older ++ [{ e with state := .complete }] }
                filter := { s.filter with
                  context := none, duplicates := tableSet s.filter.duplicates c.source (some c.seq) } })
              (.tail { b with accept := saturatingInc b.accept }))) ∧
          (c.verdict = .held → exec (.tailArrives o b) s = .next (State.forward
            { u with counters := { s.counters with recordsHeld := saturatingInc s.counters.recordsHeld } }
            (.tail { b with held := saturatingInc b.held }))) ∧
          (c.verdict = .refusing → exec (.tailArrives o b) s = .next (State.forward
            { u with
              counters := { s.counters with recordsRefused := saturatingInc s.counters.recordsRefused }
              filter := { s.filter with context := none, duplicates := tableSet s.filter.duplicates c.source none } }
            (.tail { b with refused := true }))) ∧
          (c.verdict = .passing → exec (.tailArrives o b) s = .next (State.forward
            { u with
              filter := { s.filter with
                context := none, duplicates := tableSet s.filter.duplicates c.source (some c.seq) } }
            (.tail b))))

/-- FILL and FILL_SYMBOL_ARRIVES (R1, R4, R8, R9, R15, R48, R62, R92): a decodable symbol restarts the link-loss timer
at 32 µs; in DOWN it sets UP and starts the timer, and is a census entry in ISOLATED. Fill is reported no earlier than
one frame time after the last frame, keeps the next one a frame time away (notes/assumptions/10.md), and is not reported
while the link is DOWN. It truncates an open record in active mode and does nothing else in any mode: the phase becomes
CLEAR, an open context is closed damaged with its room given back, a returning record under OPEN_CURRENT ends its
attempt DAMAGED. R15: a HEAD, an ANNOUNCE and a DEPART that arrive inside an open record truncate it, as fill does, and
are then handled as they are in the CLEAR phase: what the command answers is what it answers at the truncated state `y`
of that moment, in which the receiver may hand the frame over, and of which `Obligations.HeadIsJudged`,
`OwnRecordReturns`, `AnnounceIsJudged` and `DepartEndsTheRing` speak. -/
def Obligations.OpenRecordIsTruncated : Prop :=
  (∀ (s : State) (o : Occasion), s.resetPin = false →
     (s.receiver.up = false → exec (.fill o) s = .next (s.at o) ∧ ∃ u : State,
       u = { s.at o with
         receiver := { s.receiver with up := true, lossTimer := some (max s.now o.time + 3200), lostAt := none } } ∧
       (s.member.station ≠ .isolated → exec (.fillSymbolArrives o) s = .next u) ∧
       (s.member.station = .isolated → s.path.phase = .clear → s.path.insertion = none → s.send.incoming = [] →
         exec (.fillSymbolArrives o) s = .next u.censusEntered)) ∧
     (s.receiver.up = true →
       exec (.fillSymbolArrives o) s = .next
         { s.at o with
           receiver := { s.receiver with lossTimer := some (max s.now o.time + 3200), lostAt := none } } ∧
       ∃ t u : State,
         t = { (s.at o).reach s.receiver.nextFrame with
           receiver := { s.receiver with nextFrame := max (max s.now o.time) s.receiver.nextFrame + 80 } } ∧
         u = { t with path := { t.path with phase := .clear } } ∧
         (s.mode ≠ .active ∨ s.path.phase = .clear → exec (.fill o) s = .next t) ∧
         (s.mode = .active → exec (.fill o) s = .next t.truncate ∧
           (s.path.phase = .orphan ∨ s.path.phase = .forwarding ∧ s.filter.context = none ∨
               s.path.phase = .returning ∧ (s.send.context = .closed ∨ s.send.context = .openHeadless) →
             exec (.fill o) s = .next u) ∧
           (s.path.phase = .returning → s.send.context = .openStale →
             exec (.fill o) s = .next { u with send := { t.send with context := .closed } }) ∧
           (s.path.phase = .returning → s.send.context = .openCurrent → t.send.head = some .inFlight →
             exec (.fill o) s = .next (State.afterOutcome
               { u with send := { t.send with context := .closed, returnTimer := none, attempt := !t.send.attempt,
                                              accept := 0, held := 0 } } .damaged)) ∧
           ∀ c, s.path.phase = .forwarding → s.filter.context = some c →
             (c.verdict ≠ .accepting → exec (.fill o) s = .next
               { u with
                 filter := { s.filter with context := none }
                 counters := { s.counters with recordsDamaged := saturatingInc s.counters.recordsDamaged } }) ∧
             (∀ older e, c.verdict = .accepting → s.delivery.store = older ++ [e] → e.state = .filling →
               exec (.fill o) s = .next
                 { u with
                   filter := { s.filter with context := none }
                   counters := { s.counters with recordsDamaged := saturatingInc s.counters.recordsDamaged }
                   delivery := Delivery.setRing { s.delivery with store := older } e.ring
                     { s.delivery.ring e.ring with reserved := (s.delivery.ring e.ring).reserved - 1 } })))) ∧
  ∀ (s : State) (o : Occasion), s.Receiving → s.mode = .active → ∃ x y : State,
    x = (s.heard o).truncate ∧ y = { x with receiver := { x.receiver with nextFrame := x.now } } ∧
    y.Receiving ∧ y.mode = .active ∧ y.path.phase = .clear ∧ y.heard o = x ∧
    (∀ b, (Frame.head b).unusable = false → exec (.headArrives o b) s = exec (.headArrives o b) y) ∧
    (∀ b, (Frame.announce b).unusable = false → exec (.announceArrives o b) s = exec (.announceArrives o b) y) ∧
    ∀ b, (Frame.depart b).unusable = false → exec (.departArrives o b) s = exec (.departArrives o b) y

/-! ### The station's own records (R13, R20, R57 to R69) -/

/-- HEAD_ARRIVES with the own ring number, or as an orphan, no record open (R13, R14, R60): an own HEAD that belongs
to the attempt in flight opens OPEN_CURRENT; any other own HEAD is a stale return, counted, and opens OPEN_STALE;
OPEN_HEADLESS is counted first and its fault flag clears. An orphan HEAD is counted and opens the ORPHAN phase.
DATA_ARRIVES with the own ring number (R13, R61), by the return context; the DATA is stripped in every case. -/
def Obligations.OwnRecordReturns : Prop :=
  (∀ (s : State) (o : Occasion) (b : HeadBody), s.Receiving → s.mode = .active → (Frame.head b).unusable = false →
     s.path.phase = .clear →
     ∃ (belongs : Prop) (h t : State), h = s.heard o ∧
       (belongs ↔ (∃ e rest, h.send.queue = e :: rest ∧ b.stream = e.stream ∧ b.length = e.length) ∧
         h.send.head = some .inFlight ∧ h.send.context ≠ .openCurrent ∧ b.seq = h.send.seq ∧
         b.attempt = h.send.attempt ∧ b.hop.toNat + 1 = s.member.ringSize.toNat) ∧
       t = { h with
         path := { h.path with phase := .returning }
         counters := if h.send.context = .openHeadless then
           { s.counters with staleReturns := saturatingInc s.counters.staleReturns } else s.counters } ∧
       (s.member.number = some b.source → belongs →
         exec (.headArrives o b) s = .next
           { t with send := { h.send with context := .openCurrent, nextIndex := 0, fault := false } }) ∧
       (s.member.number = some b.source → ¬belongs →
         exec (.headArrives o b) s = .next
           { t with
             counters := { t.counters with staleReturns := saturatingInc t.counters.staleReturns }
             send := { h.send with
               context := .openStale, fault := if h.send.context = .openHeadless then false else h.send.fault } }) ∧
       (s.member.number ≠ some b.source → s.member.ringSize.toNat ≤ b.hop.toNat + 1 →
         exec (.headArrives o b) s = .next
           { h with
             path := { h.path with phase := .orphan }
             counters := { s.counters with orphans := saturatingInc s.counters.orphans } })) ∧
  (∀ (s : State) (o : Occasion) (b : DataBody), s.Receiving → s.mode = .active → (Frame.data b).unusable = false →
     s.member.number = some b.source →
     ∃ t : State, t = s.heard o ∧
       (∀ e rest, t.send.context = .openCurrent → t.send.queue = e :: rest →
         (b.index.toNat ≠ t.send.nextIndex ∨ e.length.toNat ≤ b.index.toNat ∨ b.spare ≠ 0 →
           exec (.dataArrives o b) s = .next
             { t with send := { t.send with fault := true, nextIndex := b.index.toNat + 1 } }) ∧
         (b.index.toNat = t.send.nextIndex → b.index.toNat < e.length.toNat → b.spare = 0 →
           exec (.dataArrives o b) s = .next { t with send := { t.send with nextIndex := b.index.toNat + 1 } })) ∧
       (t.send.context = .openHeadless ∨ t.send.context = .openStale → exec (.dataArrives o b) s = .next t) ∧
       (t.send.context = .closed → t.send.head = some .inFlight →
         exec (.dataArrives o b) s = .next { t with send := { t.send with context := .openHeadless, fault := true } }) ∧
       (t.send.context = .closed → t.send.head ≠ some .inFlight →
         exec (.dataArrives o b) s = .next
           { t with
             send := { t.send with context := .openStale }
             counters := { s.counters with staleReturns := saturatingInc s.counters.staleReturns } }))

/-- TAIL_ARRIVES with the own ring number (R13, R63): the context becomes CLOSED, the phase RETURNING becomes CLEAR. A
TAIL of the attempt in flight ends it with the outcome that the first failing check gives and with the TAIL's counts as
last marks; in OPEN_CURRENT a TAIL of another attempt ends it DAMAGED, with that TAIL's counts as last marks; elsewhere
such a TAIL is a stale return, but in OPEN_STALE, where it is not counted. -/
def Obligations.OwnTailJudges : Prop :=
  ∀ (s : State) (o : Occasion) (b : TailBody), s.Receiving → s.mode = .active → (Frame.tail b).unusable = false →
    s.member.number = some b.source →
    ∃ (fits : Prop) (h t ended : State), h = s.heard o ∧
      (fits ↔ h.send.head = some .inFlight ∧ b.seq = h.send.seq ∧ b.attempt = h.send.attempt) ∧
      t = { h with
        path := { h.path with phase := if s.path.phase = .returning then .clear else s.path.phase }
        send := { h.send with context := .closed } } ∧
      ended = { t with send := { h.send with context := .closed, returnTimer := none, attempt := !h.send.attempt } } ∧
      (∀ e rest, h.send.queue = e :: rest → h.send.context = .openCurrent → fits →
        ∃ u : State, u = { ended with send := { ended.send with accept := b.accept, held := b.held } } ∧
          (h.send.fault = true ∨ h.send.nextIndex ≠ e.length.toNat ∨ b.damaged = true →
            exec (.tailArrives o b) s = .next (u.afterOutcome .damaged)) ∧
          (h.send.fault = false → h.send.nextIndex = e.length.toNat → b.damaged = false → b.refused = true →
            exec (.tailArrives o b) s = .next (u.afterOutcome .refused)) ∧
          (h.send.fault = false → h.send.nextIndex = e.length.toNat → b.damaged = false → b.refused = false →
            exec (.tailArrives o b) s = .next (u.afterOutcome .done))) ∧
      (h.send.context = .closed ∨ h.send.context = .openHeadless → fits →
        exec (.tailArrives o b) s = .next (State.afterOutcome
          { ended with send := { ended.send with fault := true, accept := b.accept, held := b.held } } .damaged)) ∧
      (h.send.context = .openCurrent → h.send.head = some .inFlight → ¬fits →
        exec (.tailArrives o b) s = .next (State.afterOutcome
          { ended with send := { ended.send with accept := b.accept, held := b.held } } .damaged)) ∧
      (h.send.context = .openHeadless → ¬fits →
        exec (.tailArrives o b) s = .next
          { t with
            send := { t.send with fault := false }
            counters := { s.counters with staleReturns := saturatingInc s.counters.staleReturns } }) ∧
      (h.send.context = .closed → ¬fits →
        exec (.tailArrives o b) s = .next
          { t with counters := { s.counters with staleReturns := saturatingInc s.counters.staleReturns } }) ∧
      (h.send.context = .openStale → exec (.tailArrives o b) s = .next t)

/-- What follows an outcome (R67, R68): DONE completes DONE whatever the cancel-requested flag; any other outcome
completes CANCELLED with the flag set, is retried while the attempt counter is below 1 + retry limit (RETRY_WAIT, the
retry gap at 64 µs, one more retry counted), and otherwise completes with that outcome. The completion of the head
entry (R54, R69): it leaves the queue, the sequence number advances when it was inserted, SENT carries its tag,
status, attempts and last marks, and the next entry becomes the head with everything that concerns the head starting
anew: STAGED at once with length 0, otherwise FETCHING with its fetch requested at once (R55, R139). -/
def Obligations.OutcomeCompletesOrRetries : Prop :=
  (∀ (s : State) (status : SendStatus),
     (s.afterOutcome .done = s.completeHead .done) ∧
     (status ≠ .done → s.send.cancelRequested = true → s.afterOutcome status = s.completeHead .cancelled) ∧
     (status ≠ .done → s.send.cancelRequested = false →
       (s.send.attempts < 1 + s.send.retryLimit → s.afterOutcome status = { s with
         send := { s.send with head := some .retryWait, gapTimer := some (s.now + 6400) }
         counters := { s.counters with retries := saturatingInc s.counters.retries } }) ∧
       (1 + s.send.retryLimit ≤ s.send.attempts → s.afterOutcome status = s.completeHead status))) ∧
  (∀ (s : State) (status : SendStatus) (e : SendEntry) (rest : List SendEntry), s.send.queue = e :: rest →
     s.completeHead status = State.post
       (State.adoptHead { s with send := { s.send with
         queue := rest, head := none, gapTimer := none
         seq := if s.send.attempts = 0 then s.send.seq else s.send.seq + 1 } })
       (.sent e.tag status s.send.attempts s.send.accept s.send.held)) ∧
  (∀ s : State, ∃ u : SendUnit,
     u = { s.send with
       staging := [], incoming := [], attempts := 0, cancelRequested := false, disposition := none, accept := 0, held := 0 } ∧
     (s.send.queue = [] → s.adoptHead = { s with send := { u with head := none } }) ∧
     ∀ f more, s.send.queue = f :: more →
       (f.length = 0 → s.adoptHead = { s with send := { u with head := some .staged } }) ∧
       (f.length ≠ 0 → s.adoptHead = State.makeRequest
         { s with send := { u with head := some .fetching } } .fetch false f.address ((f.length.toNat + 1) / 2)))

/-- ATTEMPT_BEGINS (R20, R57, R58): in RUN, with an empty bypass buffer, no arriving frame waiting, no forwarded
record open, no own record in progress and no own TRIGGER, ANNOUNCE or DEPART ready, the HEAD of a STAGED head, or of
one in RETRY_WAIT with its gap over, goes out at the next boundary: IN_FLIGHT, one attempt more, the return timer at 2
ms. The rest of the record carries what the staging buffer holds now (R59, notes/assumptions/7.md). -/
def Obligations.AttemptBegins : Prop :=
  ∀ (s t : State) (o : Occasion) (e : SendEntry) (rest : List SendEntry) (n : BitVec 5), t = s.at o →
    s.resetPin = false → t.member.station = .run → t.member.number = some n → t.send.queue = e :: rest →
    (t.send.head = some .staged ∨ t.send.head = some .retryWait ∧ t.send.gapTimer = none) →
    t.path.bypass = [] → t.path.waiting = none → t.path.phase ≠ .forwarding → t.path.insertion = none →
    t.trigger.own ≠ .waiting → t.member.announce ≠ .waiting → t.member.depart ≠ .waiting →
    ∃ u : State,
      u = t.sent (.head { source := n, stream := e.stream, seq := t.send.seq, length := e.length, hop := 0,
                          attempt := t.send.attempt }) true ∧
      exec (.attemptBegins o) s = .next { u with
        path := { u.path with
          insertion := some { source := n, seq := t.send.seq, attempt := t.send.attempt, length := e.length,
                              payload := t.send.staging, next := 0 } }
        send := { t.send with head := some .inFlight, attempts := t.send.attempts + 1, gapTimer := none,
                              returnTimer := some (u.now + 200000) } }

/-- OWN_RECORD_FRAME_SENT (R6, R19, R20, R58, R59): each boundary of an own record in progress sends its DATA in index
order and then its TAIL with clear marks, after which no own record is in progress; an arriving TRIGGER that waits, or
an own TRIGGER that may go, holds it back. Between two of its frames the output sends no fill: once the next boundary is
past, a frame has gone out at that boundary. The staging buffer is then free for the head entry and takes the halfwords
that its fetch has read meanwhile, at the TAIL's first bit (the model's reading of R59, DEDUCED,
notes/assumptions/7.md). -/
def Obligations.OwnRecordFramesFollow : Prop :=
  (∀ (s t : State) (o : Occasion) (i : Insertion), t = s.at o → s.resetPin = false → t.path.insertion = some i →
    (t.path.waiting ≠ none ∨ t.trigger.own = .waiting ∧ t.path.bypass = [] →
      exec (.ownRecordFrameSent o) s = .next t) ∧
    (t.mode = .active → t.path.waiting = none → t.trigger.own ≠ .waiting ∨ t.path.bypass ≠ [] →
      (i.next < i.length.toNat → ∃ u : State,
        u = t.sent (.data { source := i.source, index := BitVec.ofNat 6 i.next, spare := 0,
                            word := i.payload.getD i.next 0 }) true ∧
        exec (.ownRecordFrameSent o) s = .next
          { u with path := { u.path with insertion := some { i with next := i.next + 1 } } }) ∧
      (i.length.toNat ≤ i.next → ∃ u : State,
        u = t.sent (.tail { source := i.source, seq := i.seq, attempt := i.attempt, accept := 0, held := 0,
                            refused := false, damaged := false, spare := 0 }) true ∧
        exec (.ownRecordFrameSent o) s = .next u.endInsertion))) ∧
  (∀ s : State, s.endInsertion = { s with
    path := { s.path with insertion := none }
    send := { s.send with staging := s.send.staging ++ s.send.incoming, incoming := [] } }) ∧
  ∀ (s : State) (o : Occasion), s.resetPin = false → s.mode = .active → s.path.insertion ≠ none →
    s.boundary < o.time → ∃ f : SentFrame, f ∈ (s.at o).outside.ringOut ∧ f.start = s.boundary

/-- RETURN_TIMER_EXPIRES and RETRY_GAP_TIMER_EXPIRES (R64, R68): at the expiry of the return timer the attempt in
flight is LOST with last marks 0 and 0, and a part of its record already returned becomes stale and is counted; at
that of the retry gap only the timer stops. -/
def Obligations.SendTimersExpire : Prop :=
  ∀ (s : State) (o : Occasion) (t : Time), s.resetPin = false → ∃ x : State, x = s.expired o t ∧
    ((s.at o).send.gapTimer = some t →
      exec (.retryGapTimerExpires o) s = .next { x with send := { x.send with gapTimer := none } }) ∧
    ((s.at o).send.returnTimer = some t → x.send.head = some .inFlight →
      ∃ u : SendUnit, u = { x.send with returnTimer := none, attempt := !x.send.attempt, accept := 0, held := 0 } ∧
        (x.send.context = .closed ∨ x.send.context = .openStale →
          exec (.returnTimerExpires o) s = .next (State.afterOutcome { x with send := u } .lost)) ∧
        (x.send.context = .openCurrent ∨ x.send.context = .openHeadless →
          exec (.returnTimerExpires o) s = .next (State.afterOutcome
            { x with
              send := { u with context := .openStale }
              counters := { s.counters with staleReturns := saturatingInc s.counters.staleReturns } } .lost)))

/-! ### Membership: the ring left, the census, the roster (chapter 2) -/

/-- A census entry from RUN or LEAVING (R10, R29, R30, R31, R44, R50, R69, R73, R93, R127, R171), field by field: the
membership unit's record and the own CLAIM of attempt 0 (from LEAVING: the leave pending, DEFERRED, no own CLAIM); the
bypass buffer, the phase and the own record gone, an arriving frame that waits kept (notes/assumptions/14.md); the
duplicate table and the context cleared, a FILLING entry and its reservation given back; the return context CLOSED; an
entry IN_FLIGHT or in RETRY_WAIT completes with RING_LOST, the sequence number advances and the next entry becomes the
head; a pending own trigger ends, a WAITING own TRIGGER with it. The events are SENT and TRIGGER_DONE with RING_LOST
and STATE with the cause, in the occasion's turns. A change to BARRED (R10, R43): the same in the send unit, the
trigger unit, the record filter and the events, in transparent mode with the bypass buffer keeping its frames; off the
ring, STATE alone. Halfwords that the head entry's fetch has read while the own record held the staging buffer are placed in
it (the model's reading of R59, DEDUCED, notes/assumptions/7.md). -/
def Obligations.RingIsLeftWhole : Prop :=
  (∀ s u : State, s.onRing = true →
     ((∃ cause, u = s.enterCensus cause) ∨ u = s.enterBarred) →
     ∃ sent done : List Event,
       (∀ cause, u = s.enterCensus cause → u.events = (s.postAll (takeTurns s.order sent done
         [.stateChange .census cause s.member.ringSize 0 s.member.epoch])).events) ∧
       (u = s.enterBarred → u.events = (s.postAll (takeTurns s.order sent done
         [.stateChange .barred .markClash s.member.ringSize 0 s.member.epoch])).events) ∧
       (s.trigger.own = .none → done = [] ∧ u.trigger = s.trigger) ∧
       (∀ g, s.trigger.own ≠ .none → s.trigger.group = some g → done = [.triggerDone g .ringLost] ∧
         u.trigger = { s.trigger with own := .none, group := none, returnTimer := none }) ∧
       (s.send.head ≠ some .inFlight → s.send.head ≠ some .retryWait → sent = [] ∧
         u.send = { s.send with context := .closed, returnTimer := none, gapTimer := none
                                staging := s.send.staging ++ s.send.incoming, incoming := [] } ∧
         u.bus = s.bus) ∧
       (∀ e rest, s.send.queue = e :: rest → s.send.head = some .inFlight ∨ s.send.head = some .retryWait →
         ∃ (accept held : BitVec 5) (w : State),
           accept = (if s.send.head = some .inFlight then 0 else s.send.accept) ∧
           held = (if s.send.head = some .inFlight then 0 else s.send.held) ∧
           sent = [.sent e.tag .ringLost s.send.attempts accept held] ∧
           w = { s with send := { s.send with
             queue := rest, head := none, context := .closed, returnTimer := none, gapTimer := none
             attempt := if s.send.head = some .inFlight then !s.send.attempt else s.send.attempt
             accept := accept, held := held
             seq := if s.send.attempts = 0 then s.send.seq else s.send.seq + 1 } } ∧
           u.send = w.adoptHead.send ∧ u.bus = w.adoptHead.bus) ∧
       u.filter = { s.filter with duplicates := Vector.replicate 30 none, context := none } ∧
       u.delivery.engine = s.delivery.engine ∧
       (∀ c older e, s.filter.context = some c → c.verdict = .accepting → s.delivery.store = older ++ [e] →
         e.state = .filling → u.delivery = Delivery.setRing { s.delivery with store := older } e.ring
           { s.delivery.ring e.ring with reserved := (s.delivery.ring e.ring).reserved - 1 }) ∧
       ((∀ c, s.filter.context = some c → c.verdict ≠ .accepting) → u.delivery = s.delivery) ∧
       u.resetPin = s.resetPin ∧ u.receiver = s.receiver ∧ u.host = s.host ∧ u.outside = s.outside ∧ u.now = s.now ∧
       u.pending = s.pending) ∧
  (∀ (s u : State) (cause : StateCause), s.onRing = true → u = s.enterCensus cause →
     (s.member.station = .run → u.member = s.member.censusEntered s.now ∧
       u.path = { s.path with
         phase := .clear, bypass := [], insertion := none
         ownCensus := some (.claim { spareHigh := 0, mark := s.member.mark, spareLow := 0 }) }) ∧
     (s.member.station = .leaving → u.member = { s.member with
         station := .census, sub := some .deferred, leavePending := true, claimBegun := false, numberSent := none
         attempts := 0, provisional := none, number := none, roster := Vector.replicate 30 none, announce := .none
         depart := .none, censusTimer := some (s.now + 200000), isolationTimer := none, departTimer := none } ∧
       u.path = { s.path with phase := .clear, bypass := [], insertion := none }) ∧
     u.counters = { s.counters with censusEntries := saturatingInc s.counters.censusEntries }) ∧
  (∀ s u : State, u = s.enterBarred →
     u.member = { s.member with
       station := .barred, sub := none, censusTimer := none, departTimer := none, isolationTimer := none
       announce := if s.member.announce = .waiting then .none else s.member.announce
       depart := if s.member.depart = .waiting then .none else s.member.depart
       leavePending := false, provisional := none, number := none } ∧
     u.path = (if s.onRing then { s.path with phase := .clear, insertion := none, ownCensus := none }
       else { s.path with ownCensus := none }) ∧
     u.outside = s.outside ∧ u.counters = s.counters ∧ u.pending = s.pending ∧
     (s.onRing = false → u.send = s.send ∧ u.filter = s.filter ∧ u.trigger = s.trigger ∧ u.delivery = s.delivery ∧
       u.bus = s.bus ∧ u.events = s.events.post
         (.stateChange .barred .markClash s.member.ringSize 0 s.member.epoch)))

/-- A good census frame at a station in RUN or LEAVING, and a CLAIM in ISOLATED or EXCLUDED (R7, R28, R41, R42, R44):
an open record is truncated, the station enters CENSUS with cause CLAIM_SEEN, and then a CLAIM is judged in the new
attempt, a NUMBER or a RING_UP is discarded; from LEAVING the frame is forwarded unchanged. -/
def Obligations.CensusFrameStartsCensus : Prop :=
  ∀ (s : State) (o : Occasion), s.Receiving →
    (s.member.station = .run → s.member.leavePending = false →
      (∀ b, b.mark ≠ 0 → exec (.claimArrives o b) s =
        .next (((s.heard o).truncate.enterCensus .claimSeen).censusClaim b)) ∧
      (∀ b, b.count ≠ 0 → exec (.numberArrives o b) s = .next ((s.heard o).truncate.enterCensus .claimSeen)) ∧
      (∀ b, b.size ≠ 0 → b.size ≠ 31 →
        exec (.ringUpArrives o b) s = .next ((s.heard o).truncate.enterCensus .claimSeen))) ∧
    (s.member.station = .leaving →
      (∀ b, b.mark ≠ 0 → exec (.claimArrives o b) s =
        .next (((s.heard o).truncate.enterCensus .claimSeen).cutThrough (.claim b))) ∧
      (∀ b, b.count ≠ 0 → exec (.numberArrives o b) s =
        .next (((s.heard o).truncate.enterCensus .claimSeen).cutThrough (.number b))) ∧
      (∀ b, b.size ≠ 0 → b.size ≠ 31 → exec (.ringUpArrives o b) s =
        .next (((s.heard o).truncate.enterCensus .claimSeen).cutThrough (.ringUp b)))) ∧
    (s.member.station = .isolated ∨ s.member.station = .excluded → ∀ b, b.mark ≠ 0 →
      exec (.claimArrives o b) s = .next (((s.heard o).censusEntry (some .claimSeen)).censusClaim b))

/-- CLAIM_ARRIVES in CENSUS (R32 to R35, R44). In CLAIMING and DEFERRED a higher mark is forwarded and the station
defers, its own CLAIM withdrawn; a lower one is discarded; its own makes it the originator when its own CLAIM has
begun and bars it otherwise. In NUMBERED, COUNTING and CLOSING the attempt restarts, but the own mark in COUNTING or
CLOSING bars it. With the leave pending the CLAIM is forwarded whatever its mark. -/
def Obligations.ElectionJudgesClaims : Prop :=
  ∀ (s : State) (o : Occasion) (b : ClaimBody), s.Receiving → s.member.station = .census → b.mark ≠ 0 →
    ∃ t u : State, t = s.heard o ∧
      u = { t with
        member := { t.member with
          sub := some .deferred, provisional := none, numberSent := none, claimBegun := false
          censusTimer := some (t.now + 200000) }
        path := { t.path with ownCensus := none } } ∧
      (s.member.leavePending = true → exec (.claimArrives o b) s = .next (t.cutThrough (.claim b))) ∧
      (s.member.leavePending = false →
        (s.member.sub = some .claiming ∨ s.member.sub = some .deferred →
          (s.member.mark < b.mark → exec (.claimArrives o b) s = .next (State.cutThrough
            { t with member := { t.member with sub := some .deferred }, path := { t.path with ownCensus := none } }
            (.claim b))) ∧
          (b.mark < s.member.mark → exec (.claimArrives o b) s = .next t) ∧
          (b.mark = s.member.mark → t.member.claimBegun = true → exec (.claimArrives o b) s = .next
            { t with
              member := { t.member with provisional := some 1, sub := some .counting }
              path := { t.path with ownCensus := some (.number { count := 2, overfull := false, spare := 0 }) } }) ∧
          (b.mark = s.member.mark → t.member.claimBegun = false → exec (.claimArrives o b) s = .next
            (State.forward (State.enterBarred { t with member := { t.member with numberSent := none } }) (.claim b)))) ∧
        (s.member.sub = some .numbered ∨ s.member.sub = some .counting ∨ s.member.sub = some .closing →
          (s.member.mark < b.mark → exec (.claimArrives o b) s = .next (u.cutThrough (.claim b))) ∧
          (b.mark < s.member.mark → exec (.claimArrives o b) s = .next
            { u with
              member := { u.member with sub := some .claiming }
              path := { t.path with
                ownCensus := some (.claim { spareHigh := 0, mark := s.member.mark, spareLow := 0 }) } })) ∧
        (s.member.sub = some .numbered → b.mark = s.member.mark → exec (.claimArrives o b) s = .next (State.forward
          (State.enterBarred { u with member := { u.member with sub := some .claiming } }) (.claim b))) ∧
        (s.member.sub = some .counting ∨ s.member.sub = some .closing → b.mark = s.member.mark →
          exec (.claimArrives o b) s = .next
            (State.forward (State.enterBarred { t with member := { t.member with numberSent := none } }) (.claim b))))

/-- NUMBER_ARRIVES in CENSUS (R36, R37, R44). In CLAIMING and DEFERRED a count of 30 or less is taken and goes on one
greater; otherwise none is taken and count 31, overfull, goes on. The originator in COUNTING discards it before its
own has begun, restarts at a count of 1, and otherwise closes with ring size count − 1, or 30 when overfull, and hop
time round trip ÷ ring size, at most 65535. In NUMBERED and CLOSING it is discarded. -/
def Obligations.NumberingGivesNumbers : Prop :=
  ∀ (s : State) (o : Occasion) (b : NumberBody), s.Receiving → s.member.station = .census → b.count ≠ 0 →
    ∃ t u : State, t = s.heard o ∧ u = { t with path := { t.path with ownCensus := none } } ∧
      (s.member.leavePending = true → exec (.numberArrives o b) s = .next (t.cutThrough (.number b))) ∧
      (s.member.leavePending = false →
        (s.member.sub = some .claiming ∨ s.member.sub = some .deferred →
          (b.count.toNat ≤ 30 → b.overfull = false → exec (.numberArrives o b) s = .next (State.cutThrough
            { u with member := { t.member with provisional := some b.count, sub := some .numbered } }
            (.number { count := b.count + 1, overfull := false, spare := b.spare }))) ∧
          (b.count.toNat = 31 ∨ b.overfull = true → exec (.numberArrives o b) s = .next (State.cutThrough
            { u with member := { t.member with sub := some .deferred } }
            (.number { count := 31, overfull := true, spare := b.spare })))) ∧
        (s.member.sub = some .numbered ∨ s.member.sub = some .closing →
          exec (.numberArrives o b) s = .next t) ∧
        (s.member.sub = some .counting → t.member.numberSent = none → exec (.numberArrives o b) s = .next t) ∧
        ∀ sent, s.member.sub = some .counting → t.member.numberSent = some sent →
          (b.count = 1 → b.overfull = false → exec (.numberArrives o b) s = .next
            { t with
              member := { t.member with
                sub := some .claiming, provisional := none, numberSent := none, claimBegun := false
                censusTimer := some (t.now + 200000) }
              path := { t.path with
                ownCensus := some (.claim { spareHigh := 0, mark := s.member.mark, spareLow := 0 }) } }) ∧
          (b.count ≠ 1 ∨ b.overfull = true → ∃ (size : BitVec 5) (hop : BitVec 16),
            size.toNat = (if b.overfull then 30 else b.count.toNat - 1) ∧
            hop.toNat = min ((t.now - sent) / size.toNat) 65535 ∧
            exec (.numberArrives o b) s = .next
              { t with
                member := { t.member with pendingSize := size, pendingHop := hop, sub := some .closing }
                path := { t.path with
                  ownCensus := some (.ringUp { size := size, overfull := b.overfull, spare := 0, hopTime := hop }) } }))

/-- RING_UP_ARRIVES in CENSUS (R38, R39, R42, R44, R50). In NUMBERED, with a number within the ring size, and in CLOSING
the station enters RUN: the number becomes its own, N and the hop time are the frame's or the pending ones, the epoch is
one more, the own roster entry is written, an own ANNOUNCE waits, STATE RING_FORMED is posted. In CLAIMING and DEFERRED
an overfull RING_UP excludes it; else the attempt restarts, as it does in COUNTING and at a number above the ring size.
With the leave pending the RING_UP is forwarded and the station goes to PASS with STATE LEFT, the entries queued since
then completed with LEFT first (notes/assumptions/31.md). An own RING_UP not yet sent is withdrawn at RUN entry, the
model's choice (notes/assumptions/9.md). -/
def Obligations.RingUpClosesTheCensus : Prop :=
  ∀ (s : State) (o : Occasion) (b : RingUpBody), s.Receiving → s.member.station = .census → b.size ≠ 0 → b.size ≠ 31 →
    ∃ t passed : State, t = s.heard o ∧ passed = t.cutThrough (.ringUp b) ∧
      (s.member.leavePending = true → exec (.ringUpArrives o b) s = .next (State.post
        { passed.leaveSends with
          member := { t.member with station := .pass, sub := none, leavePending := false, censusTimer := none } }
        (.stateChange .pass .left s.member.ringSize (s.member.number.getD 0) s.member.epoch))) ∧
      (s.member.leavePending = false → ∃ restarted : Membership,
        restarted = { t.member with
          sub := some .claiming, provisional := none, numberSent := none, claimBegun := false
          censusTimer := some (t.now + 200000) } ∧
        (∀ p, s.member.sub = some .numbered → s.member.provisional = some p →
          (p.toNat ≤ b.size.toNat → exec (.ringUpArrives o b) s = .next (State.post
            { passed with
              path := { passed.path with ownCensus := none }
              member := { t.member with
                station := .run, sub := none, number := some p, ringSize := b.size, hopTime := b.hopTime
                censusTimer := none, claimBegun := false, attempts := 0, epoch := s.member.epoch + 1
                roster := tableSet s.member.roster p (some s.member.mark), announce := .waiting } }
            (.stateChange .run .ringFormed b.size p (s.member.epoch + 1)))) ∧
          (b.size.toNat < p.toNat → exec (.ringUpArrives o b) s = .next
            { passed with
              member := restarted
              path := { passed.path with
                ownCensus := some (.claim { spareHigh := 0, mark := s.member.mark, spareLow := 0 }) } })) ∧
        (s.member.sub = some .claiming ∨ s.member.sub = some .deferred →
          (b.overfull = true → exec (.ringUpArrives o b) s = .next (State.post
            { passed with
              path := { passed.path with ownCensus := none }
              member := { t.member with station := .excluded, sub := none, censusTimer := none, attempts := 0 } }
            (.stateChange .excluded .overfull s.member.ringSize (s.member.number.getD 0) s.member.epoch))) ∧
          (b.overfull = false → exec (.ringUpArrives o b) s = .next
            { passed with
              member := restarted
              path := { passed.path with
                ownCensus := some (.claim { spareHigh := 0, mark := s.member.mark, spareLow := 0 }) } })) ∧
        (s.member.sub = some .counting → exec (.ringUpArrives o b) s = .next
          { t with
            member := restarted
            path := { t.path with
              ownCensus := some (.claim { spareHigh := 0, mark := s.member.mark, spareLow := 0 }) } }) ∧
        (∀ p, s.member.sub = some .closing → s.member.provisional = some p →
          exec (.ringUpArrives o b) s = .next (State.post
            { t with
              path := { t.path with ownCensus := none }
              member := { t.member with
                station := .run, sub := none, number := some p, ringSize := s.member.pendingSize
                hopTime := s.member.pendingHop, censusTimer := none, claimBegun := false, attempts := 0
                epoch := s.member.epoch + 1, roster := tableSet s.member.roster p (some s.member.mark)
                announce := .waiting } }
            (.stateChange .run .ringFormed s.member.pendingSize p (s.member.epoch + 1)))))

/-- ANNOUNCE_ARRIVES in RUN and LEAVING, no record open (R14, R46, R47), by the first case that applies: the own
return ends the own ANNOUNCE; the own mark otherwise bars the station and goes on unchanged; the own number with
another mark, a number above N, a mark held at another number and a number that holds another mark are each a census
entry with ROSTER_CONFLICT; any other writes its roster entry and goes on with hop one greater. -/
def Obligations.AnnounceIsJudged : Prop :=
  ∀ (s : State) (o : Occasion) (b : AnnounceBody), s.Receiving → s.mode = .active →
    (Frame.announce b).unusable = false → s.path.phase = .clear →
    ∃ t : State, t = s.heard o ∧
      (s.member.number = some b.number →
        (t.member.announce = .sent → b.mark = s.member.mark → b.hop.toNat + 1 = s.member.ringSize.toNat →
          exec (.announceArrives o b) s = .next { t with member := { t.member with announce := .none } }) ∧
        (t.member.announce ≠ .sent ∨ b.hop.toNat + 1 ≠ s.member.ringSize.toNat → b.mark = s.member.mark →
          exec (.announceArrives o b) s = .next (t.enterBarred.forward (.announce b))) ∧
        (b.mark ≠ s.member.mark → exec (.announceArrives o b) s = .next (t.enterCensus .rosterConflict))) ∧
      (s.member.number ≠ some b.number → s.member.ringSize.toNat ≤ b.hop.toNat + 1 →
        exec (.announceArrives o b) s = .next
          { t with counters := { s.counters with orphans := saturatingInc s.counters.orphans } }) ∧
      (s.member.number ≠ some b.number → b.hop.toNat + 1 < s.member.ringSize.toNat →
        (b.mark = s.member.mark → exec (.announceArrives o b) s = .next (t.enterBarred.forward (.announce b))) ∧
        (b.mark ≠ s.member.mark →
          (s.member.ringSize.toNat < b.number.toNat ∨
              (∃ i : Fin 30, i.val + 1 ≠ b.number.toNat ∧ s.member.roster[i] = some b.mark) ∨
              (∃ m, tableEntry s.member.roster b.number = some m ∧ m ≠ b.mark) →
            exec (.announceArrives o b) s = .next (t.enterCensus .rosterConflict)) ∧
          (b.number.toNat ≤ s.member.ringSize.toNat →
            (∀ i : Fin 30, s.member.roster[i] = some b.mark → i.val + 1 = b.number.toNat) →
            (∀ m, tableEntry s.member.roster b.number = some m → m = b.mark) →
            exec (.announceArrives o b) s = .next (State.forward
              { t with member := { t.member with roster := tableSet s.member.roster b.number (some b.mark) } }
              (.announce { b with hop := b.hop + 1 })))))

/-- DEPART_ARRIVES in RUN and LEAVING, no record open (R14, R26, R27): another station's is a census entry with
DEPART_SEEN and is discarded; with hop N − 1 or more it is an orphan; one of the own number is a census entry with
ROSTER_CONFLICT, but in LEAVING the return of a SENT own DEPART takes the station to PASS, its number dropped. -/
def Obligations.DepartEndsTheRing : Prop :=
  ∀ (s : State) (o : Occasion) (b : DepartBody), s.Receiving → s.mode = .active →
    (Frame.depart b).unusable = false → s.path.phase = .clear →
    ∃ t : State, t = s.heard o ∧
      (s.member.number ≠ some b.source → b.hop.toNat + 1 < s.member.ringSize.toNat →
        exec (.departArrives o b) s = .next (t.enterCensus .departSeen)) ∧
      (s.member.number ≠ some b.source → s.member.ringSize.toNat ≤ b.hop.toNat + 1 →
        exec (.departArrives o b) s = .next
          { t with counters := { s.counters with orphans := saturatingInc s.counters.orphans } }) ∧
      (s.member.number = some b.source →
        (s.member.station = .run ∨ t.member.depart ≠ .sent ∨ b.hop.toNat + 1 ≠ s.member.ringSize.toNat →
          exec (.departArrives o b) s = .next (t.enterCensus .rosterConflict)) ∧
        (s.member.station = .leaving → t.member.depart = .sent → b.hop.toNat + 1 = s.member.ringSize.toNat →
          exec (.departArrives o b) s = .next (State.post
            { t.endInsertion with
              member := { t.member with station := .pass, number := none, depart := .none, departTimer := none } }
            (.stateChange .pass .left s.member.ringSize 0 s.member.epoch))))

/-- OWN_CLAIM_SENT, OWN_NUMBER_SENT and OWN_RING_UP_SENT (R9, R31, R35, R37): the own census frame ready at the
arbiter goes out at the next boundary at which no arriving frame waits, and is ready no more; the first bit of the
CLAIM sets the own-claim-begun flag, that of the NUMBER is noted as the NUMBER send time. OWN_ANNOUNCE_SENT,
OWN_DEPART_SENT and OWN_TRIGGER_SENT (R20, R26, R39, R47, R123, R124): with an empty bypass buffer and no arriving
frame waiting a WAITING own TRIGGER goes out and is SENT; a WAITING own ANNOUNCE or DEPART needs in addition a record
boundary and no own TRIGGER ready. Each carries the own ring number and hop 0. -/
def Obligations.OwnControlFramesGoOut : Prop :=
  (∀ (s t : State) (o : Occasion) (f : Frame), t = s.at o → s.resetPin = false → t.member.station = .census →
     t.path.ownCensus = some f → t.path.waiting = none →
     ∃ u : State, u = State.sent { t with path := { t.path with ownCensus := none } } f true ∧
       (∀ b, f = .claim b →
         exec (.ownClaimSent o) s = .next { u with member := { t.member with claimBegun := true } }) ∧
       (∀ b, f = .number b →
         exec (.ownNumberSent o) s = .next { u with member := { t.member with numberSent := some u.now } }) ∧
       (∀ b, f = .ringUp b → exec (.ownRingUpSent o) s = .next u)) ∧
  (∀ (s t : State) (o : Occasion) (n : BitVec 5), t = s.at o → s.resetPin = false → t.mode = .active →
     t.member.number = some n → t.path.bypass = [] → t.path.waiting = none →
     (∀ g, t.trigger.own = .waiting → t.trigger.group = some g → ∃ u : State,
       u = t.sent (.trigger { source := n, group := g, spare := 0, hop := 0 }) true ∧
       exec (.ownTriggerSent o) s = .next { u with trigger := { t.trigger with own := .sent } }) ∧
     (t.trigger.own ≠ .waiting → t.path.phase ≠ .forwarding → t.path.insertion = none →
       (t.member.announce = .waiting → ∃ u : State,
         u = t.sent (.announce { number := n, mark := t.member.mark, spare := 0, hop := 0 }) true ∧
         exec (.ownAnnounceSent o) s = .next { u with member := { t.member with announce := .sent } }) ∧
       (t.member.announce ≠ .waiting → t.member.depart = .waiting → ∃ u : State,
         u = t.sent (.depart { source := n, spare := 0, hop := 0 }) true ∧
         exec (.ownDepartSent o) s = .next { u with member := { t.member with depart := .sent } })) ∧
     (t.path.phase = .forwarding ∨ t.path.insertion ≠ none ∨ t.trigger.own = .waiting →
       exec (.ownAnnounceSent o) s = .next t ∧ exec (.ownDepartSent o) s = .next t))

/-- CENSUS_TIMER_EXPIRES (R40, R41, R44): the attempt counter is one more; below 8 a new attempt starts, at 8 the
station is ISOLATED with CENSUS_FAILED and the isolation interval at 64 ms. With the leave pending it goes to PASS, the
counter as it was, once the entries queued since then have completed with LEFT (notes/assumptions/31.md).
ISOLATION_INTERVAL_EXPIRES and LINK_UP in ISOLATED (R4, R41, R48): a census entry that posts no STATE event. LINK_UP
elsewhere sets UP and starts the link-loss timer at 32 µs, and nothing else. DEPART_LIMIT_TIMER_EXPIRES (R10, R26, R62,
R93): it takes the station from LEAVING to PASS, its number dropped and its own DEPART withdrawn; a record open on the
input ends with it: the phase becomes CLEAR, an open record context is discarded with its room given back, no counter
touched, and of a returning record OPEN_CURRENT and OPEN_STALE become CLOSED, the attempt not judged; an own record in
progress ends with it (`Obligations.OwnRecordFramesFollow`). -/
def Obligations.MembershipTimersExpire : Prop :=
  (∀ (s : State) (o : Occasion) (t : Time), s.resetPin = false → s.member.censusTimer = some t →
     ∃ u : State, u = s.expired o t ∧
       (s.member.leavePending = true → exec (.censusTimerExpires o) s = .next (State.post
         { u.leaveSends with
           member := { u.member with station := .pass, sub := none, leavePending := false, censusTimer := none } }
         (.stateChange .pass .left s.member.ringSize (s.member.number.getD 0) s.member.epoch))) ∧
       (s.member.leavePending = false → s.member.attempts + 1 < 8 → exec (.censusTimerExpires o) s = .next
         { u with
           member := { u.member with
             attempts := s.member.attempts + 1, sub := some .claiming, provisional := none, numberSent := none
             claimBegun := false, censusTimer := some (u.now + 200000) }
           path := { u.path with
             ownCensus := some (.claim { spareHigh := 0, mark := s.member.mark, spareLow := 0 }) } }) ∧
       (s.member.leavePending = false → 8 ≤ s.member.attempts + 1 → exec (.censusTimerExpires o) s = .next (State.post
         { u with
           member := { u.member with
             attempts := s.member.attempts + 1, station := .isolated, sub := none, provisional := none
             censusTimer := none, isolationTimer := some (u.now + 6400000) }
           path := { u.path with ownCensus := none } }
         (.stateChange .isolated .censusFailed s.member.ringSize (s.member.number.getD 0) s.member.epoch)))) ∧
  (∀ (s : State) (o : Occasion) (t : Time), s.resetPin = false → s.path.phase = .clear →
     (s.member.station = .isolated → s.path.insertion = none → s.send.incoming = [] → s.member.isolationTimer = some t →
       exec (.isolationIntervalExpires o) s = .next (s.expired o t).censusEntered) ∧
     (s.receiver.up = false → ∃ u : State,
       u = { s.at o with
         receiver := { s.receiver with up := true, lossTimer := some (max s.now o.time + 3200), lostAt := none } } ∧
       (s.member.station = .isolated → s.path.insertion = none → s.send.incoming = [] →
         exec (.linkUp o) s = .next u.censusEntered) ∧
       (s.member.station ≠ .isolated → exec (.linkUp o) s = .next u))) ∧
  ∀ (s : State) (o : Occasion) (t : Time), s.resetPin = false → s.member.station = .leaving →
    s.member.departTimer = some t → ∃ x u v : State, x = s.expired o t ∧
      u = { x with path := { x.path with phase := .clear } } ∧
      (s.path.phase = .clear ∨ s.path.phase = .orphan ∨ s.path.phase = .forwarding ∧ s.filter.context = none ∨
        s.path.phase = .returning ∧ (x.send.context = .closed ∨ x.send.context = .openHeadless) → v = u) ∧
      (s.path.phase = .returning → x.send.context = .openCurrent ∨ x.send.context = .openStale →
        v = { u with send := { x.send with context := .closed } }) ∧
      (∀ c, s.path.phase = .forwarding → s.filter.context = some c →
        (c.verdict ≠ .accepting → v = { u with filter := { s.filter with context := none } }) ∧
        (∀ older e, c.verdict = .accepting → s.delivery.store = older ++ [e] → e.state = .filling → v = { u with
          filter := { s.filter with context := none }
          delivery := Delivery.setRing { s.delivery with store := older } e.ring
            { s.delivery.ring e.ring with reserved := (s.delivery.ring e.ring).reserved - 1 } })) ∧
      exec (.departLimitTimerExpires o) s = .next (State.post
        { v.endInsertion with
          member := { x.member with station := .pass, number := none, depart := .none, departTimer := none } }
        (.stateChange .pass .left s.member.ringSize 0 s.member.epoch))

/-- LINK_LOSS (R4, R15, R48, R62, R95): DOWN, the timer stopped, the loss counted; outside RUN and LEAVING nothing
else happens; in RUN and LEAVING an open record is truncated and the station enters CENSUS with LINK_LOSS, in either
order. A frame that falls together with the link loss, taken first, and whose last symbol decodes (R48,
notes/assumptions/34.md): that symbol sets UP, and the frame is judged in the state that the loss has left, at state `y` in
which the receiver may hand it over; in ISOLATED the link-up is a census entry before that. So in RUN it is judged in the
new attempt's CLAIMING, and one census entry is counted. -/
def Obligations.LinkLossIsCounted : Prop :=
  (∀ (s : State) (o : Occasion) (t : Time) (first : Bool), s.resetPin = false → s.receiver.lossTimer = some t →
    ∃ u : State,
      u = { s.expired o t with
        receiver := { s.receiver with up := false, lossTimer := none, lostAt := some (s.expired o t).now }
        counters := { s.counters with linkLosses := saturatingInc s.counters.linkLosses } } ∧
      (s.mode ≠ .active → exec (.linkLoss o first) s = .next u) ∧
      (s.mode = .active → exec (.linkLoss o true) s = .next (u.truncate.enterCensus .linkLoss) ∧
        exec (.linkLoss o false) s = .next (u.enterCensus .linkLoss))) ∧
  (∀ (s : State) (c : Instr), s.resetPin = false → s.receiver.up = false →
    s.receiver.lostAt = some (max (max s.now c.occasion.time) s.receiver.nextFrame) → c.isArrival = true →
    (∀ o r, c = .badFrameArrives o r → r.undecoded.getLsbD 0 = false) →
    (s.member.station ≠ .isolated →
      exec c s = exec c { s with receiver := { s.receiver with up := true, lostAt := none } }) ∧
    (s.member.station = .isolated → s.path.phase = .clear → s.path.insertion = none → s.send.incoming = [] →
      ∃ x y : State,
        x = State.censusEntered
          { s.heard c.occasion with receiver := { (s.heard c.occasion).receiver with up := true, lostAt := none } } ∧
        y = { x with receiver := { x.receiver with nextFrame := x.now } } ∧ y.heard c.occasion = x ∧
        exec c s = exec c y)) ∧
  ∀ (s v : State) (o o' : Occasion) (t : Time) (first : Bool) (b : ClaimBody), s.resetPin = false →
    s.receiver.lossTimer = some t → s.member.station = .run → exec (.linkLoss o first) s = .next v →
    o'.time ≤ v.now → v.receiver.nextFrame ≤ v.now → b.mark ≠ 0 →
    ∃ w x : State, w = { v with receiver := { v.receiver with up := true, lostAt := none } } ∧
      w.Receiving ∧ w.member.station = .census ∧ w.member.sub = some .claiming ∧
      exec (.claimArrives o' b) v = exec (.claimArrives o' b) w ∧ exec (.claimArrives o' b) v = .next x ∧
      x.counters.censusEntries = saturatingInc s.counters.censusEntries

/-! ### The trigger unit (chapter 6) -/

/-- TRIGGER_ARRIVES (R13, R14, R17, R19, R125, R129, R130, R132, R136): the return of a SENT own trigger completes it
DONE and then, in a member, requests its fire with delay 0; any other own TRIGGER is a stale return; hop N − 1 or more
is an orphan; any other requests, in a member, a fire after (N − 1 − hop) hop times and goes on ahead of the bypass
buffer with hop one greater. How it goes on where an own frame began at this very moment is the model's reading of R21 and
R124, DEDUCED, notes/assumptions/32.md: it is sent first, and the own frame is ready at the arbiter again, as it was before
it began; where a LEAVE, a CANCEL or a timer has at this moment taken the own frame as sent, that starts
one frame time later, an own HEAD's return timer with it. A fire request (R129, R132, R133): with fewer than four
entries it joins the schedule with its due time, or fires at once with delay 0; with four it is missed, and the four
stay. -/
def Obligations.TriggerArrives : Prop :=
  (∀ (s : State) (o : Occasion) (b : TriggerBody), s.Receiving → s.mode = .active → (Frame.trigger b).unusable = false →
     ∃ t : State, t = s.heard o ∧
       (s.member.number = some b.source →
         (t.trigger.own = .sent → s.trigger.group = some b.group → b.hop.toNat + 1 = s.member.ringSize.toNat →
           ∃ u : State, u = State.post
             { t with trigger := { t.trigger with own := .none, group := none, returnTimer := none } }
             (.triggerDone b.group .done) ∧
           (s.trigger.membership.getLsbD b.group.toNat = false → exec (.triggerArrives o b) s = .next u) ∧
           (s.trigger.membership.getLsbD b.group.toNat = true →
             exec (.triggerArrives o b) s = .next (u.requestFire b.group b.source 0))) ∧
         (t.trigger.own ≠ .sent ∨ s.trigger.group ≠ some b.group ∨ b.hop.toNat + 1 ≠ s.member.ringSize.toNat →
           exec (.triggerArrives o b) s = .next
             { t with counters := { s.counters with staleReturns := saturatingInc s.counters.staleReturns } })) ∧
       (s.member.number ≠ some b.source →
         (s.member.ringSize.toNat ≤ b.hop.toNat + 1 → exec (.triggerArrives o b) s = .next
           { t with counters := { s.counters with orphans := saturatingInc s.counters.orphans } }) ∧
         (b.hop.toNat + 1 < s.member.ringSize.toNat →
           (s.trigger.membership.getLsbD b.group.toNat = false → exec (.triggerArrives o b) s =
             .next (t.overtake (.trigger { b with hop := b.hop + 1 }))) ∧
           (s.trigger.membership.getLsbD b.group.toNat = true → exec (.triggerArrives o b) s =
             .next ((t.requestFire b.group b.source
               ((s.member.ringSize.toNat - 1 - b.hop.toNat) * s.member.hopTime.toNat)).overtake
               (.trigger { b with hop := b.hop + 1 })))))) ∧
  (∀ (s : State) (f : Frame),
     ((∀ g, s.path.output = some g → g.own = false ∨ g.ends ≠ s.now + 80) → s.overtake f = s.cutThrough f) ∧
     ∀ g sent last, s.path.output = some g → g.own = true → g.ends = s.now + 80 → s.outside.ringOut = sent ++ [last] →
       ∃ (ahead : State) (ready : Prop),
         ahead = { s with
           path := { s.path with output := some { frame := f, own := false, ends := s.now + 80 } }
           outside := { s.outside with ringOut := sent ++ [{ frame := f, start := s.now }] } } ∧
         (ready ↔ match g.frame with
           | .trigger _ => s.trigger.own = .sent
           | .announce _ => s.member.announce = .sent ∧ s.member.station = .run
           | .depart _ => s.member.depart = .sent ∧ s.member.station = .leaving
           | .head _ => (∃ i, s.path.insertion = some i ∧ i.next = 0) ∧ s.send.head = some .inFlight ∧
               s.send.cancelRequested = false ∧ (s.send.context = .closed ∨ s.send.context = .openStale)
           | .data _ => ∃ i, s.path.insertion = some i ∧ i.next ≠ 0
           | .tail _ => s.path.insertion = none
           | _ => False) ∧
         (ready → s.overtake f = match g.frame with
           | .trigger _ => { ahead with trigger := { s.trigger with own := .waiting } }
           | .announce _ => { ahead with member := { s.member with announce := .waiting } }
           | .depart _ => { ahead with member := { s.member with depart := .waiting } }
           | .head _ => { ahead with
               path := { ahead.path with insertion := none }
               send := { s.send with
                 head := some (if s.send.attempts ≤ 1 then .staged else .retryWait)
                 attempts := s.send.attempts - 1, returnTimer := none } }
           | .tail b => { ahead with
               path := { ahead.path with
                 insertion := some { source := b.source, seq := b.seq, attempt := b.attempt, length := 0, payload := []
                                     next := 0 } }
               send := if s.send.head = some .fetching ∨ s.send.head = some .staged then
                   { s.send with staging := [], incoming := s.send.staging ++ s.send.incoming }
                 else s.send }
           | _ => { ahead with path := { ahead.path with
               insertion := s.path.insertion.map (fun i => { i with next := i.next - 1 }) } }) ∧
         (¬ready → s.overtake f = { s with
           path := { s.path with output := some { frame := g.frame, own := true, ends := s.now + 160 } }
           outside := { s.outside with
             ringOut := sent ++ [{ frame := f, start := s.now }, { frame := g.frame, start := s.now + 80 }] }
           send := { s.send with
             returnTimer := match g.frame, s.send.returnTimer with
               | .head _, some t => some (t + 80)
               | _, timer => timer } })) ∧
  (∀ (s : State) (g : BitVec 3) (n : BitVec 5) (delay : Time),
     (s.trigger.schedule.length < 4 → delay ≠ 0 → s.requestFire g n delay = { s with
       trigger := { s.trigger with
         schedule := s.trigger.schedule ++ [{ group := g, source := n, due := s.now + delay }] } }) ∧
     (s.trigger.schedule.length < 4 → s.requestFire g n 0 = State.post
       { s with trigger := { s.trigger with pulseTimer := some (s.now + 100), pin := true } } (.triggerFired g n)) ∧
     (4 ≤ s.trigger.schedule.length → s.requestFire g n delay = s.post (.triggerMissed g n)))

/-- FIRE_DUE, TRIG_PULSE_TIMER_EXPIRES and TRIGGER_RETURN_TIMER_EXPIRES (R126, R133, R134, R136): an entry with the
earliest due time leaves the schedule and fires, TRIG high for 1 µs from then; the pulse ends with its timer; an own
trigger whose return timer expires completes LOST. That an entry due later than another is not yet the one that fires
is the model's reading of the clock (notes/assumptions/5.md). -/
def Obligations.TriggerTimersExpire : Prop :=
  ∀ (s : State) (o : Occasion), s.resetPin = false →
    (∀ (before behind : List Fire) (f : Fire), s.trigger.schedule = before ++ f :: behind →
      (∀ g ∈ before ++ behind, f.due ≤ g.due) →
      ∃ t : State, t = s.expired o f.due ∧
        exec (.fireDue o before.length) s = .next (State.post
          { t with trigger := { t.trigger with
            schedule := before ++ behind, pulseTimer := some (t.now + 100), pin := true } }
          (.triggerFired f.group f.source))) ∧
    (∀ t, s.trigger.pulseTimer = some t → exec (.trigPulseTimerExpires o) s = .next
      { s.expired o t with trigger := { (s.expired o t).trigger with pulseTimer := none, pin := false } }) ∧
    ∀ t g, s.trigger.returnTimer = some t → s.trigger.group = some g →
      exec (.triggerReturnTimerExpires o) s = .next (State.post
        { s.expired o t with trigger := { (s.expired o t).trigger with own := .none, group := none, returnTimer := none } }
        (.triggerDone g .lost))

/-! ### The bus master and its clients (chapter 7, R105 to R110, R157 to R162) -/

/-- The arbiter (R142) and the bursts it issues (R139, R141): a current burst is never interrupted; the loader goes
first, a lone waiter at once, fetch and delivery in turn, delivery first when neither has been granted. A burst has
the least of the burst length (1 for the loader), the words left, and the words up to the next 32-byte boundary. A
request stands from when its client makes it, none of its words transferred, and the arbiter then grants (R139, R142). -/
def Obligations.ArbiterAlternates : Prop :=
  ∀ s : State,
    (s.bus.burst ≠ none → s.grant = s) ∧
    (s.bus.burst = none →
      (∀ r, s.bus.loader = some r → s.grant = s.issue .loader r) ∧
      (s.bus.loader = none →
        (s.bus.fetch = none → s.bus.delivery = none → s.grant = s) ∧
        (∀ f, s.bus.fetch = some f → s.bus.delivery = none → s.grant = s.issue .fetch f) ∧
        (∀ d, s.bus.fetch = none → s.bus.delivery = some d → s.grant = s.issue .delivery d) ∧
        ∀ f d, s.bus.fetch = some f → s.bus.delivery = some d →
          (s.bus.lastGrant = some .delivery → s.grant = s.issue .fetch f) ∧
          (s.bus.lastGrant ≠ some .delivery → s.grant = s.issue .delivery d))) ∧
    (∀ (c : Client) (write : Bool) (start : Word) (words : Nat), ∃ r : Request,
      r = { write := write, start := start, words := words, done := 0 } ∧
      s.makeRequest c write start words = State.grant { s with bus := match c with
        | .loader => { s.bus with loader := some r }
        | .fetch => { s.bus with fetch := some r }
        | .delivery => { s.bus with delivery := some r } }) ∧
    ∀ (c : Client) (r : Request), r.done < r.words → 1 ≤ s.bus.burstLength →
      ∃ b : Burst,
        s.issue c r = { s with bus := { s.bus with
          burst := some b, timeout := some (s.now + 6400)
          lastGrant := if c = .loader then s.bus.lastGrant else some c } } ∧
        b.client = c ∧ b.write = r.write ∧ b.first.toNat = (r.start.toNat + 4 * r.done) % 2 ^ 32 ∧ b.answered = 0 ∧
        1 ≤ b.words ∧
        b.words = min (min (if c = .loader then 1 else s.bus.burstLength) (r.words - r.done))
          (8 - b.first.toNat / 4 % 8)

/-- BUS_WORD_ANSWERED inside a burst (R144, R145): the word is transferred, to the load buffer, to the staging buffer in
the halfword order and no longer than the payload (or to the halfwords that wait for that buffer while an own record in
progress holds it, the model's reading of R59, DEDUCED, notes/assumptions/7.md), or from the DELIVERING entry to its
address in local memory; the next word is presented and the bus timeout restarts at 64 µs. A late answer, to a word
whose transfer has ended, and any answer with no burst current are ignored. -/
def Obligations.AnsweredWordIsTransferred : Prop :=
  ∀ (s u : State) (o : Occasion) (w : Word) (b : Burst) (r : Request), u = s.at o → s.resetPin = false →
    exec (.busWordAnswered o .late) s = .next u ∧
    (u.bus.burst = none → ∀ answer, exec (.busWordAnswered o answer) s = .next u) ∧
    (u.bus.burst = some b → u.bus.request b.client = some r → b.answered + 1 < b.words →
      ∃ t : State,
        t = { u with bus := { u.bus with
          burst := some { b with answered := b.answered + 1 }, timeout := some (max s.now o.time + 6400) } } ∧
        (b.client = .loader → exec (.busWordAnswered o (.ok w)) s = .next
          { t with host := { s.host with loadBuffer := s.host.loadBuffer ++ [w] } }) ∧
        (∀ e rest, b.client = .fetch → s.send.queue = e :: rest →
          (u.path.insertion = none → exec (.busWordAnswered o (.ok w)) s = .next { t with
            send := { u.send with staging := (u.send.staging ++ u.bus.order.split w).take e.length.toNat } }) ∧
          (u.path.insertion ≠ none → exec (.busWordAnswered o (.ok w)) s = .next { t with
            send := { u.send with incoming :=
              (u.send.incoming ++ u.bus.order.split w).take (e.length.toNat - u.send.staging.length) } })) ∧
        (b.client = .delivery → exec (.busWordAnswered o (.ok w)) s = .next
          { t with
            outside := { u.outside with
              written := writeWord u.outside.written (b.first + BitVec.ofNat 32 (4 * b.answered)).toNat
                (u.deliveryWord (r.done + b.answered)) } }))

/-- BUS_WORD_ANSWERED with an error and BUS_TIMEOUT (R110, R144 to R146, R159): the burst ends and its request with
it, and the arbiter grants again after the client has acted on the end: a load ends with CONFIG_FAULT, a fetch
completes its entry with FETCH_FAULT or by its disposition, a delivery is HALTED with its entry COMPLETE again and
DELIVERY_FAULT posted. Both carry the address of the first word not yet answered. -/
def Obligations.FailedBurstEndsRequest : Prop :=
  ∀ (s x : State) (o : Occasion) (c : Instr) (cause : BusCause) (b : Burst) (r : Request), s.resetPin = false →
    (c = .busWordAnswered o .error ∧ cause = .error ∧ x = s.at o ∨
      c = .busTimeout o ∧ cause = .timeout ∧ ∃ t, (s.at o).bus.timeout = some t ∧ x = s.expired o t) →
    x.bus.burst = some b → x.bus.request b.client = some r →
    ∃ (u : State) (address : Word),
      address = b.first + BitVec.ofNat 32 (4 * b.answered) ∧
      u = { x with bus := BusMaster.setRequest { x.bus with burst := none, timeout := none } b.client none } ∧
      (b.client = .loader → exec c s = .next (State.grant (State.post
        { u with host := { s.host with loading := false, loadAddress := none, loadBuffer := [] } }
        (.configFault cause address)))) ∧
      (b.client = .fetch →
        (x.send.disposition = none → exec c s = .next (u.completeHead .fetchFault).grant) ∧
        (x.send.disposition = some .cancelled → exec c s = .next (u.completeHead .cancelled).grant) ∧
        (x.send.disposition = some .left → exec c s = .next (u.completeHead .left).grant)) ∧
      ∀ phase ring slot e rest, b.client = .delivery → s.delivery.engine = .delivering phase ring slot →
        s.delivery.store = e :: rest → exec c s = .next (State.grant (State.post
          { u with delivery := { s.delivery with
            store := { e with state := .complete } :: rest, engine := .halted ring slot } }
          (.deliveryFault ring slot address cause)))

/-- The last word of a burst (R55, R56, R107, R108, R144, R146): it is transferred, to the load buffer, to the staging
buffer (or to the halfwords that wait for it, the model's reading of R59, DEDUCED, notes/assumptions/7.md) or to local
memory; a request with words left is granted again from its next word; a completed fetch leaves the head STAGED when no
disposition is pending, and completes it with CANCELLED or LEFT when one is; a delivery goes from its body to word 1 and
from word 1 to word 0; word 0 completes it: the entry leaves the store, the reserved count falls and the filled count
rises by one, the write index advances modulo the slot count, the delivery count is one more, DELIVERED is posted. -/
def Obligations.CompletedRequestTellsItsClient : Prop :=
  ∀ (s x : State) (o : Occasion) (w : Word) (b : Burst) (r : Request), x = s.at o → s.resetPin = false →
    x.bus.burst = some b → x.bus.request b.client = some r → b.answered + 1 = b.words →
    ∃ t freed : State,
      (b.client = .loader → t = { x with host := { s.host with loadBuffer := s.host.loadBuffer ++ [w] } }) ∧
      (∀ e rest, b.client = .fetch → s.send.queue = e :: rest →
        (x.path.insertion = none → t = { x with
          send := { x.send with staging := (x.send.staging ++ x.bus.order.split w).take e.length.toNat } }) ∧
        (x.path.insertion ≠ none → t = { x with
          send := { x.send with incoming :=
            (x.send.incoming ++ x.bus.order.split w).take (e.length.toNat - x.send.staging.length) } })) ∧
      (b.client = .delivery → t = { x with outside := { x.outside with
        written := writeWord x.outside.written (b.first + BitVec.ofNat 32 (4 * b.answered)).toNat
          (x.deliveryWord (r.done + b.answered)) } }) ∧
      freed = { t with bus := BusMaster.setRequest { x.bus with burst := none, timeout := none } b.client none } ∧
      (r.done + b.words < r.words → exec (.busWordAnswered o (.ok w)) s = .next (State.grant
        { t with
          bus := BusMaster.setRequest { x.bus with burst := none, timeout := none } b.client
            (some { r with done := r.done + b.words }) })) ∧
      (r.words ≤ r.done + b.words →
        (b.client = .fetch →
          (x.send.disposition = none → exec (.busWordAnswered o (.ok w)) s = .next
            (State.grant { freed with send := { t.send with head := some .staged } })) ∧
          (x.send.disposition = some .cancelled →
            exec (.busWordAnswered o (.ok w)) s = .next (freed.completeHead .cancelled).grant) ∧
          (x.send.disposition = some .left →
            exec (.busWordAnswered o (.ok w)) s = .next (freed.completeHead .left).grant)) ∧
        (∀ ring slot, b.client = .delivery → s.delivery.engine = .delivering .body ring slot →
          exec (.busWordAnswered o (.ok w)) s = .next (State.grant (State.makeRequest
            { freed with delivery := { s.delivery with engine := .delivering .header1 ring slot } }
            .delivery true ((s.delivery.ring ring).base + BitVec.ofNat 32 (136 * slot) + 4) 1))) ∧
        (∀ ring slot, b.client = .delivery → s.delivery.engine = .delivering .header1 ring slot →
          exec (.busWordAnswered o (.ok w)) s = .next (State.grant (State.makeRequest
            { freed with delivery := { s.delivery with engine := .delivering .header0 ring slot } }
            .delivery true ((s.delivery.ring ring).base + BitVec.ofNat 32 (136 * slot)) 1))) ∧
        (∀ ring slot e rest, b.client = .delivery → s.delivery.engine = .delivering .header0 ring slot →
          s.delivery.store = e :: rest →
          exec (.busWordAnswered o (.ok w)) s = .next (State.grant (State.beginDelivery (State.post
            { freed with
              delivery := Delivery.setRing { s.delivery with store := rest, engine := .idle } ring
                { s.delivery.ring ring with
                  reserved := (s.delivery.ring ring).reserved - 1
                  filled := (s.delivery.ring ring).filled + 1
                  writeIndex := ((s.delivery.ring ring).writeIndex + 1) % (s.delivery.ring ring).slots
                  delivered := (s.delivery.ring ring).delivered + 1 } }
            (.delivered ring slot e.source e.stream e.seq e.length))))))

/-- The words of a slot (R101, R106, R107, 11.3): body word k holds halfwords 2k and 2k + 1 in the halfword order,
zero for a missing one; word 1 the delivery count and the epoch; word 0 source, stream, seq and length, unused bits
zero. -/
def Obligations.SlotWordsHoldTheRecord : Prop :=
  ∀ (s : State) (e : StoreEntry) (rest : List StoreEntry) (ring : BitVec 2) (slot k : Nat),
    s.delivery.store = e :: rest →
    (s.delivery.engine = .delivering .body ring slot →
      s.deliveryWord k = (match s.bus.order with
        | .lowFirst => e.payload.getD (2 * k + 1) 0 ++ e.payload.getD (2 * k) 0
        | .highFirst => e.payload.getD (2 * k) 0 ++ e.payload.getD (2 * k + 1) 0)) ∧
    (s.delivery.engine = .delivering .header1 ring slot →
      (s.deliveryWord k).extractLsb' 0 16 = (s.delivery.ring ring).delivered ∧
      (s.deliveryWord k).extractLsb' 16 8 = e.epoch ∧ (s.deliveryWord k).extractLsb' 24 8 = 0) ∧
    (s.delivery.engine = .delivering .header0 ring slot →
      (s.deliveryWord k).extractLsb' 0 8 = e.source.setWidth 8 ∧ (s.deliveryWord k).extractLsb' 8 8 = e.stream.setWidth 8 ∧
      (s.deliveryWord k).extractLsb' 16 8 = e.seq ∧ (s.deliveryWord k).extractLsb' 24 8 = e.length.setWidth 8)

/-- Where each item of a record stands (R160, R185, 11.2), and that no other bit counts. The twentieth word of a load
(R158, R161, R162): a record that fails no check is loaded in one step, every item to its block, the station goes to
PASS and CONFIGURED is posted; one that fails a check is rejected with the first reason and its index, and no item is
loaded. Validation (R161), check by check: a record is valid exactly when the mark is not 0, the retry limit at most 15,
the burst length 1, 2, 4 or 8, every slot count 0 or 2 to 128, at most 16 subscriptions are used, no stream appears in
two of them and each names a ring of at least 2 slots; the checks are reported in this order, the last two entry by
entry, a stream already named before a ring, with the position. -/
def Obligations.RecordIsValidatedAndLoaded : Prop :=
  (∀ (words : List Word) (word : Nat → Word), (∀ k, word k = words.getD k 0) →
     recordMark words = (word 0).extractLsb' 0 16 ∧ recordRetryLimit words = ((word 1).extractLsb' 0 8).toNat ∧
     recordBurstLength words = ((word 1).extractLsb' 8 8).toNat ∧
     recordOrder words = (if (word 1).getLsbD 16 then .highFirst else .lowFirst) ∧
     recordMembership words = (word 2).extractLsb' 0 8 ∧
     recordSubscriptionCount words = ((word 3).extractLsb' 0 8).toNat ∧
     (∀ r, r < 4 → (recordBase words r).toNat = (word (4 + 2 * r)).toNat / 4 * 4 ∧
       recordSlots words r = ((word (5 + 2 * r)).extractLsb' 0 16).toNat) ∧
     (∀ j, j < 8 →
       recordSubscription words (2 * j) =
         ((word (12 + j)).extractLsb' 0 6, (word (12 + j)).extractLsb' 8 2) ∧
       recordSubscription words (2 * j + 1) =
         ((word (12 + j)).extractLsb' 16 6, (word (12 + j)).extractLsb' 24 2)) ∧
     recordSubscriptions words = (List.range (recordSubscriptionCount words)).map (recordSubscription words)) ∧
  (∀ (s x : State) (o : Occasion) (w : Word) (b : Burst) (r : Request), x = s.at o → s.resetPin = false →
     x.bus.burst = some b → b.client = .loader → x.bus.loader = some r → b.answered + 1 = b.words →
     r.words ≤ r.done + b.words →
     ∃ (t : State) (words : List Word), words = s.host.loadBuffer ++ [w] ∧
       t = { x with
         bus := { x.bus with burst := none, timeout := none, loader := none }
         host := { s.host with loading := false, loadAddress := none, loadBuffer := [] } } ∧
       (∀ reason index, recordFault words = some (reason, index) → exec (.busWordAnswered o (.ok w)) s =
         .next (t.post (.configRejected reason index)).grant) ∧
       (recordFault words = none → exec (.busWordAnswered o (.ok w)) s = .next (State.grant (State.post
         { t with
           member := { x.member with mark := recordMark words, station := .pass }
           send := { x.send with retryLimit := recordRetryLimit words }
           bus := { t.bus with burstLength := recordBurstLength words, order := recordOrder words }
           trigger := { x.trigger with membership := recordMembership words }
           delivery := { s.delivery with rings := Vector.ofFn (fun i : Fin 4 =>
             { base := recordBase words i.val, slots := recordSlots words i.val, writeIndex := 0, filled := 0,
               reserved := 0, delivered := 0 }) }
           filter := { s.filter with
             subscriptions := (List.range (recordSubscriptionCount words)).map (recordSubscription words) } }
         (.configured (recordMark words)))))) ∧
  (∀ words : List Word,
     (recordFault words = none ↔
       recordMark words ≠ 0 ∧ recordRetryLimit words ≤ 15 ∧ recordBurstLength words ∈ [1, 2, 4, 8] ∧
       (∀ r, r < 4 → recordSlots words r = 0 ∨ 2 ≤ recordSlots words r ∧ recordSlots words r ≤ 128) ∧
       recordSubscriptionCount words ≤ 16 ∧ ((recordSubscriptions words).map (·.1)).Nodup ∧
       ∀ x ∈ recordSubscriptions words, 2 ≤ recordSlots words x.2.toNat) ∧
     (recordMark words = 0 → recordFault words = some (.mark, 0)) ∧
     (recordMark words ≠ 0 → 15 < recordRetryLimit words → recordFault words = some (.retryLimit, 0)) ∧
     (recordMark words ≠ 0 → recordRetryLimit words ≤ 15 → recordBurstLength words ∉ [1, 2, 4, 8] →
       recordFault words = some (.burstLength, 0)) ∧
     ∀ r, r < 4 → recordMark words ≠ 0 → recordRetryLimit words ≤ 15 → recordBurstLength words ∈ [1, 2, 4, 8] →
       (∀ q, q < r → recordSlots words q = 0 ∨ 2 ≤ recordSlots words q ∧ recordSlots words q ≤ 128) →
       (recordSlots words r = 1 ∨ 128 < recordSlots words r) → recordFault words = some (.ringSlots, r)) ∧
  (∀ words : List Word,
     recordMark words ≠ 0 → recordRetryLimit words ≤ 15 → recordBurstLength words ∈ [1, 2, 4, 8] →
     (∀ q, q < 4 → recordSlots words q = 0 ∨ 2 ≤ recordSlots words q ∧ recordSlots words q ≤ 128) →
     (16 < recordSubscriptionCount words → recordFault words = some (.subscriptionCount, 0)) ∧
     ∀ j, recordSubscriptionCount words ≤ 16 → j < recordSubscriptionCount words →
       (∀ k, k < j → (∀ i, i < k → (recordSubscription words i).1 ≠ (recordSubscription words k).1) ∧
         2 ≤ recordSlots words (recordSubscription words k).2.toNat) →
       ((∃ i, i < j ∧ (recordSubscription words i).1 = (recordSubscription words j).1) →
         recordFault words = some (.subscriptionDuplicate, j)) ∧
       ((∀ i, i < j → (recordSubscription words i).1 ≠ (recordSubscription words j).1) →
         recordSlots words (recordSubscription words j).2.toNat < 2 →
         recordFault words = some (.subscriptionRing, j)))

/-! ### Invariants -/

/-- The invariant of `Sys2Proof/Safety.lean` holds right after reset. -/
def Obligations.InvariantHoldsAtReset : Prop :=
  State.reset.Inv

/-- The event queue and the command collector keep their guarantees through every step from any state that has them (R149,
R151, R152, R167 to R170, R172): at most 128 words, records of 2 to 32 words, at most 31 words left of a current event; a
command is being collected exactly while COMMAND STATUS is COLLECTING, with its code and its words so far below its count. -/
def Obligations.QueueAndCollectorStaySound : Prop :=
  (∀ s s' : State, s.events.Sound → step s = .next s' → s'.events.Sound) ∧
  ∀ s s' : State, s.host.Sound = true → step s = .next s' → s'.host.Sound = true

/-- Every step from a state with the invariant keeps the membership unit's part of it (R23, R26, R31, R35 to R37, R39 to
R45): a ring number exactly in RUN and LEAVING, between 1 and N; each sub-state and timer exactly in its station state;
no two roster entries with one mark; own frames waiting only where they may go out. -/
def Obligations.MembershipStaysSound : Prop :=
  ∀ s s' : State, s.Inv → step s = .next s' → s'.MemberSound ∧ s'.RosterSound

/-- Every step from a state with the invariant keeps the send unit's part of it (R51 to R58, R66 to R73): at most 16
entries, what each head state says of the timers, the flags and the attempt counter, an attempt only in RUN, in LEAVING
and PASS no entry but a FETCHING head with its disposition (R74; notes/assumptions/31.md); halfwords wait for the
staging buffer only while an own record in progress holds it (notes/assumptions/7.md). -/
def Obligations.SendUnitStaysSound : Prop :=
  ∀ s s' : State, s.Inv → step s = .next s' → s'.SendSound

/-- Every step from a state with the invariant keeps the part of it about accepted records (R75, R77, R96, R98, R99, R102,
R104, R111): at most 384 places, at most one FILLING entry and it the newest, at most one DELIVERING and it the oldest, one
reservation for each entry of the store, filled plus reserved within the slots. -/
def Obligations.StoreAndRingsStaySound : Prop :=
  ∀ s s' : State, s.Inv → step s = .next s' → s'.StoreSound

/-- Every step from a state with the invariant keeps the parts of it about the ring receiver, the forwarding path and
the ring output, the trigger unit, RESET and the record of written words (R1, R4, R9, R10, R15, R18 to R20, R121, R132,
R134): the link-loss timer runs exactly while the link is UP and expires no later than 32 µs from now; the bypass buffer
never holds more than 66 frames; while frames stand ready the output sends no fill, and it lags behind the input by no
more than the frames of one own record; no two frames go out within one frame time. The record of written words is the
model's own, and the moments are those of notes/assumptions/10.md. -/
def Obligations.PathAndTriggerStaySound : Prop :=
  ∀ s s' : State, s.Inv → step s = .next s' →
    s'.ReceiverSound ∧ s'.OutputSound ∧ s'.TriggerSound ∧ s'.ResetSound ∧ s'.WrittenSound

/-- Every step from a state with the invariant keeps the bus master's part of it (R138 to R142, R145): a current burst lies
within its client's standing request and within one 32-byte block and is timed; a request stands exactly while its client
is in the work that makes it (R55, R105, R139, R158); none waits while the bus is free. -/
def Obligations.BusStaysSound : Prop :=
  ∀ s s' : State, s.Inv → step s = .next s' → s'.BusSound
end

