-- ==== Sys2Proof/Laws/State.lean ====
section
/-! SUPPORT. One lemma per field per update, for the updates that change one or two blocks: what each block is after the
update. Each is true by `rfl`. -/

namespace Sys2Proof.Machine

/-! ### `State.post` -/

@[simp] theorem State.post_resetPin (s : State) (e : Event) : (s.post e).resetPin = s.resetPin := rfl
@[simp] theorem State.post_receiver (s : State) (e : Event) : (s.post e).receiver = s.receiver := rfl
@[simp] theorem State.post_path (s : State) (e : Event) : (s.post e).path = s.path := rfl
@[simp] theorem State.post_member (s : State) (e : Event) : (s.post e).member = s.member := rfl
@[simp] theorem State.post_send (s : State) (e : Event) : (s.post e).send = s.send := rfl
@[simp] theorem State.post_filter (s : State) (e : Event) : (s.post e).filter = s.filter := rfl
@[simp] theorem State.post_delivery (s : State) (e : Event) : (s.post e).delivery = s.delivery := rfl
@[simp] theorem State.post_trigger (s : State) (e : Event) : (s.post e).trigger = s.trigger := rfl
@[simp] theorem State.post_bus (s : State) (e : Event) : (s.post e).bus = s.bus := rfl
@[simp] theorem State.post_host (s : State) (e : Event) : (s.post e).host = s.host := rfl
@[simp] theorem State.post_events (s : State) (e : Event) : (s.post e).events = s.events.post e := rfl
@[simp] theorem State.post_counters (s : State) (e : Event) : (s.post e).counters = s.counters := rfl
@[simp] theorem State.post_outside (s : State) (e : Event) : (s.post e).outside = s.outside := rfl
@[simp] theorem State.post_now (s : State) (e : Event) : (s.post e).now = s.now := rfl
@[simp] theorem State.post_order (s : State) (e : Event) : (s.post e).order = s.order := rfl
@[simp] theorem State.post_pending (s : State) (e : Event) : (s.post e).pending = s.pending := rfl

/-! ### `State.setPhase` -/

@[simp] theorem State.setPhase_resetPin (s : State) (p : InputPhase) : (s.setPhase p).resetPin = s.resetPin := rfl
@[simp] theorem State.setPhase_receiver (s : State) (p : InputPhase) : (s.setPhase p).receiver = s.receiver := rfl
@[simp] theorem State.setPhase_path (s : State) (p : InputPhase) :
    (s.setPhase p).path = { s.path with phase := p } := rfl
@[simp] theorem State.setPhase_member (s : State) (p : InputPhase) : (s.setPhase p).member = s.member := rfl
@[simp] theorem State.setPhase_send (s : State) (p : InputPhase) : (s.setPhase p).send = s.send := rfl
@[simp] theorem State.setPhase_filter (s : State) (p : InputPhase) : (s.setPhase p).filter = s.filter := rfl
@[simp] theorem State.setPhase_delivery (s : State) (p : InputPhase) : (s.setPhase p).delivery = s.delivery := rfl
@[simp] theorem State.setPhase_trigger (s : State) (p : InputPhase) : (s.setPhase p).trigger = s.trigger := rfl
@[simp] theorem State.setPhase_bus (s : State) (p : InputPhase) : (s.setPhase p).bus = s.bus := rfl
@[simp] theorem State.setPhase_host (s : State) (p : InputPhase) : (s.setPhase p).host = s.host := rfl
@[simp] theorem State.setPhase_events (s : State) (p : InputPhase) : (s.setPhase p).events = s.events := rfl
@[simp] theorem State.setPhase_counters (s : State) (p : InputPhase) : (s.setPhase p).counters = s.counters := rfl
@[simp] theorem State.setPhase_outside (s : State) (p : InputPhase) : (s.setPhase p).outside = s.outside := rfl
@[simp] theorem State.setPhase_now (s : State) (p : InputPhase) : (s.setPhase p).now = s.now := rfl
@[simp] theorem State.setPhase_order (s : State) (p : InputPhase) : (s.setPhase p).order = s.order := rfl
@[simp] theorem State.setPhase_pending (s : State) (p : InputPhase) : (s.setPhase p).pending = s.pending := rfl

/-! ### `State.withdrawCensusFrame` -/

@[simp] theorem State.withdrawCensusFrame_resetPin (s : State) : (s.withdrawCensusFrame).resetPin = s.resetPin := rfl
@[simp] theorem State.withdrawCensusFrame_receiver (s : State) : (s.withdrawCensusFrame).receiver = s.receiver := rfl
@[simp] theorem State.withdrawCensusFrame_path (s : State) :
    (s.withdrawCensusFrame).path = { s.path with ownCensus := none } := rfl
@[simp] theorem State.withdrawCensusFrame_member (s : State) : (s.withdrawCensusFrame).member = s.member := rfl
@[simp] theorem State.withdrawCensusFrame_send (s : State) : (s.withdrawCensusFrame).send = s.send := rfl
@[simp] theorem State.withdrawCensusFrame_filter (s : State) : (s.withdrawCensusFrame).filter = s.filter := rfl
@[simp] theorem State.withdrawCensusFrame_delivery (s : State) : (s.withdrawCensusFrame).delivery = s.delivery := rfl
@[simp] theorem State.withdrawCensusFrame_trigger (s : State) : (s.withdrawCensusFrame).trigger = s.trigger := rfl
@[simp] theorem State.withdrawCensusFrame_bus (s : State) : (s.withdrawCensusFrame).bus = s.bus := rfl
@[simp] theorem State.withdrawCensusFrame_host (s : State) : (s.withdrawCensusFrame).host = s.host := rfl
@[simp] theorem State.withdrawCensusFrame_events (s : State) : (s.withdrawCensusFrame).events = s.events := rfl
@[simp] theorem State.withdrawCensusFrame_counters (s : State) : (s.withdrawCensusFrame).counters = s.counters := rfl
@[simp] theorem State.withdrawCensusFrame_outside (s : State) : (s.withdrawCensusFrame).outside = s.outside := rfl
@[simp] theorem State.withdrawCensusFrame_now (s : State) : (s.withdrawCensusFrame).now = s.now := rfl
@[simp] theorem State.withdrawCensusFrame_order (s : State) : (s.withdrawCensusFrame).order = s.order := rfl
@[simp] theorem State.withdrawCensusFrame_pending (s : State) : (s.withdrawCensusFrame).pending = s.pending := rfl

/-! ### `State.startAt` -/

@[simp] theorem State.startAt_resetPin (s : State) (t : Time) (f : Frame) (own : Bool) :
    (s.startAt t f own).resetPin = s.resetPin := rfl
@[simp] theorem State.startAt_receiver (s : State) (t : Time) (f : Frame) (own : Bool) :
    (s.startAt t f own).receiver = s.receiver := rfl
@[simp] theorem State.startAt_path (s : State) (t : Time) (f : Frame) (own : Bool) :
    (s.startAt t f own).path = { s.path with output := some { frame := f, own := own, ends := t + frameTime } } := rfl
@[simp] theorem State.startAt_member (s : State) (t : Time) (f : Frame) (own : Bool) :
    (s.startAt t f own).member = s.member := rfl
@[simp] theorem State.startAt_send (s : State) (t : Time) (f : Frame) (own : Bool) :
    (s.startAt t f own).send = s.send := rfl
@[simp] theorem State.startAt_filter (s : State) (t : Time) (f : Frame) (own : Bool) :
    (s.startAt t f own).filter = s.filter := rfl
@[simp] theorem State.startAt_delivery (s : State) (t : Time) (f : Frame) (own : Bool) :
    (s.startAt t f own).delivery = s.delivery := rfl
@[simp] theorem State.startAt_trigger (s : State) (t : Time) (f : Frame) (own : Bool) :
    (s.startAt t f own).trigger = s.trigger := rfl
@[simp] theorem State.startAt_bus (s : State) (t : Time) (f : Frame) (own : Bool) :
    (s.startAt t f own).bus = s.bus := rfl
@[simp] theorem State.startAt_host (s : State) (t : Time) (f : Frame) (own : Bool) :
    (s.startAt t f own).host = s.host := rfl
@[simp] theorem State.startAt_events (s : State) (t : Time) (f : Frame) (own : Bool) :
    (s.startAt t f own).events = s.events := rfl
@[simp] theorem State.startAt_counters (s : State) (t : Time) (f : Frame) (own : Bool) :
    (s.startAt t f own).counters = s.counters := rfl
@[simp] theorem State.startAt_outside (s : State) (t : Time) (f : Frame) (own : Bool) :
    (s.startAt t f own).outside = { s.outside with ringOut := s.outside.ringOut ++ [{ frame := f, start := t }] } := rfl
@[simp] theorem State.startAt_now (s : State) (t : Time) (f : Frame) (own : Bool) :
    (s.startAt t f own).now = s.now := rfl
@[simp] theorem State.startAt_order (s : State) (t : Time) (f : Frame) (own : Bool) :
    (s.startAt t f own).order = s.order := rfl
@[simp] theorem State.startAt_pending (s : State) (t : Time) (f : Frame) (own : Bool) :
    (s.startAt t f own).pending = s.pending := rfl

/-! ### `State.sendAtBoundary` -/

@[simp] theorem State.sendAtBoundary_resetPin (s : State) (f : Frame) (own : Bool) :
    (s.sendAtBoundary f own).resetPin = s.resetPin := rfl
@[simp] theorem State.sendAtBoundary_receiver (s : State) (f : Frame) (own : Bool) :
    (s.sendAtBoundary f own).receiver = s.receiver := rfl
@[simp] theorem State.sendAtBoundary_path (s : State) (f : Frame) (own : Bool) :
    (s.sendAtBoundary f own).path = { s.path with output := some { frame := f, own := own, ends := s.boundary + frameTime } } := rfl
@[simp] theorem State.sendAtBoundary_member (s : State) (f : Frame) (own : Bool) :
    (s.sendAtBoundary f own).member = s.member := rfl
@[simp] theorem State.sendAtBoundary_send (s : State) (f : Frame) (own : Bool) :
    (s.sendAtBoundary f own).send = s.send := rfl
@[simp] theorem State.sendAtBoundary_filter (s : State) (f : Frame) (own : Bool) :
    (s.sendAtBoundary f own).filter = s.filter := rfl
@[simp] theorem State.sendAtBoundary_delivery (s : State) (f : Frame) (own : Bool) :
    (s.sendAtBoundary f own).delivery = s.delivery := rfl
@[simp] theorem State.sendAtBoundary_trigger (s : State) (f : Frame) (own : Bool) :
    (s.sendAtBoundary f own).trigger = s.trigger := rfl
@[simp] theorem State.sendAtBoundary_bus (s : State) (f : Frame) (own : Bool) :
    (s.sendAtBoundary f own).bus = s.bus := rfl
@[simp] theorem State.sendAtBoundary_host (s : State) (f : Frame) (own : Bool) :
    (s.sendAtBoundary f own).host = s.host := rfl
@[simp] theorem State.sendAtBoundary_events (s : State) (f : Frame) (own : Bool) :
    (s.sendAtBoundary f own).events = s.events := rfl
@[simp] theorem State.sendAtBoundary_counters (s : State) (f : Frame) (own : Bool) :
    (s.sendAtBoundary f own).counters = s.counters := rfl
@[simp] theorem State.sendAtBoundary_outside (s : State) (f : Frame) (own : Bool) :
    (s.sendAtBoundary f own).outside = { s.outside with ringOut := s.outside.ringOut ++ [{ frame := f, start := s.boundary }] } := rfl
@[simp] theorem State.sendAtBoundary_now (s : State) (f : Frame) (own : Bool) :
    (s.sendAtBoundary f own).now = s.boundary := rfl
@[simp] theorem State.sendAtBoundary_order (s : State) (f : Frame) (own : Bool) :
    (s.sendAtBoundary f own).order = s.order := rfl
@[simp] theorem State.sendAtBoundary_pending (s : State) (f : Frame) (own : Bool) :
    (s.sendAtBoundary f own).pending = s.pending := rfl

/-! ### `State.sendOwnTrigger` -/

@[simp] theorem State.sendOwnTrigger_resetPin (s : State) : (s.sendOwnTrigger).resetPin = s.resetPin := rfl
@[simp] theorem State.sendOwnTrigger_receiver (s : State) : (s.sendOwnTrigger).receiver = s.receiver := rfl
@[simp] theorem State.sendOwnTrigger_member (s : State) : (s.sendOwnTrigger).member = s.member := rfl
@[simp] theorem State.sendOwnTrigger_send (s : State) : (s.sendOwnTrigger).send = s.send := rfl
@[simp] theorem State.sendOwnTrigger_filter (s : State) : (s.sendOwnTrigger).filter = s.filter := rfl
@[simp] theorem State.sendOwnTrigger_delivery (s : State) : (s.sendOwnTrigger).delivery = s.delivery := rfl
@[simp] theorem State.sendOwnTrigger_trigger (s : State) :
    (s.sendOwnTrigger).trigger = { s.trigger with own := .sent } := rfl
@[simp] theorem State.sendOwnTrigger_bus (s : State) : (s.sendOwnTrigger).bus = s.bus := rfl
@[simp] theorem State.sendOwnTrigger_host (s : State) : (s.sendOwnTrigger).host = s.host := rfl
@[simp] theorem State.sendOwnTrigger_events (s : State) : (s.sendOwnTrigger).events = s.events := rfl
@[simp] theorem State.sendOwnTrigger_counters (s : State) : (s.sendOwnTrigger).counters = s.counters := rfl
@[simp] theorem State.sendOwnTrigger_now (s : State) : (s.sendOwnTrigger).now = s.boundary := rfl
@[simp] theorem State.sendOwnTrigger_order (s : State) : (s.sendOwnTrigger).order = s.order := rfl
@[simp] theorem State.sendOwnTrigger_pending (s : State) : (s.sendOwnTrigger).pending = s.pending := rfl

/-! ### `State.sendAnnounce` -/

@[simp] theorem State.sendAnnounce_resetPin (s : State) : (s.sendAnnounce).resetPin = s.resetPin := rfl
@[simp] theorem State.sendAnnounce_receiver (s : State) : (s.sendAnnounce).receiver = s.receiver := rfl
@[simp] theorem State.sendAnnounce_member (s : State) :
    (s.sendAnnounce).member = { s.member with announce := .sent } := rfl
@[simp] theorem State.sendAnnounce_send (s : State) : (s.sendAnnounce).send = s.send := rfl
@[simp] theorem State.sendAnnounce_filter (s : State) : (s.sendAnnounce).filter = s.filter := rfl
@[simp] theorem State.sendAnnounce_delivery (s : State) : (s.sendAnnounce).delivery = s.delivery := rfl
@[simp] theorem State.sendAnnounce_trigger (s : State) : (s.sendAnnounce).trigger = s.trigger := rfl
@[simp] theorem State.sendAnnounce_bus (s : State) : (s.sendAnnounce).bus = s.bus := rfl
@[simp] theorem State.sendAnnounce_host (s : State) : (s.sendAnnounce).host = s.host := rfl
@[simp] theorem State.sendAnnounce_events (s : State) : (s.sendAnnounce).events = s.events := rfl
@[simp] theorem State.sendAnnounce_counters (s : State) : (s.sendAnnounce).counters = s.counters := rfl
@[simp] theorem State.sendAnnounce_now (s : State) : (s.sendAnnounce).now = s.boundary := rfl
@[simp] theorem State.sendAnnounce_order (s : State) : (s.sendAnnounce).order = s.order := rfl
@[simp] theorem State.sendAnnounce_pending (s : State) : (s.sendAnnounce).pending = s.pending := rfl

/-! ### `State.sendDepart` -/

@[simp] theorem State.sendDepart_resetPin (s : State) : (s.sendDepart).resetPin = s.resetPin := rfl
@[simp] theorem State.sendDepart_receiver (s : State) : (s.sendDepart).receiver = s.receiver := rfl
@[simp] theorem State.sendDepart_member (s : State) : (s.sendDepart).member = { s.member with depart := .sent } := rfl
@[simp] theorem State.sendDepart_send (s : State) : (s.sendDepart).send = s.send := rfl
@[simp] theorem State.sendDepart_filter (s : State) : (s.sendDepart).filter = s.filter := rfl
@[simp] theorem State.sendDepart_delivery (s : State) : (s.sendDepart).delivery = s.delivery := rfl
@[simp] theorem State.sendDepart_trigger (s : State) : (s.sendDepart).trigger = s.trigger := rfl
@[simp] theorem State.sendDepart_bus (s : State) : (s.sendDepart).bus = s.bus := rfl
@[simp] theorem State.sendDepart_host (s : State) : (s.sendDepart).host = s.host := rfl
@[simp] theorem State.sendDepart_events (s : State) : (s.sendDepart).events = s.events := rfl
@[simp] theorem State.sendDepart_counters (s : State) : (s.sendDepart).counters = s.counters := rfl
@[simp] theorem State.sendDepart_now (s : State) : (s.sendDepart).now = s.boundary := rfl
@[simp] theorem State.sendDepart_order (s : State) : (s.sendDepart).order = s.order := rfl
@[simp] theorem State.sendDepart_pending (s : State) : (s.sendDepart).pending = s.pending := rfl

/-! ### `State.endInsertion` -/

@[simp] theorem State.endInsertion_resetPin (s : State) : (s.endInsertion).resetPin = s.resetPin := rfl
@[simp] theorem State.endInsertion_receiver (s : State) : (s.endInsertion).receiver = s.receiver := rfl
@[simp] theorem State.endInsertion_path (s : State) : (s.endInsertion).path = { s.path with insertion := none } := rfl
@[simp] theorem State.endInsertion_member (s : State) : (s.endInsertion).member = s.member := rfl
@[simp] theorem State.endInsertion_send (s : State) :
    (s.endInsertion).send = { s.send with staging := s.send.staging ++ s.send.incoming, incoming := [] } := rfl
@[simp] theorem State.endInsertion_filter (s : State) : (s.endInsertion).filter = s.filter := rfl
@[simp] theorem State.endInsertion_delivery (s : State) : (s.endInsertion).delivery = s.delivery := rfl
@[simp] theorem State.endInsertion_trigger (s : State) : (s.endInsertion).trigger = s.trigger := rfl
@[simp] theorem State.endInsertion_bus (s : State) : (s.endInsertion).bus = s.bus := rfl
@[simp] theorem State.endInsertion_host (s : State) : (s.endInsertion).host = s.host := rfl
@[simp] theorem State.endInsertion_events (s : State) : (s.endInsertion).events = s.events := rfl
@[simp] theorem State.endInsertion_counters (s : State) : (s.endInsertion).counters = s.counters := rfl
@[simp] theorem State.endInsertion_outside (s : State) : (s.endInsertion).outside = s.outside := rfl
@[simp] theorem State.endInsertion_now (s : State) : (s.endInsertion).now = s.now := rfl
@[simp] theorem State.endInsertion_order (s : State) : (s.endInsertion).order = s.order := rfl
@[simp] theorem State.endInsertion_pending (s : State) : (s.endInsertion).pending = s.pending := rfl

/-! ### `State.setContext` -/

@[simp] theorem State.setContext_resetPin (s : State) (c : ReturnContext) :
    (s.setContext c).resetPin = s.resetPin := rfl
@[simp] theorem State.setContext_receiver (s : State) (c : ReturnContext) :
    (s.setContext c).receiver = s.receiver := rfl
@[simp] theorem State.setContext_path (s : State) (c : ReturnContext) : (s.setContext c).path = s.path := rfl
@[simp] theorem State.setContext_member (s : State) (c : ReturnContext) : (s.setContext c).member = s.member := rfl
@[simp] theorem State.setContext_send (s : State) (c : ReturnContext) :
    (s.setContext c).send = { s.send with context := c } := rfl
@[simp] theorem State.setContext_filter (s : State) (c : ReturnContext) : (s.setContext c).filter = s.filter := rfl
@[simp] theorem State.setContext_delivery (s : State) (c : ReturnContext) :
    (s.setContext c).delivery = s.delivery := rfl
@[simp] theorem State.setContext_trigger (s : State) (c : ReturnContext) : (s.setContext c).trigger = s.trigger := rfl
@[simp] theorem State.setContext_bus (s : State) (c : ReturnContext) : (s.setContext c).bus = s.bus := rfl
@[simp] theorem State.setContext_host (s : State) (c : ReturnContext) : (s.setContext c).host = s.host := rfl
@[simp] theorem State.setContext_events (s : State) (c : ReturnContext) : (s.setContext c).events = s.events := rfl
@[simp] theorem State.setContext_counters (s : State) (c : ReturnContext) :
    (s.setContext c).counters = s.counters := rfl
@[simp] theorem State.setContext_outside (s : State) (c : ReturnContext) : (s.setContext c).outside = s.outside := rfl
@[simp] theorem State.setContext_now (s : State) (c : ReturnContext) : (s.setContext c).now = s.now := rfl
@[simp] theorem State.setContext_order (s : State) (c : ReturnContext) : (s.setContext c).order = s.order := rfl
@[simp] theorem State.setContext_pending (s : State) (c : ReturnContext) : (s.setContext c).pending = s.pending := rfl

/-! ### `State.closeContext` -/

@[simp] theorem State.closeContext_resetPin (s : State) : (s.closeContext).resetPin = s.resetPin := rfl
@[simp] theorem State.closeContext_receiver (s : State) : (s.closeContext).receiver = s.receiver := rfl
@[simp] theorem State.closeContext_path (s : State) : (s.closeContext).path = s.path := rfl
@[simp] theorem State.closeContext_member (s : State) : (s.closeContext).member = s.member := rfl
@[simp] theorem State.closeContext_send (s : State) : (s.closeContext).send = s.send := rfl
@[simp] theorem State.closeContext_filter (s : State) :
    (s.closeContext).filter = { s.filter with context := none } := rfl
@[simp] theorem State.closeContext_delivery (s : State) : (s.closeContext).delivery = s.delivery := rfl
@[simp] theorem State.closeContext_trigger (s : State) : (s.closeContext).trigger = s.trigger := rfl
@[simp] theorem State.closeContext_bus (s : State) : (s.closeContext).bus = s.bus := rfl
@[simp] theorem State.closeContext_host (s : State) : (s.closeContext).host = s.host := rfl
@[simp] theorem State.closeContext_events (s : State) : (s.closeContext).events = s.events := rfl
@[simp] theorem State.closeContext_counters (s : State) : (s.closeContext).counters = s.counters := rfl
@[simp] theorem State.closeContext_outside (s : State) : (s.closeContext).outside = s.outside := rfl
@[simp] theorem State.closeContext_now (s : State) : (s.closeContext).now = s.now := rfl
@[simp] theorem State.closeContext_order (s : State) : (s.closeContext).order = s.order := rfl
@[simp] theorem State.closeContext_pending (s : State) : (s.closeContext).pending = s.pending := rfl

/-! ### `State.setDuplicate` -/

@[simp] theorem State.setDuplicate_resetPin (s : State) (n : BitVec 5) (x : Option (BitVec 8)) :
    (s.setDuplicate n x).resetPin = s.resetPin := rfl
@[simp] theorem State.setDuplicate_receiver (s : State) (n : BitVec 5) (x : Option (BitVec 8)) :
    (s.setDuplicate n x).receiver = s.receiver := rfl
@[simp] theorem State.setDuplicate_path (s : State) (n : BitVec 5) (x : Option (BitVec 8)) :
    (s.setDuplicate n x).path = s.path := rfl
@[simp] theorem State.setDuplicate_member (s : State) (n : BitVec 5) (x : Option (BitVec 8)) :
    (s.setDuplicate n x).member = s.member := rfl
@[simp] theorem State.setDuplicate_send (s : State) (n : BitVec 5) (x : Option (BitVec 8)) :
    (s.setDuplicate n x).send = s.send := rfl
@[simp] theorem State.setDuplicate_filter (s : State) (n : BitVec 5) (x : Option (BitVec 8)) :
    (s.setDuplicate n x).filter = { s.filter with duplicates := tableSet s.filter.duplicates n x } := rfl
@[simp] theorem State.setDuplicate_delivery (s : State) (n : BitVec 5) (x : Option (BitVec 8)) :
    (s.setDuplicate n x).delivery = s.delivery := rfl
@[simp] theorem State.setDuplicate_trigger (s : State) (n : BitVec 5) (x : Option (BitVec 8)) :
    (s.setDuplicate n x).trigger = s.trigger := rfl
@[simp] theorem State.setDuplicate_bus (s : State) (n : BitVec 5) (x : Option (BitVec 8)) :
    (s.setDuplicate n x).bus = s.bus := rfl
@[simp] theorem State.setDuplicate_host (s : State) (n : BitVec 5) (x : Option (BitVec 8)) :
    (s.setDuplicate n x).host = s.host := rfl
@[simp] theorem State.setDuplicate_events (s : State) (n : BitVec 5) (x : Option (BitVec 8)) :
    (s.setDuplicate n x).events = s.events := rfl
@[simp] theorem State.setDuplicate_counters (s : State) (n : BitVec 5) (x : Option (BitVec 8)) :
    (s.setDuplicate n x).counters = s.counters := rfl
@[simp] theorem State.setDuplicate_outside (s : State) (n : BitVec 5) (x : Option (BitVec 8)) :
    (s.setDuplicate n x).outside = s.outside := rfl
@[simp] theorem State.setDuplicate_now (s : State) (n : BitVec 5) (x : Option (BitVec 8)) :
    (s.setDuplicate n x).now = s.now := rfl
@[simp] theorem State.setDuplicate_order (s : State) (n : BitVec 5) (x : Option (BitVec 8)) :
    (s.setDuplicate n x).order = s.order := rfl
@[simp] theorem State.setDuplicate_pending (s : State) (n : BitVec 5) (x : Option (BitVec 8)) :
    (s.setDuplicate n x).pending = s.pending := rfl

/-! ### `State.clearDuplicates` -/

@[simp] theorem State.clearDuplicates_resetPin (s : State) : (s.clearDuplicates).resetPin = s.resetPin := rfl
@[simp] theorem State.clearDuplicates_receiver (s : State) : (s.clearDuplicates).receiver = s.receiver := rfl
@[simp] theorem State.clearDuplicates_path (s : State) : (s.clearDuplicates).path = s.path := rfl
@[simp] theorem State.clearDuplicates_member (s : State) : (s.clearDuplicates).member = s.member := rfl
@[simp] theorem State.clearDuplicates_send (s : State) : (s.clearDuplicates).send = s.send := rfl
@[simp] theorem State.clearDuplicates_filter (s : State) :
    (s.clearDuplicates).filter = { s.filter with duplicates := Vector.replicate 30 none } := rfl
@[simp] theorem State.clearDuplicates_delivery (s : State) : (s.clearDuplicates).delivery = s.delivery := rfl
@[simp] theorem State.clearDuplicates_trigger (s : State) : (s.clearDuplicates).trigger = s.trigger := rfl
@[simp] theorem State.clearDuplicates_bus (s : State) : (s.clearDuplicates).bus = s.bus := rfl
@[simp] theorem State.clearDuplicates_host (s : State) : (s.clearDuplicates).host = s.host := rfl
@[simp] theorem State.clearDuplicates_events (s : State) : (s.clearDuplicates).events = s.events := rfl
@[simp] theorem State.clearDuplicates_counters (s : State) : (s.clearDuplicates).counters = s.counters := rfl
@[simp] theorem State.clearDuplicates_outside (s : State) : (s.clearDuplicates).outside = s.outside := rfl
@[simp] theorem State.clearDuplicates_now (s : State) : (s.clearDuplicates).now = s.now := rfl
@[simp] theorem State.clearDuplicates_order (s : State) : (s.clearDuplicates).order = s.order := rfl
@[simp] theorem State.clearDuplicates_pending (s : State) : (s.clearDuplicates).pending = s.pending := rfl

/-! ### `State.setStatus` -/

@[simp] theorem State.setStatus_resetPin (s : State) (v : CommandValue) (c : BitVec 8) (n : Nat) :
    (s.setStatus v c n).resetPin = s.resetPin := rfl
@[simp] theorem State.setStatus_receiver (s : State) (v : CommandValue) (c : BitVec 8) (n : Nat) :
    (s.setStatus v c n).receiver = s.receiver := rfl
@[simp] theorem State.setStatus_path (s : State) (v : CommandValue) (c : BitVec 8) (n : Nat) :
    (s.setStatus v c n).path = s.path := rfl
@[simp] theorem State.setStatus_member (s : State) (v : CommandValue) (c : BitVec 8) (n : Nat) :
    (s.setStatus v c n).member = s.member := rfl
@[simp] theorem State.setStatus_send (s : State) (v : CommandValue) (c : BitVec 8) (n : Nat) :
    (s.setStatus v c n).send = s.send := rfl
@[simp] theorem State.setStatus_filter (s : State) (v : CommandValue) (c : BitVec 8) (n : Nat) :
    (s.setStatus v c n).filter = s.filter := rfl
@[simp] theorem State.setStatus_delivery (s : State) (v : CommandValue) (c : BitVec 8) (n : Nat) :
    (s.setStatus v c n).delivery = s.delivery := rfl
@[simp] theorem State.setStatus_trigger (s : State) (v : CommandValue) (c : BitVec 8) (n : Nat) :
    (s.setStatus v c n).trigger = s.trigger := rfl
@[simp] theorem State.setStatus_bus (s : State) (v : CommandValue) (c : BitVec 8) (n : Nat) :
    (s.setStatus v c n).bus = s.bus := rfl
@[simp] theorem State.setStatus_host (s : State) (v : CommandValue) (c : BitVec 8) (n : Nat) :
    (s.setStatus v c n).host = { s.host with status := { value := v, code := c, words := n } } := rfl
@[simp] theorem State.setStatus_events (s : State) (v : CommandValue) (c : BitVec 8) (n : Nat) :
    (s.setStatus v c n).events = s.events := rfl
@[simp] theorem State.setStatus_counters (s : State) (v : CommandValue) (c : BitVec 8) (n : Nat) :
    (s.setStatus v c n).counters = s.counters := rfl
@[simp] theorem State.setStatus_outside (s : State) (v : CommandValue) (c : BitVec 8) (n : Nat) :
    (s.setStatus v c n).outside = s.outside := rfl
@[simp] theorem State.setStatus_now (s : State) (v : CommandValue) (c : BitVec 8) (n : Nat) :
    (s.setStatus v c n).now = s.now := rfl
@[simp] theorem State.setStatus_order (s : State) (v : CommandValue) (c : BitVec 8) (n : Nat) :
    (s.setStatus v c n).order = s.order := rfl
@[simp] theorem State.setStatus_pending (s : State) (v : CommandValue) (c : BitVec 8) (n : Nat) :
    (s.setStatus v c n).pending = s.pending := rfl

/-! ### `State.raiseTrigger` -/

@[simp] theorem State.raiseTrigger_resetPin (s : State) (g : BitVec 3) :
    (s.raiseTrigger g).resetPin = s.resetPin := rfl
@[simp] theorem State.raiseTrigger_receiver (s : State) (g : BitVec 3) :
    (s.raiseTrigger g).receiver = s.receiver := rfl
@[simp] theorem State.raiseTrigger_path (s : State) (g : BitVec 3) : (s.raiseTrigger g).path = s.path := rfl
@[simp] theorem State.raiseTrigger_member (s : State) (g : BitVec 3) : (s.raiseTrigger g).member = s.member := rfl
@[simp] theorem State.raiseTrigger_send (s : State) (g : BitVec 3) : (s.raiseTrigger g).send = s.send := rfl
@[simp] theorem State.raiseTrigger_filter (s : State) (g : BitVec 3) : (s.raiseTrigger g).filter = s.filter := rfl
@[simp] theorem State.raiseTrigger_delivery (s : State) (g : BitVec 3) :
    (s.raiseTrigger g).delivery = s.delivery := rfl
@[simp] theorem State.raiseTrigger_trigger (s : State) (g : BitVec 3) :
    (s.raiseTrigger g).trigger = { s.trigger with own := .waiting, group := some g, returnTimer := s.timer triggerReturnSpan } := rfl
@[simp] theorem State.raiseTrigger_bus (s : State) (g : BitVec 3) : (s.raiseTrigger g).bus = s.bus := rfl
@[simp] theorem State.raiseTrigger_host (s : State) (g : BitVec 3) : (s.raiseTrigger g).host = s.host := rfl
@[simp] theorem State.raiseTrigger_events (s : State) (g : BitVec 3) : (s.raiseTrigger g).events = s.events := rfl
@[simp] theorem State.raiseTrigger_counters (s : State) (g : BitVec 3) :
    (s.raiseTrigger g).counters = s.counters := rfl
@[simp] theorem State.raiseTrigger_outside (s : State) (g : BitVec 3) : (s.raiseTrigger g).outside = s.outside := rfl
@[simp] theorem State.raiseTrigger_now (s : State) (g : BitVec 3) : (s.raiseTrigger g).now = s.now := rfl
@[simp] theorem State.raiseTrigger_order (s : State) (g : BitVec 3) : (s.raiseTrigger g).order = s.order := rfl
@[simp] theorem State.raiseTrigger_pending (s : State) (g : BitVec 3) : (s.raiseTrigger g).pending = s.pending := rfl

/-! ### `State.releaseSlots` -/

@[simp] theorem State.releaseSlots_resetPin (s : State) (r : BitVec 2) (n : Nat) :
    (s.releaseSlots r n).resetPin = s.resetPin := rfl
@[simp] theorem State.releaseSlots_receiver (s : State) (r : BitVec 2) (n : Nat) :
    (s.releaseSlots r n).receiver = s.receiver := rfl
@[simp] theorem State.releaseSlots_path (s : State) (r : BitVec 2) (n : Nat) :
    (s.releaseSlots r n).path = s.path := rfl
@[simp] theorem State.releaseSlots_member (s : State) (r : BitVec 2) (n : Nat) :
    (s.releaseSlots r n).member = s.member := rfl
@[simp] theorem State.releaseSlots_send (s : State) (r : BitVec 2) (n : Nat) :
    (s.releaseSlots r n).send = s.send := rfl
@[simp] theorem State.releaseSlots_filter (s : State) (r : BitVec 2) (n : Nat) :
    (s.releaseSlots r n).filter = s.filter := rfl
@[simp] theorem State.releaseSlots_delivery (s : State) (r : BitVec 2) (n : Nat) :
    (s.releaseSlots r n).delivery = s.delivery.setRing r { s.delivery.ring r with filled := (s.delivery.ring r).filled - n } := rfl
@[simp] theorem State.releaseSlots_trigger (s : State) (r : BitVec 2) (n : Nat) :
    (s.releaseSlots r n).trigger = s.trigger := rfl
@[simp] theorem State.releaseSlots_bus (s : State) (r : BitVec 2) (n : Nat) : (s.releaseSlots r n).bus = s.bus := rfl
@[simp] theorem State.releaseSlots_host (s : State) (r : BitVec 2) (n : Nat) :
    (s.releaseSlots r n).host = s.host := rfl
@[simp] theorem State.releaseSlots_events (s : State) (r : BitVec 2) (n : Nat) :
    (s.releaseSlots r n).events = s.events := rfl
@[simp] theorem State.releaseSlots_counters (s : State) (r : BitVec 2) (n : Nat) :
    (s.releaseSlots r n).counters = s.counters := rfl
@[simp] theorem State.releaseSlots_outside (s : State) (r : BitVec 2) (n : Nat) :
    (s.releaseSlots r n).outside = s.outside := rfl
@[simp] theorem State.releaseSlots_now (s : State) (r : BitVec 2) (n : Nat) : (s.releaseSlots r n).now = s.now := rfl
@[simp] theorem State.releaseSlots_order (s : State) (r : BitVec 2) (n : Nat) :
    (s.releaseSlots r n).order = s.order := rfl
@[simp] theorem State.releaseSlots_pending (s : State) (r : BitVec 2) (n : Nat) :
    (s.releaseSlots r n).pending = s.pending := rfl

/-! ### `State.issue` -/

@[simp] theorem State.issue_resetPin (s : State) (c : Client) (r : Request) :
    (s.issue c r).resetPin = s.resetPin := rfl
@[simp] theorem State.issue_receiver (s : State) (c : Client) (r : Request) :
    (s.issue c r).receiver = s.receiver := rfl
@[simp] theorem State.issue_path (s : State) (c : Client) (r : Request) : (s.issue c r).path = s.path := rfl
@[simp] theorem State.issue_member (s : State) (c : Client) (r : Request) : (s.issue c r).member = s.member := rfl
@[simp] theorem State.issue_send (s : State) (c : Client) (r : Request) : (s.issue c r).send = s.send := rfl
@[simp] theorem State.issue_filter (s : State) (c : Client) (r : Request) : (s.issue c r).filter = s.filter := rfl
@[simp] theorem State.issue_delivery (s : State) (c : Client) (r : Request) :
    (s.issue c r).delivery = s.delivery := rfl
@[simp] theorem State.issue_trigger (s : State) (c : Client) (r : Request) : (s.issue c r).trigger = s.trigger := rfl
@[simp] theorem State.issue_host (s : State) (c : Client) (r : Request) : (s.issue c r).host = s.host := rfl
@[simp] theorem State.issue_events (s : State) (c : Client) (r : Request) : (s.issue c r).events = s.events := rfl
@[simp] theorem State.issue_counters (s : State) (c : Client) (r : Request) :
    (s.issue c r).counters = s.counters := rfl
@[simp] theorem State.issue_outside (s : State) (c : Client) (r : Request) : (s.issue c r).outside = s.outside := rfl
@[simp] theorem State.issue_now (s : State) (c : Client) (r : Request) : (s.issue c r).now = s.now := rfl
@[simp] theorem State.issue_order (s : State) (c : Client) (r : Request) : (s.issue c r).order = s.order := rfl
@[simp] theorem State.issue_pending (s : State) (c : Client) (r : Request) : (s.issue c r).pending = s.pending := rfl

/-! ### `State.startAttempt` -/

@[simp] theorem State.startAttempt_resetPin (s : State) : (s.startAttempt).resetPin = s.resetPin := rfl
@[simp] theorem State.startAttempt_receiver (s : State) : (s.startAttempt).receiver = s.receiver := rfl
@[simp] theorem State.startAttempt_send (s : State) : (s.startAttempt).send = s.send := rfl
@[simp] theorem State.startAttempt_filter (s : State) : (s.startAttempt).filter = s.filter := rfl
@[simp] theorem State.startAttempt_delivery (s : State) : (s.startAttempt).delivery = s.delivery := rfl
@[simp] theorem State.startAttempt_trigger (s : State) : (s.startAttempt).trigger = s.trigger := rfl
@[simp] theorem State.startAttempt_bus (s : State) : (s.startAttempt).bus = s.bus := rfl
@[simp] theorem State.startAttempt_host (s : State) : (s.startAttempt).host = s.host := rfl
@[simp] theorem State.startAttempt_events (s : State) : (s.startAttempt).events = s.events := rfl
@[simp] theorem State.startAttempt_counters (s : State) : (s.startAttempt).counters = s.counters := rfl
@[simp] theorem State.startAttempt_outside (s : State) : (s.startAttempt).outside = s.outside := rfl
@[simp] theorem State.startAttempt_now (s : State) : (s.startAttempt).now = s.now := rfl
@[simp] theorem State.startAttempt_order (s : State) : (s.startAttempt).order = s.order := rfl
@[simp] theorem State.startAttempt_pending (s : State) : (s.startAttempt).pending = s.pending := rfl

/-! ### `State.becomeOriginator` -/

@[simp] theorem State.becomeOriginator_resetPin (s : State) : (s.becomeOriginator).resetPin = s.resetPin := rfl
@[simp] theorem State.becomeOriginator_receiver (s : State) : (s.becomeOriginator).receiver = s.receiver := rfl
@[simp] theorem State.becomeOriginator_send (s : State) : (s.becomeOriginator).send = s.send := rfl
@[simp] theorem State.becomeOriginator_filter (s : State) : (s.becomeOriginator).filter = s.filter := rfl
@[simp] theorem State.becomeOriginator_delivery (s : State) : (s.becomeOriginator).delivery = s.delivery := rfl
@[simp] theorem State.becomeOriginator_trigger (s : State) : (s.becomeOriginator).trigger = s.trigger := rfl
@[simp] theorem State.becomeOriginator_bus (s : State) : (s.becomeOriginator).bus = s.bus := rfl
@[simp] theorem State.becomeOriginator_host (s : State) : (s.becomeOriginator).host = s.host := rfl
@[simp] theorem State.becomeOriginator_events (s : State) : (s.becomeOriginator).events = s.events := rfl
@[simp] theorem State.becomeOriginator_counters (s : State) : (s.becomeOriginator).counters = s.counters := rfl
@[simp] theorem State.becomeOriginator_outside (s : State) : (s.becomeOriginator).outside = s.outside := rfl
@[simp] theorem State.becomeOriginator_now (s : State) : (s.becomeOriginator).now = s.now := rfl
@[simp] theorem State.becomeOriginator_order (s : State) : (s.becomeOriginator).order = s.order := rfl
@[simp] theorem State.becomeOriginator_pending (s : State) : (s.becomeOriginator).pending = s.pending := rfl

/-! ### `State.startLeaving` -/

@[simp] theorem State.startLeaving_resetPin (s : State) : (s.startLeaving).resetPin = s.resetPin := rfl
@[simp] theorem State.startLeaving_receiver (s : State) : (s.startLeaving).receiver = s.receiver := rfl
@[simp] theorem State.startLeaving_path (s : State) : (s.startLeaving).path = s.path := rfl
@[simp] theorem State.startLeaving_send (s : State) : (s.startLeaving).send = s.send := rfl
@[simp] theorem State.startLeaving_filter (s : State) : (s.startLeaving).filter = s.filter := rfl
@[simp] theorem State.startLeaving_delivery (s : State) : (s.startLeaving).delivery = s.delivery := rfl
@[simp] theorem State.startLeaving_trigger (s : State) : (s.startLeaving).trigger = s.trigger := rfl
@[simp] theorem State.startLeaving_bus (s : State) : (s.startLeaving).bus = s.bus := rfl
@[simp] theorem State.startLeaving_host (s : State) : (s.startLeaving).host = s.host := rfl
@[simp] theorem State.startLeaving_events (s : State) : (s.startLeaving).events = s.events := rfl
@[simp] theorem State.startLeaving_counters (s : State) : (s.startLeaving).counters = s.counters := rfl
@[simp] theorem State.startLeaving_outside (s : State) : (s.startLeaving).outside = s.outside := rfl
@[simp] theorem State.startLeaving_now (s : State) : (s.startLeaving).now = s.now := rfl
@[simp] theorem State.startLeaving_order (s : State) : (s.startLeaving).order = s.order := rfl
@[simp] theorem State.startLeaving_pending (s : State) : (s.startLeaving).pending = s.pending := rfl

/-! ### `State.finishTrigger` -/

@[simp] theorem State.finishTrigger_resetPin (s : State) (x : TriggerStatus) :
    (s.finishTrigger x).resetPin = s.resetPin := rfl
@[simp] theorem State.finishTrigger_receiver (s : State) (x : TriggerStatus) :
    (s.finishTrigger x).receiver = s.receiver := rfl
@[simp] theorem State.finishTrigger_path (s : State) (x : TriggerStatus) : (s.finishTrigger x).path = s.path := rfl
@[simp] theorem State.finishTrigger_member (s : State) (x : TriggerStatus) :
    (s.finishTrigger x).member = s.member := rfl
@[simp] theorem State.finishTrigger_send (s : State) (x : TriggerStatus) : (s.finishTrigger x).send = s.send := rfl
@[simp] theorem State.finishTrigger_filter (s : State) (x : TriggerStatus) :
    (s.finishTrigger x).filter = s.filter := rfl
@[simp] theorem State.finishTrigger_delivery (s : State) (x : TriggerStatus) :
    (s.finishTrigger x).delivery = s.delivery := rfl
@[simp] theorem State.finishTrigger_trigger (s : State) (x : TriggerStatus) :
    (s.finishTrigger x).trigger = { s.trigger with own := .none, group := none, returnTimer := none } := rfl
@[simp] theorem State.finishTrigger_bus (s : State) (x : TriggerStatus) : (s.finishTrigger x).bus = s.bus := rfl
@[simp] theorem State.finishTrigger_host (s : State) (x : TriggerStatus) : (s.finishTrigger x).host = s.host := rfl
@[simp] theorem State.finishTrigger_events (s : State) (x : TriggerStatus) :
    (s.finishTrigger x).events = s.events.post (.triggerDone (s.trigger.group.getD 0) x) := rfl
@[simp] theorem State.finishTrigger_counters (s : State) (x : TriggerStatus) :
    (s.finishTrigger x).counters = s.counters := rfl
@[simp] theorem State.finishTrigger_outside (s : State) (x : TriggerStatus) :
    (s.finishTrigger x).outside = s.outside := rfl
@[simp] theorem State.finishTrigger_now (s : State) (x : TriggerStatus) : (s.finishTrigger x).now = s.now := rfl
@[simp] theorem State.finishTrigger_order (s : State) (x : TriggerStatus) : (s.finishTrigger x).order = s.order := rfl
@[simp] theorem State.finishTrigger_pending (s : State) (x : TriggerStatus) :
    (s.finishTrigger x).pending = s.pending := rfl

/-! ### `State.fire` -/

@[simp] theorem State.fire_resetPin (s : State) (g : BitVec 3) (n : BitVec 5) :
    (s.fire g n).resetPin = s.resetPin := rfl
@[simp] theorem State.fire_receiver (s : State) (g : BitVec 3) (n : BitVec 5) :
    (s.fire g n).receiver = s.receiver := rfl
@[simp] theorem State.fire_path (s : State) (g : BitVec 3) (n : BitVec 5) : (s.fire g n).path = s.path := rfl
@[simp] theorem State.fire_member (s : State) (g : BitVec 3) (n : BitVec 5) : (s.fire g n).member = s.member := rfl
@[simp] theorem State.fire_send (s : State) (g : BitVec 3) (n : BitVec 5) : (s.fire g n).send = s.send := rfl
@[simp] theorem State.fire_filter (s : State) (g : BitVec 3) (n : BitVec 5) : (s.fire g n).filter = s.filter := rfl
@[simp] theorem State.fire_delivery (s : State) (g : BitVec 3) (n : BitVec 5) :
    (s.fire g n).delivery = s.delivery := rfl
@[simp] theorem State.fire_trigger (s : State) (g : BitVec 3) (n : BitVec 5) :
    (s.fire g n).trigger = { s.trigger with pulseTimer := s.timer pulseSpan, pin := true } := rfl
@[simp] theorem State.fire_bus (s : State) (g : BitVec 3) (n : BitVec 5) : (s.fire g n).bus = s.bus := rfl
@[simp] theorem State.fire_host (s : State) (g : BitVec 3) (n : BitVec 5) : (s.fire g n).host = s.host := rfl
@[simp] theorem State.fire_events (s : State) (g : BitVec 3) (n : BitVec 5) :
    (s.fire g n).events = s.events.post (.triggerFired g n) := rfl
@[simp] theorem State.fire_counters (s : State) (g : BitVec 3) (n : BitVec 5) :
    (s.fire g n).counters = s.counters := rfl
@[simp] theorem State.fire_outside (s : State) (g : BitVec 3) (n : BitVec 5) : (s.fire g n).outside = s.outside := rfl
@[simp] theorem State.fire_now (s : State) (g : BitVec 3) (n : BitVec 5) : (s.fire g n).now = s.now := rfl
@[simp] theorem State.fire_order (s : State) (g : BitVec 3) (n : BitVec 5) : (s.fire g n).order = s.order := rfl
@[simp] theorem State.fire_pending (s : State) (g : BitVec 3) (n : BitVec 5) : (s.fire g n).pending = s.pending := rfl

/-! ### `State.takeRoom` -/

@[simp] theorem State.takeRoom_resetPin (s : State) (b : HeadBody) (r : BitVec 2) :
    (s.takeRoom b r).resetPin = s.resetPin := rfl
@[simp] theorem State.takeRoom_receiver (s : State) (b : HeadBody) (r : BitVec 2) :
    (s.takeRoom b r).receiver = s.receiver := rfl
@[simp] theorem State.takeRoom_path (s : State) (b : HeadBody) (r : BitVec 2) : (s.takeRoom b r).path = s.path := rfl
@[simp] theorem State.takeRoom_member (s : State) (b : HeadBody) (r : BitVec 2) :
    (s.takeRoom b r).member = s.member := rfl
@[simp] theorem State.takeRoom_send (s : State) (b : HeadBody) (r : BitVec 2) : (s.takeRoom b r).send = s.send := rfl
@[simp] theorem State.takeRoom_filter (s : State) (b : HeadBody) (r : BitVec 2) :
    (s.takeRoom b r).filter = s.filter := rfl
@[simp] theorem State.takeRoom_trigger (s : State) (b : HeadBody) (r : BitVec 2) :
    (s.takeRoom b r).trigger = s.trigger := rfl
@[simp] theorem State.takeRoom_bus (s : State) (b : HeadBody) (r : BitVec 2) : (s.takeRoom b r).bus = s.bus := rfl
@[simp] theorem State.takeRoom_host (s : State) (b : HeadBody) (r : BitVec 2) : (s.takeRoom b r).host = s.host := rfl
@[simp] theorem State.takeRoom_events (s : State) (b : HeadBody) (r : BitVec 2) :
    (s.takeRoom b r).events = s.events := rfl
@[simp] theorem State.takeRoom_counters (s : State) (b : HeadBody) (r : BitVec 2) :
    (s.takeRoom b r).counters = s.counters := rfl
@[simp] theorem State.takeRoom_outside (s : State) (b : HeadBody) (r : BitVec 2) :
    (s.takeRoom b r).outside = s.outside := rfl
@[simp] theorem State.takeRoom_now (s : State) (b : HeadBody) (r : BitVec 2) : (s.takeRoom b r).now = s.now := rfl
@[simp] theorem State.takeRoom_order (s : State) (b : HeadBody) (r : BitVec 2) :
    (s.takeRoom b r).order = s.order := rfl
@[simp] theorem State.takeRoom_pending (s : State) (b : HeadBody) (r : BitVec 2) :
    (s.takeRoom b r).pending = s.pending := rfl

/-! ### `State.countVoided` -/

@[simp] theorem State.countVoided_resetPin (s : State) : (s.countVoided).resetPin = s.resetPin := rfl
@[simp] theorem State.countVoided_receiver (s : State) : (s.countVoided).receiver = s.receiver := rfl
@[simp] theorem State.countVoided_path (s : State) : (s.countVoided).path = s.path := rfl
@[simp] theorem State.countVoided_member (s : State) : (s.countVoided).member = s.member := rfl
@[simp] theorem State.countVoided_send (s : State) : (s.countVoided).send = s.send := rfl
@[simp] theorem State.countVoided_filter (s : State) : (s.countVoided).filter = s.filter := rfl
@[simp] theorem State.countVoided_delivery (s : State) : (s.countVoided).delivery = s.delivery := rfl
@[simp] theorem State.countVoided_trigger (s : State) : (s.countVoided).trigger = s.trigger := rfl
@[simp] theorem State.countVoided_bus (s : State) : (s.countVoided).bus = s.bus := rfl
@[simp] theorem State.countVoided_host (s : State) : (s.countVoided).host = s.host := rfl
@[simp] theorem State.countVoided_events (s : State) : (s.countVoided).events = s.events := rfl
@[simp] theorem State.countVoided_counters (s : State) :
    (s.countVoided).counters = { s.counters with framesVoided := saturatingInc s.counters.framesVoided } := rfl
@[simp] theorem State.countVoided_outside (s : State) : (s.countVoided).outside = s.outside := rfl
@[simp] theorem State.countVoided_now (s : State) : (s.countVoided).now = s.now := rfl
@[simp] theorem State.countVoided_order (s : State) : (s.countVoided).order = s.order := rfl
@[simp] theorem State.countVoided_pending (s : State) : (s.countVoided).pending = s.pending := rfl

/-! ### `State.countStray` -/

@[simp] theorem State.countStray_resetPin (s : State) : (s.countStray).resetPin = s.resetPin := rfl
@[simp] theorem State.countStray_receiver (s : State) : (s.countStray).receiver = s.receiver := rfl
@[simp] theorem State.countStray_path (s : State) : (s.countStray).path = s.path := rfl
@[simp] theorem State.countStray_member (s : State) : (s.countStray).member = s.member := rfl
@[simp] theorem State.countStray_send (s : State) : (s.countStray).send = s.send := rfl
@[simp] theorem State.countStray_filter (s : State) : (s.countStray).filter = s.filter := rfl
@[simp] theorem State.countStray_delivery (s : State) : (s.countStray).delivery = s.delivery := rfl
@[simp] theorem State.countStray_trigger (s : State) : (s.countStray).trigger = s.trigger := rfl
@[simp] theorem State.countStray_bus (s : State) : (s.countStray).bus = s.bus := rfl
@[simp] theorem State.countStray_host (s : State) : (s.countStray).host = s.host := rfl
@[simp] theorem State.countStray_events (s : State) : (s.countStray).events = s.events := rfl
@[simp] theorem State.countStray_counters (s : State) :
    (s.countStray).counters = { s.counters with strays := saturatingInc s.counters.strays } := rfl
@[simp] theorem State.countStray_outside (s : State) : (s.countStray).outside = s.outside := rfl
@[simp] theorem State.countStray_now (s : State) : (s.countStray).now = s.now := rfl
@[simp] theorem State.countStray_order (s : State) : (s.countStray).order = s.order := rfl
@[simp] theorem State.countStray_pending (s : State) : (s.countStray).pending = s.pending := rfl

/-! ### `State.countOrphan` -/

@[simp] theorem State.countOrphan_resetPin (s : State) : (s.countOrphan).resetPin = s.resetPin := rfl
@[simp] theorem State.countOrphan_receiver (s : State) : (s.countOrphan).receiver = s.receiver := rfl
@[simp] theorem State.countOrphan_path (s : State) : (s.countOrphan).path = s.path := rfl
@[simp] theorem State.countOrphan_member (s : State) : (s.countOrphan).member = s.member := rfl
@[simp] theorem State.countOrphan_send (s : State) : (s.countOrphan).send = s.send := rfl
@[simp] theorem State.countOrphan_filter (s : State) : (s.countOrphan).filter = s.filter := rfl
@[simp] theorem State.countOrphan_delivery (s : State) : (s.countOrphan).delivery = s.delivery := rfl
@[simp] theorem State.countOrphan_trigger (s : State) : (s.countOrphan).trigger = s.trigger := rfl
@[simp] theorem State.countOrphan_bus (s : State) : (s.countOrphan).bus = s.bus := rfl
@[simp] theorem State.countOrphan_host (s : State) : (s.countOrphan).host = s.host := rfl
@[simp] theorem State.countOrphan_events (s : State) : (s.countOrphan).events = s.events := rfl
@[simp] theorem State.countOrphan_counters (s : State) :
    (s.countOrphan).counters = { s.counters with orphans := saturatingInc s.counters.orphans } := rfl
@[simp] theorem State.countOrphan_outside (s : State) : (s.countOrphan).outside = s.outside := rfl
@[simp] theorem State.countOrphan_now (s : State) : (s.countOrphan).now = s.now := rfl
@[simp] theorem State.countOrphan_order (s : State) : (s.countOrphan).order = s.order := rfl
@[simp] theorem State.countOrphan_pending (s : State) : (s.countOrphan).pending = s.pending := rfl

/-! ### `State.countStale` -/

@[simp] theorem State.countStale_resetPin (s : State) : (s.countStale).resetPin = s.resetPin := rfl
@[simp] theorem State.countStale_receiver (s : State) : (s.countStale).receiver = s.receiver := rfl
@[simp] theorem State.countStale_path (s : State) : (s.countStale).path = s.path := rfl
@[simp] theorem State.countStale_member (s : State) : (s.countStale).member = s.member := rfl
@[simp] theorem State.countStale_send (s : State) : (s.countStale).send = s.send := rfl
@[simp] theorem State.countStale_filter (s : State) : (s.countStale).filter = s.filter := rfl
@[simp] theorem State.countStale_delivery (s : State) : (s.countStale).delivery = s.delivery := rfl
@[simp] theorem State.countStale_trigger (s : State) : (s.countStale).trigger = s.trigger := rfl
@[simp] theorem State.countStale_bus (s : State) : (s.countStale).bus = s.bus := rfl
@[simp] theorem State.countStale_host (s : State) : (s.countStale).host = s.host := rfl
@[simp] theorem State.countStale_events (s : State) : (s.countStale).events = s.events := rfl
@[simp] theorem State.countStale_counters (s : State) :
    (s.countStale).counters = { s.counters with staleReturns := saturatingInc s.counters.staleReturns } := rfl
@[simp] theorem State.countStale_outside (s : State) : (s.countStale).outside = s.outside := rfl
@[simp] theorem State.countStale_now (s : State) : (s.countStale).now = s.now := rfl
@[simp] theorem State.countStale_order (s : State) : (s.countStale).order = s.order := rfl
@[simp] theorem State.countStale_pending (s : State) : (s.countStale).pending = s.pending := rfl

/-! ### `State.countAccepted` -/

@[simp] theorem State.countAccepted_resetPin (s : State) : (s.countAccepted).resetPin = s.resetPin := rfl
@[simp] theorem State.countAccepted_receiver (s : State) : (s.countAccepted).receiver = s.receiver := rfl
@[simp] theorem State.countAccepted_path (s : State) : (s.countAccepted).path = s.path := rfl
@[simp] theorem State.countAccepted_member (s : State) : (s.countAccepted).member = s.member := rfl
@[simp] theorem State.countAccepted_send (s : State) : (s.countAccepted).send = s.send := rfl
@[simp] theorem State.countAccepted_filter (s : State) : (s.countAccepted).filter = s.filter := rfl
@[simp] theorem State.countAccepted_delivery (s : State) : (s.countAccepted).delivery = s.delivery := rfl
@[simp] theorem State.countAccepted_trigger (s : State) : (s.countAccepted).trigger = s.trigger := rfl
@[simp] theorem State.countAccepted_bus (s : State) : (s.countAccepted).bus = s.bus := rfl
@[simp] theorem State.countAccepted_host (s : State) : (s.countAccepted).host = s.host := rfl
@[simp] theorem State.countAccepted_events (s : State) : (s.countAccepted).events = s.events := rfl
@[simp] theorem State.countAccepted_counters (s : State) :
    (s.countAccepted).counters = { s.counters with recordsAccepted := saturatingInc s.counters.recordsAccepted } := rfl
@[simp] theorem State.countAccepted_outside (s : State) : (s.countAccepted).outside = s.outside := rfl
@[simp] theorem State.countAccepted_now (s : State) : (s.countAccepted).now = s.now := rfl
@[simp] theorem State.countAccepted_order (s : State) : (s.countAccepted).order = s.order := rfl
@[simp] theorem State.countAccepted_pending (s : State) : (s.countAccepted).pending = s.pending := rfl

/-! ### `State.countHeld` -/

@[simp] theorem State.countHeld_resetPin (s : State) : (s.countHeld).resetPin = s.resetPin := rfl
@[simp] theorem State.countHeld_receiver (s : State) : (s.countHeld).receiver = s.receiver := rfl
@[simp] theorem State.countHeld_path (s : State) : (s.countHeld).path = s.path := rfl
@[simp] theorem State.countHeld_member (s : State) : (s.countHeld).member = s.member := rfl
@[simp] theorem State.countHeld_send (s : State) : (s.countHeld).send = s.send := rfl
@[simp] theorem State.countHeld_filter (s : State) : (s.countHeld).filter = s.filter := rfl
@[simp] theorem State.countHeld_delivery (s : State) : (s.countHeld).delivery = s.delivery := rfl
@[simp] theorem State.countHeld_trigger (s : State) : (s.countHeld).trigger = s.trigger := rfl
@[simp] theorem State.countHeld_bus (s : State) : (s.countHeld).bus = s.bus := rfl
@[simp] theorem State.countHeld_host (s : State) : (s.countHeld).host = s.host := rfl
@[simp] theorem State.countHeld_events (s : State) : (s.countHeld).events = s.events := rfl
@[simp] theorem State.countHeld_counters (s : State) :
    (s.countHeld).counters = { s.counters with recordsHeld := saturatingInc s.counters.recordsHeld } := rfl
@[simp] theorem State.countHeld_outside (s : State) : (s.countHeld).outside = s.outside := rfl
@[simp] theorem State.countHeld_now (s : State) : (s.countHeld).now = s.now := rfl
@[simp] theorem State.countHeld_order (s : State) : (s.countHeld).order = s.order := rfl
@[simp] theorem State.countHeld_pending (s : State) : (s.countHeld).pending = s.pending := rfl

/-! ### `State.countRefused` -/

@[simp] theorem State.countRefused_resetPin (s : State) : (s.countRefused).resetPin = s.resetPin := rfl
@[simp] theorem State.countRefused_receiver (s : State) : (s.countRefused).receiver = s.receiver := rfl
@[simp] theorem State.countRefused_path (s : State) : (s.countRefused).path = s.path := rfl
@[simp] theorem State.countRefused_member (s : State) : (s.countRefused).member = s.member := rfl
@[simp] theorem State.countRefused_send (s : State) : (s.countRefused).send = s.send := rfl
@[simp] theorem State.countRefused_filter (s : State) : (s.countRefused).filter = s.filter := rfl
@[simp] theorem State.countRefused_delivery (s : State) : (s.countRefused).delivery = s.delivery := rfl
@[simp] theorem State.countRefused_trigger (s : State) : (s.countRefused).trigger = s.trigger := rfl
@[simp] theorem State.countRefused_bus (s : State) : (s.countRefused).bus = s.bus := rfl
@[simp] theorem State.countRefused_host (s : State) : (s.countRefused).host = s.host := rfl
@[simp] theorem State.countRefused_events (s : State) : (s.countRefused).events = s.events := rfl
@[simp] theorem State.countRefused_counters (s : State) :
    (s.countRefused).counters = { s.counters with recordsRefused := saturatingInc s.counters.recordsRefused } := rfl
@[simp] theorem State.countRefused_outside (s : State) : (s.countRefused).outside = s.outside := rfl
@[simp] theorem State.countRefused_now (s : State) : (s.countRefused).now = s.now := rfl
@[simp] theorem State.countRefused_order (s : State) : (s.countRefused).order = s.order := rfl
@[simp] theorem State.countRefused_pending (s : State) : (s.countRefused).pending = s.pending := rfl

/-! ### `State.countDamaged` -/

@[simp] theorem State.countDamaged_resetPin (s : State) : (s.countDamaged).resetPin = s.resetPin := rfl
@[simp] theorem State.countDamaged_receiver (s : State) : (s.countDamaged).receiver = s.receiver := rfl
@[simp] theorem State.countDamaged_path (s : State) : (s.countDamaged).path = s.path := rfl
@[simp] theorem State.countDamaged_member (s : State) : (s.countDamaged).member = s.member := rfl
@[simp] theorem State.countDamaged_send (s : State) : (s.countDamaged).send = s.send := rfl
@[simp] theorem State.countDamaged_filter (s : State) : (s.countDamaged).filter = s.filter := rfl
@[simp] theorem State.countDamaged_delivery (s : State) : (s.countDamaged).delivery = s.delivery := rfl
@[simp] theorem State.countDamaged_trigger (s : State) : (s.countDamaged).trigger = s.trigger := rfl
@[simp] theorem State.countDamaged_bus (s : State) : (s.countDamaged).bus = s.bus := rfl
@[simp] theorem State.countDamaged_host (s : State) : (s.countDamaged).host = s.host := rfl
@[simp] theorem State.countDamaged_events (s : State) : (s.countDamaged).events = s.events := rfl
@[simp] theorem State.countDamaged_counters (s : State) :
    (s.countDamaged).counters = { s.counters with recordsDamaged := saturatingInc s.counters.recordsDamaged } := rfl
@[simp] theorem State.countDamaged_outside (s : State) : (s.countDamaged).outside = s.outside := rfl
@[simp] theorem State.countDamaged_now (s : State) : (s.countDamaged).now = s.now := rfl
@[simp] theorem State.countDamaged_order (s : State) : (s.countDamaged).order = s.order := rfl
@[simp] theorem State.countDamaged_pending (s : State) : (s.countDamaged).pending = s.pending := rfl

/-! ### `State.countRetry` -/

@[simp] theorem State.countRetry_resetPin (s : State) : (s.countRetry).resetPin = s.resetPin := rfl
@[simp] theorem State.countRetry_receiver (s : State) : (s.countRetry).receiver = s.receiver := rfl
@[simp] theorem State.countRetry_path (s : State) : (s.countRetry).path = s.path := rfl
@[simp] theorem State.countRetry_member (s : State) : (s.countRetry).member = s.member := rfl
@[simp] theorem State.countRetry_send (s : State) : (s.countRetry).send = s.send := rfl
@[simp] theorem State.countRetry_filter (s : State) : (s.countRetry).filter = s.filter := rfl
@[simp] theorem State.countRetry_delivery (s : State) : (s.countRetry).delivery = s.delivery := rfl
@[simp] theorem State.countRetry_trigger (s : State) : (s.countRetry).trigger = s.trigger := rfl
@[simp] theorem State.countRetry_bus (s : State) : (s.countRetry).bus = s.bus := rfl
@[simp] theorem State.countRetry_host (s : State) : (s.countRetry).host = s.host := rfl
@[simp] theorem State.countRetry_events (s : State) : (s.countRetry).events = s.events := rfl
@[simp] theorem State.countRetry_counters (s : State) :
    (s.countRetry).counters = { s.counters with retries := saturatingInc s.counters.retries } := rfl
@[simp] theorem State.countRetry_outside (s : State) : (s.countRetry).outside = s.outside := rfl
@[simp] theorem State.countRetry_now (s : State) : (s.countRetry).now = s.now := rfl
@[simp] theorem State.countRetry_order (s : State) : (s.countRetry).order = s.order := rfl
@[simp] theorem State.countRetry_pending (s : State) : (s.countRetry).pending = s.pending := rfl

/-! ### `State.countCensusEntry` -/

@[simp] theorem State.countCensusEntry_resetPin (s : State) : (s.countCensusEntry).resetPin = s.resetPin := rfl
@[simp] theorem State.countCensusEntry_receiver (s : State) : (s.countCensusEntry).receiver = s.receiver := rfl
@[simp] theorem State.countCensusEntry_path (s : State) : (s.countCensusEntry).path = s.path := rfl
@[simp] theorem State.countCensusEntry_member (s : State) : (s.countCensusEntry).member = s.member := rfl
@[simp] theorem State.countCensusEntry_send (s : State) : (s.countCensusEntry).send = s.send := rfl
@[simp] theorem State.countCensusEntry_filter (s : State) : (s.countCensusEntry).filter = s.filter := rfl
@[simp] theorem State.countCensusEntry_delivery (s : State) : (s.countCensusEntry).delivery = s.delivery := rfl
@[simp] theorem State.countCensusEntry_trigger (s : State) : (s.countCensusEntry).trigger = s.trigger := rfl
@[simp] theorem State.countCensusEntry_bus (s : State) : (s.countCensusEntry).bus = s.bus := rfl
@[simp] theorem State.countCensusEntry_host (s : State) : (s.countCensusEntry).host = s.host := rfl
@[simp] theorem State.countCensusEntry_events (s : State) : (s.countCensusEntry).events = s.events := rfl
@[simp] theorem State.countCensusEntry_counters (s : State) :
    (s.countCensusEntry).counters = { s.counters with censusEntries := saturatingInc s.counters.censusEntries } := rfl
@[simp] theorem State.countCensusEntry_outside (s : State) : (s.countCensusEntry).outside = s.outside := rfl
@[simp] theorem State.countCensusEntry_now (s : State) : (s.countCensusEntry).now = s.now := rfl
@[simp] theorem State.countCensusEntry_order (s : State) : (s.countCensusEntry).order = s.order := rfl
@[simp] theorem State.countCensusEntry_pending (s : State) : (s.countCensusEntry).pending = s.pending := rfl

/-! ### `State.countLinkLoss` -/

@[simp] theorem State.countLinkLoss_resetPin (s : State) : (s.countLinkLoss).resetPin = s.resetPin := rfl
@[simp] theorem State.countLinkLoss_receiver (s : State) : (s.countLinkLoss).receiver = s.receiver := rfl
@[simp] theorem State.countLinkLoss_path (s : State) : (s.countLinkLoss).path = s.path := rfl
@[simp] theorem State.countLinkLoss_member (s : State) : (s.countLinkLoss).member = s.member := rfl
@[simp] theorem State.countLinkLoss_send (s : State) : (s.countLinkLoss).send = s.send := rfl
@[simp] theorem State.countLinkLoss_filter (s : State) : (s.countLinkLoss).filter = s.filter := rfl
@[simp] theorem State.countLinkLoss_delivery (s : State) : (s.countLinkLoss).delivery = s.delivery := rfl
@[simp] theorem State.countLinkLoss_trigger (s : State) : (s.countLinkLoss).trigger = s.trigger := rfl
@[simp] theorem State.countLinkLoss_bus (s : State) : (s.countLinkLoss).bus = s.bus := rfl
@[simp] theorem State.countLinkLoss_host (s : State) : (s.countLinkLoss).host = s.host := rfl
@[simp] theorem State.countLinkLoss_events (s : State) : (s.countLinkLoss).events = s.events := rfl
@[simp] theorem State.countLinkLoss_counters (s : State) :
    (s.countLinkLoss).counters = { s.counters with linkLosses := saturatingInc s.counters.linkLosses } := rfl
@[simp] theorem State.countLinkLoss_outside (s : State) : (s.countLinkLoss).outside = s.outside := rfl
@[simp] theorem State.countLinkLoss_now (s : State) : (s.countLinkLoss).now = s.now := rfl
@[simp] theorem State.countLinkLoss_order (s : State) : (s.countLinkLoss).order = s.order := rfl
@[simp] theorem State.countLinkLoss_pending (s : State) : (s.countLinkLoss).pending = s.pending := rfl

end Sys2Proof.Machine
end

