-- ==== Sys2Proof/Laws/Output.lean ====
section
/-! SUPPORT. The ring output and the passing of time: what the sending of an item can change, that it moves the next boundary
on by one frame time, and the induction that carries a property through `State.reach` and `State.at`. -/

namespace Sys2Proof.Machine

/-! ### What the passing of time leaves as it was -/

/-- The membership unit without the four items that the first bit of an own frame changes. -/
def Membership.still (m : Membership) : Membership :=
  { m with claimBegun := false, numberSent := none, announce := .none, depart := .none }

/-- The send unit without the four items that the first bit of a HEAD changes, the halfwords that wait for the staging buffer
taken together with those it holds. -/
def SendUnit.still (u : SendUnit) : SendUnit :=
  { u with staging := u.staging ++ u.incoming, incoming := [], head := none, attempts := 0, gapTimer := none,
           returnTimer := none }

/-- The trigger unit without the state of the own trigger. -/
def TriggerUnit.still (u : TriggerUnit) : TriggerUnit := { u with own := .none }

/-- `t` differs from `s` by the passing of time alone: own frames and forwarded ones have gone out. -/
structure State.Passes (s t : State) : Prop where
  resetPin : t.resetPin = s.resetPin
  receiver : t.receiver = s.receiver
  phase    : t.path.phase = s.path.phase
  bypass   : t.path.bypass <:+ s.path.bypass
  member   : t.member.still = s.member.still
  send     : t.send.still = s.send.still
  filter   : t.filter = s.filter
  delivery : t.delivery = s.delivery
  trigger  : t.trigger.still = s.trigger.still
  bus      : t.bus = s.bus
  host     : t.host = s.host
  events   : t.events = s.events
  counters : t.counters = s.counters
  written  : t.outside.written = s.outside.written
  ringOut  : s.outside.ringOut <+: t.outside.ringOut
  now      : s.now ≤ t.now
  order    : t.order = s.order
  pending  : t.pending = s.pending

theorem State.Passes.refl (s : State) : s.Passes s :=
  ⟨rfl, rfl, rfl, List.suffix_refl _, rfl, rfl, rfl, rfl, rfl, rfl, rfl, rfl, rfl, rfl, List.prefix_refl _, Nat.le_refl _,
   rfl, rfl⟩

theorem State.Passes.trans {s t u : State} (h : s.Passes t) (k : t.Passes u) : s.Passes u :=
  ⟨k.1.trans h.1, k.2.trans h.2, k.3.trans h.3, k.4.trans h.4, k.5.trans h.5, k.6.trans h.6, k.7.trans h.7, k.8.trans h.8,
   k.9.trans h.9, k.10.trans h.10, k.11.trans h.11, k.12.trans h.12, k.13.trans h.13, k.14.trans h.14, h.15.trans k.15,
   Nat.le_trans h.16 k.16, k.17.trans h.17, k.18.trans h.18⟩

/-! ### Sending -/

theorem State.sendAtBoundary_eq_sent (s : State) (f : Frame) (own : Bool) : s.sendAtBoundary f own = s.sent f own := rfl

theorem State.now_le_boundary (s : State) : s.now ≤ s.boundary := Nat.le_max_left _ _

theorem SendUnit.still_staged (u : SendUnit) :
    SendUnit.still { u with staging := u.staging ++ u.incoming, incoming := [] } = u.still := by simp [SendUnit.still]

theorem Membership.censusFrameBegun_still (m : Membership) (f : Frame) (now : Time) :
    (m.censusFrameBegun f now).still = m.still := by
  unfold Membership.censusFrameBegun; split <;> rfl

/-- Whatever stands for the sending of an item, it is a passing of time. -/
theorem State.sendItem_passes (s : State) (i : Item) : s.Passes (s.sendItem i) := by
  have hnow := s.now_le_boundary
  cases i
  case arriving =>
    simp only [State.sendItem, State.sendWaiting]
    split
    · exact ⟨rfl, rfl, rfl, List.suffix_refl _, rfl, rfl, rfl, rfl, rfl, rfl, rfl, rfl, rfl, rfl, List.prefix_append _ _, hnow,
        rfl, rfl⟩
    · exact State.Passes.refl s
  case buffered =>
    simp only [State.sendItem, State.sendBypass]
    split
    next f rest h =>
      exact ⟨rfl, rfl, rfl, by rw [h]; exact List.suffix_cons _ _, rfl, rfl, rfl, rfl, rfl, rfl, rfl, rfl, rfl, rfl,
        List.prefix_append _ _, hnow, rfl, rfl⟩
    · exact State.Passes.refl s
  case census =>
    simp only [State.sendItem, State.sendCensusFrame]
    split
    · exact ⟨rfl, rfl, rfl, List.suffix_refl _, Membership.censusFrameBegun_still _ _ _, rfl, rfl, rfl, rfl, rfl, rfl, rfl, rfl,
        rfl, List.prefix_append _ _, hnow, rfl, rfl⟩
    · exact State.Passes.refl s
  case trigger =>
    exact ⟨rfl, rfl, rfl, List.suffix_refl _, rfl, rfl, rfl, rfl, rfl, rfl, rfl, rfl, rfl, rfl, List.prefix_append _ _, hnow,
      rfl, rfl⟩
  case recordFrame =>
    simp only [State.sendItem, State.sendRecordFrame]
    split
    · split
      · exact ⟨rfl, rfl, rfl, List.suffix_refl _, rfl, rfl, rfl, rfl, rfl, rfl, rfl, rfl, rfl, rfl, List.prefix_append _ _, hnow,
          rfl, rfl⟩
      · exact ⟨rfl, rfl, rfl, List.suffix_refl _, rfl, s.send.still_staged, rfl, rfl, rfl, rfl, rfl, rfl, rfl, rfl,
          List.prefix_append _ _, hnow, rfl, rfl⟩
    · exact State.Passes.refl s
  case announce =>
    exact ⟨rfl, rfl, rfl, List.suffix_refl _, rfl, rfl, rfl, rfl, rfl, rfl, rfl, rfl, rfl, rfl, List.prefix_append _ _, hnow,
      rfl, rfl⟩
  case depart =>
    exact ⟨rfl, rfl, rfl, List.suffix_refl _, rfl, rfl, rfl, rfl, rfl, rfl, rfl, rfl, rfl, rfl, List.prefix_append _ _, hnow,
      rfl, rfl⟩
  case record =>
    simp only [State.sendItem, State.beginAttempt]
    split
    · exact ⟨rfl, rfl, rfl, List.suffix_refl _, rfl, rfl, rfl, rfl, rfl, rfl, rfl, rfl, rfl, rfl, List.prefix_append _ _, hnow,
        rfl, rfl⟩
    · exact State.Passes.refl s

/-! ### What the arbiter chooses -/

/-- What each choice of the arbiter says of the state: the item is there to be sent. -/
theorem State.nextItem_ready (s : State) (i : Item) (h : s.nextItem = some i) :
    s.resetPin = false ∧
    match i with
    | .arriving => ∃ f, s.path.waiting = some f
    | .buffered => s.path.waiting = none ∧ ∃ f rest, s.path.bypass = f :: rest
    | .census => s.path.waiting = none ∧ s.mode = .census ∧ ∃ f, s.path.ownCensus = some f
    | .recordFrame => s.path.waiting = none ∧ s.mode = .active ∧ ∃ r, s.path.insertion = some r
    | .trigger => s.path.waiting = none ∧ s.mode = .active ∧ s.path.bypass = [] ∧ s.trigger.own = .waiting
    | .announce => s.path.waiting = none ∧ s.mode = .active ∧ s.path.bypass = [] ∧ s.path.insertion = none ∧
        s.path.phase ≠ .forwarding ∧ s.member.announce = .waiting
    | .depart => s.path.waiting = none ∧ s.mode = .active ∧ s.path.bypass = [] ∧ s.path.insertion = none ∧
        s.path.phase ≠ .forwarding ∧ s.member.depart = .waiting
    | .record => s.path.waiting = none ∧ s.mode = .active ∧ s.path.bypass = [] ∧ s.path.insertion = none ∧
        s.path.phase ≠ .forwarding ∧ s.offered = true ∧ ∃ e rest, s.send.queue = e :: rest := by
  unfold State.nextItem at h
  split at h
  · exact absurd h (by simp)
  next hp =>
    refine ⟨by simpa using hp, ?_⟩
    split at h
    next hw =>
      cases h
      exact Option.isSome_iff_exists.mp hw
    next hw =>
      have hw : s.path.waiting = none := by simpa using hw
      split at h
      · split at h
        · exact absurd h (by simp)
        next hb => cases h; exact ⟨hw, List.exists_cons_of_ne_nil hb⟩
      next hm =>
        split at h
        next hc => cases h; exact ⟨hw, hm, Option.isSome_iff_exists.mp hc⟩
        · exact absurd h (by simp)
      next hm =>
        split at h
        next hi =>
          split at h
          next ht => cases h; exact ⟨hw, hm, ht.2, by simpa [State.ownTriggerReady] using ht.1⟩
          · cases h; exact ⟨hw, hm, Option.isSome_iff_exists.mp hi⟩
        next hi =>
          have hi : s.path.insertion = none := by simpa using hi
          split at h
          next hb => cases h; exact ⟨hw, List.exists_cons_of_ne_nil hb⟩
          next hb =>
            have hb : s.path.bypass = [] := by simpa using hb
            unfold State.nextOwn at h
            split at h
            next ht => cases h; exact ⟨hw, hm, hb, by simpa [State.ownTriggerReady] using ht⟩
            split at h
            · exact absurd h (by simp)
            next hf =>
              split at h
              next ha => cases h; exact ⟨hw, hm, hb, hi, hf, ha⟩
              split at h
              next hd => cases h; exact ⟨hw, hm, hb, hi, hf, hd⟩
              split at h
              next hr => cases h; exact ⟨hw, hm, hb, hi, hf, hr.1, List.exists_cons_of_ne_nil hr.2⟩
              · exact absurd h (by simp)

/-- A chosen item goes out at the next boundary, which the clock reaches, and the boundary after it is one frame time
later. -/
theorem State.sendItem_output (s : State) (i : Item) (h : s.nextItem = some i) :
    (s.sendItem i).now = s.boundary ∧ (s.sendItem i).path.freeAt = s.boundary + frameTime := by
  obtain ⟨-, k⟩ := s.nextItem_ready i h
  cases i
  case arriving => obtain ⟨f, k⟩ := k; simp only [State.sendItem, State.sendWaiting, k]; exact ⟨rfl, rfl⟩
  case buffered => obtain ⟨-, f, r, k⟩ := k; simp only [State.sendItem, State.sendBypass, k]; exact ⟨rfl, rfl⟩
  case census => obtain ⟨-, -, f, k⟩ := k; simp only [State.sendItem, State.sendCensusFrame, k]; exact ⟨rfl, rfl⟩
  case recordFrame =>
    obtain ⟨-, -, r, k⟩ := k
    simp only [State.sendItem, State.sendRecordFrame, k]
    split <;> exact ⟨rfl, rfl⟩
  case record =>
    obtain ⟨-, -, -, -, -, -, e, r, k⟩ := k
    simp only [State.sendItem, State.beginAttempt, k]; exact ⟨rfl, rfl⟩
  all_goals exact ⟨rfl, rfl⟩

theorem State.sendItem_boundary (s : State) (i : Item) (h : s.nextItem = some i) :
    (s.sendItem i).boundary = s.boundary + frameTime := by
  obtain ⟨a, b⟩ := s.sendItem_output i h
  unfold State.boundary at *
  rw [a, b]; exact Nat.max_eq_right (Nat.le_add_right _ _)

/-! ### Catching up -/

theorem State.catchUp_stop (s : State) (t : Time) (n : Nat) (h : s.nextItem = none ∨ t ≤ s.boundary) : s.catchUp t n = s := by
  cases n with
  | zero => rfl
  | succ n =>
    unfold State.catchUp
    split
    next i hi => rw [if_neg]; rcases h with h | h <;> simp_all
    · rfl

theorem State.catchUp_send (s : State) (t : Time) (n : Nat) (i : Item) (h : s.nextItem = some i) (hb : s.boundary < t) :
    s.catchUp t (n + 1) = (s.sendItem i).catchUp t n := by
  conv_lhs => unfold State.catchUp
  simp [h, hb]

/-- A property that every item sent at a boundary before `t` keeps holds after the catching up, which leaves nothing to send
before `t` when it starts with enough fuel. -/
theorem State.catchUp_keeps (P : State → Prop) (t : Time)
    (hP : ∀ s i, P s → s.nextItem = some i → s.boundary < t → P (s.sendItem i)) :
    ∀ (n : Nat) (s : State), P s → t ≤ s.boundary + n →
      P (s.catchUp t n) ∧ ((s.catchUp t n).nextItem = none ∨ t ≤ (s.catchUp t n).boundary)
  | 0, s, h, hn => ⟨h, .inr hn⟩
  | n + 1, s, h, hn => by
    by_cases hs : s.nextItem = none ∨ t ≤ s.boundary
    · rw [s.catchUp_stop t _ hs]; exact ⟨h, hs⟩
    · push Not at hs
      obtain ⟨i, hi⟩ := Option.ne_none_iff_exists'.mp hs.1
      rw [s.catchUp_send t n i hi hs.2]
      refine State.catchUp_keeps P t hP n _ (hP s i h hi hs.2) ?_
      rw [s.sendItem_boundary i hi]; simp only [frameTime]; lia

/-- A property that every item sent keeps, and that the clock's moving on to a moment before which nothing is left to send
keeps, holds at the moment reached. -/
theorem State.reach_keeps (P : State → Prop) (s : State) (t : Time)
    (hP : ∀ u i, P u → u.nextItem = some i → u.boundary < t → P (u.sendItem i))
    (hnow : ∀ u, P u → u.nextItem = none ∨ t ≤ u.boundary → P { u with now := max u.now t }) (h : P s) : P (s.reach t) := by
  obtain ⟨a, b⟩ := State.catchUp_keeps P t hP (t - s.boundary) s h (by lia)
  exact hnow _ a b

theorem State.reach_passes (s : State) (t : Time) : s.Passes (s.reach t) :=
  State.reach_keeps (fun u => s.Passes u) s t (fun u i h _ _ => h.trans (u.sendItem_passes i))
    (fun _ h _ => h.trans ⟨rfl, rfl, rfl, List.suffix_refl _, rfl, rfl, rfl, rfl, rfl, rfl, rfl, rfl, rfl, rfl,
      List.prefix_refl _, Nat.le_max_left _ _, rfl, rfl⟩) (State.Passes.refl s)

/-- The clock stands at the moment reached, or where it stood when that has passed. -/
@[simp] theorem State.reach_now (s : State) (t : Time) : (s.reach t).now = max s.now t := by
  have h := State.catchUp_keeps (fun u => u.now ≤ max s.now t) t
    (fun u i h hi hb => by
      obtain ⟨a, -⟩ := u.sendItem_output i hi
      show (u.sendItem i).now ≤ _
      rw [a]; lia) (t - s.boundary) s (Nat.le_max_left _ _) (by lia)
  have k := State.catchUp_keeps (fun u => s.now ≤ u.now) t
    (fun u i h hi _ => Nat.le_trans h (u.sendItem_passes i).now) (t - s.boundary) s (Nat.le_refl _) (by lia)
  show max (s.catchUp t (t - s.boundary)).now t = _
  have h1 := h.1; have k1 := k.1
  lia

/-- With nothing to send before the moment only the clock moves. -/
theorem State.reach_stop (s : State) (t : Time) (h : s.nextItem = none ∨ t ≤ s.boundary) :
    s.reach t = { s with now := max s.now t } := by
  unfold State.reach; rw [s.catchUp_stop t _ h]

theorem State.reach_asserted (s : State) (t : Time) (h : s.resetPin = true) : s.reach t = { s with now := max s.now t } :=
  s.reach_stop t (.inl (by simp [State.nextItem, h]))

/-- Under RESET the passing of time is the clock's alone. -/
theorem State.at_asserted (s : State) (o : Occasion) (h : s.resetPin = true) :
    s.at o = { s with now := max s.now o.time, order := o.order } := by
  unfold State.at; rw [s.reach_asserted _ h]

/-! ### The blocks that the passing of time leaves as they are -/

@[simp] theorem State.reach_resetPin (s : State) (t : Time) : (s.reach t).resetPin = s.resetPin := (s.reach_passes t).resetPin
@[simp] theorem State.reach_receiver (s : State) (t : Time) : (s.reach t).receiver = s.receiver := (s.reach_passes t).receiver
@[simp] theorem State.reach_filter (s : State) (t : Time) : (s.reach t).filter = s.filter := (s.reach_passes t).filter
@[simp] theorem State.reach_delivery (s : State) (t : Time) : (s.reach t).delivery = s.delivery := (s.reach_passes t).delivery
@[simp] theorem State.reach_bus (s : State) (t : Time) : (s.reach t).bus = s.bus := (s.reach_passes t).bus
@[simp] theorem State.reach_host (s : State) (t : Time) : (s.reach t).host = s.host := (s.reach_passes t).host
@[simp] theorem State.reach_events (s : State) (t : Time) : (s.reach t).events = s.events := (s.reach_passes t).events
@[simp] theorem State.reach_counters (s : State) (t : Time) : (s.reach t).counters = s.counters := (s.reach_passes t).counters
@[simp] theorem State.reach_pending (s : State) (t : Time) : (s.reach t).pending = s.pending := (s.reach_passes t).pending
@[simp] theorem State.reach_phase (s : State) (t : Time) : (s.reach t).path.phase = s.path.phase := (s.reach_passes t).phase
@[simp] theorem State.reach_member_station (s : State) (t : Time) : (s.reach t).member.station = s.member.station := by
  have h := congrArg Membership.station (s.reach_passes t).member; exact h
@[simp] theorem State.reach_member_sub (s : State) (t : Time) : (s.reach t).member.sub = s.member.sub := by
  have h := congrArg Membership.sub (s.reach_passes t).member; exact h
@[simp] theorem State.reach_member_mark (s : State) (t : Time) : (s.reach t).member.mark = s.member.mark := by
  have h := congrArg Membership.mark (s.reach_passes t).member; exact h
@[simp] theorem State.reach_member_leavePending (s : State) (t : Time) : (s.reach t).member.leavePending = s.member.leavePending := by
  have h := congrArg Membership.leavePending (s.reach_passes t).member; exact h
@[simp] theorem State.reach_member_provisional (s : State) (t : Time) : (s.reach t).member.provisional = s.member.provisional := by
  have h := congrArg Membership.provisional (s.reach_passes t).member; exact h
@[simp] theorem State.reach_member_number (s : State) (t : Time) : (s.reach t).member.number = s.member.number := by
  have h := congrArg Membership.number (s.reach_passes t).member; exact h
@[simp] theorem State.reach_member_ringSize (s : State) (t : Time) : (s.reach t).member.ringSize = s.member.ringSize := by
  have h := congrArg Membership.ringSize (s.reach_passes t).member; exact h
@[simp] theorem State.reach_member_hopTime (s : State) (t : Time) : (s.reach t).member.hopTime = s.member.hopTime := by
  have h := congrArg Membership.hopTime (s.reach_passes t).member; exact h
@[simp] theorem State.reach_member_pendingSize (s : State) (t : Time) : (s.reach t).member.pendingSize = s.member.pendingSize := by
  have h := congrArg Membership.pendingSize (s.reach_passes t).member; exact h
@[simp] theorem State.reach_member_pendingHop (s : State) (t : Time) : (s.reach t).member.pendingHop = s.member.pendingHop := by
  have h := congrArg Membership.pendingHop (s.reach_passes t).member; exact h
@[simp] theorem State.reach_member_epoch (s : State) (t : Time) : (s.reach t).member.epoch = s.member.epoch := by
  have h := congrArg Membership.epoch (s.reach_passes t).member; exact h
@[simp] theorem State.reach_member_attempts (s : State) (t : Time) : (s.reach t).member.attempts = s.member.attempts := by
  have h := congrArg Membership.attempts (s.reach_passes t).member; exact h
@[simp] theorem State.reach_member_censusTimer (s : State) (t : Time) : (s.reach t).member.censusTimer = s.member.censusTimer := by
  have h := congrArg Membership.censusTimer (s.reach_passes t).member; exact h
@[simp] theorem State.reach_member_isolationTimer (s : State) (t : Time) : (s.reach t).member.isolationTimer = s.member.isolationTimer := by
  have h := congrArg Membership.isolationTimer (s.reach_passes t).member; exact h
@[simp] theorem State.reach_member_departTimer (s : State) (t : Time) : (s.reach t).member.departTimer = s.member.departTimer := by
  have h := congrArg Membership.departTimer (s.reach_passes t).member; exact h
@[simp] theorem State.reach_member_roster (s : State) (t : Time) : (s.reach t).member.roster = s.member.roster := by
  have h := congrArg Membership.roster (s.reach_passes t).member; exact h
@[simp] theorem State.reach_send_queue (s : State) (t : Time) : (s.reach t).send.queue = s.send.queue := by
  have h := congrArg SendUnit.queue (s.reach_passes t).send; exact h
/-- The halfwords of the head entry's payload that have been read stay, in the staging buffer or waiting for it. -/
theorem State.reach_send_payload (s : State) (t : Time) :
    (s.reach t).send.staging ++ (s.reach t).send.incoming = s.send.staging ++ s.send.incoming :=
  congrArg SendUnit.staging (s.reach_passes t).send
@[simp] theorem State.reach_send_seq (s : State) (t : Time) : (s.reach t).send.seq = s.send.seq := by
  have h := congrArg SendUnit.seq (s.reach_passes t).send; exact h
@[simp] theorem State.reach_send_attempt (s : State) (t : Time) : (s.reach t).send.attempt = s.send.attempt := by
  have h := congrArg SendUnit.attempt (s.reach_passes t).send; exact h
@[simp] theorem State.reach_send_cancelRequested (s : State) (t : Time) : (s.reach t).send.cancelRequested = s.send.cancelRequested := by
  have h := congrArg SendUnit.cancelRequested (s.reach_passes t).send; exact h
@[simp] theorem State.reach_send_disposition (s : State) (t : Time) : (s.reach t).send.disposition = s.send.disposition := by
  have h := congrArg SendUnit.disposition (s.reach_passes t).send; exact h
@[simp] theorem State.reach_send_context (s : State) (t : Time) : (s.reach t).send.context = s.send.context := by
  have h := congrArg SendUnit.context (s.reach_passes t).send; exact h
@[simp] theorem State.reach_send_nextIndex (s : State) (t : Time) : (s.reach t).send.nextIndex = s.send.nextIndex := by
  have h := congrArg SendUnit.nextIndex (s.reach_passes t).send; exact h
@[simp] theorem State.reach_send_fault (s : State) (t : Time) : (s.reach t).send.fault = s.send.fault := by
  have h := congrArg SendUnit.fault (s.reach_passes t).send; exact h
@[simp] theorem State.reach_send_accept (s : State) (t : Time) : (s.reach t).send.accept = s.send.accept := by
  have h := congrArg SendUnit.accept (s.reach_passes t).send; exact h
@[simp] theorem State.reach_send_held (s : State) (t : Time) : (s.reach t).send.held = s.send.held := by
  have h := congrArg SendUnit.held (s.reach_passes t).send; exact h
@[simp] theorem State.reach_send_retryLimit (s : State) (t : Time) : (s.reach t).send.retryLimit = s.send.retryLimit := by
  have h := congrArg SendUnit.retryLimit (s.reach_passes t).send; exact h
@[simp] theorem State.reach_trigger_group (s : State) (t : Time) : (s.reach t).trigger.group = s.trigger.group := by
  have h := congrArg TriggerUnit.group (s.reach_passes t).trigger; exact h
@[simp] theorem State.reach_trigger_returnTimer (s : State) (t : Time) : (s.reach t).trigger.returnTimer = s.trigger.returnTimer := by
  have h := congrArg TriggerUnit.returnTimer (s.reach_passes t).trigger; exact h
@[simp] theorem State.reach_trigger_membership (s : State) (t : Time) : (s.reach t).trigger.membership = s.trigger.membership := by
  have h := congrArg TriggerUnit.membership (s.reach_passes t).trigger; exact h
@[simp] theorem State.reach_trigger_schedule (s : State) (t : Time) : (s.reach t).trigger.schedule = s.trigger.schedule := by
  have h := congrArg TriggerUnit.schedule (s.reach_passes t).trigger; exact h
@[simp] theorem State.reach_trigger_pulseTimer (s : State) (t : Time) : (s.reach t).trigger.pulseTimer = s.trigger.pulseTimer := by
  have h := congrArg TriggerUnit.pulseTimer (s.reach_passes t).trigger; exact h
@[simp] theorem State.reach_trigger_pin (s : State) (t : Time) : (s.reach t).trigger.pin = s.trigger.pin := by
  have h := congrArg TriggerUnit.pin (s.reach_passes t).trigger; exact h
@[simp] theorem State.reach_written (s : State) (t : Time) : (s.reach t).outside.written = s.outside.written :=
  (s.reach_passes t).written
@[simp] theorem State.reach_mode (s : State) (t : Time) : (s.reach t).mode = s.mode := by simp [State.mode]
@[simp] theorem State.reach_onRing (s : State) (t : Time) : (s.reach t).onRing = s.onRing := by simp [State.onRing]
theorem State.reach_bypass_length (s : State) (t : Time) : (s.reach t).path.bypass.length ≤ s.path.bypass.length :=
  (s.reach_passes t).bypass.length_le
@[simp] theorem State.reach_order (s : State) (t : Time) : (s.reach t).order = s.order := (s.reach_passes t).order

@[simp] theorem State.at_resetPin (s : State) (o : Occasion) : (s.at o).resetPin = s.resetPin := (s.reach_passes o.time).resetPin
@[simp] theorem State.at_receiver (s : State) (o : Occasion) : (s.at o).receiver = s.receiver := (s.reach_passes o.time).receiver
@[simp] theorem State.at_filter (s : State) (o : Occasion) : (s.at o).filter = s.filter := (s.reach_passes o.time).filter
@[simp] theorem State.at_delivery (s : State) (o : Occasion) : (s.at o).delivery = s.delivery := (s.reach_passes o.time).delivery
@[simp] theorem State.at_bus (s : State) (o : Occasion) : (s.at o).bus = s.bus := (s.reach_passes o.time).bus
@[simp] theorem State.at_host (s : State) (o : Occasion) : (s.at o).host = s.host := (s.reach_passes o.time).host
@[simp] theorem State.at_events (s : State) (o : Occasion) : (s.at o).events = s.events := (s.reach_passes o.time).events
@[simp] theorem State.at_counters (s : State) (o : Occasion) : (s.at o).counters = s.counters := (s.reach_passes o.time).counters
@[simp] theorem State.at_pending (s : State) (o : Occasion) : (s.at o).pending = s.pending := (s.reach_passes o.time).pending
@[simp] theorem State.at_phase (s : State) (o : Occasion) : (s.at o).path.phase = s.path.phase := (s.reach_passes o.time).phase
@[simp] theorem State.at_member_station (s : State) (o : Occasion) : (s.at o).member.station = s.member.station := by
  have h := congrArg Membership.station (s.reach_passes o.time).member; exact h
@[simp] theorem State.at_member_sub (s : State) (o : Occasion) : (s.at o).member.sub = s.member.sub := by
  have h := congrArg Membership.sub (s.reach_passes o.time).member; exact h
@[simp] theorem State.at_member_mark (s : State) (o : Occasion) : (s.at o).member.mark = s.member.mark := by
  have h := congrArg Membership.mark (s.reach_passes o.time).member; exact h
@[simp] theorem State.at_member_leavePending (s : State) (o : Occasion) : (s.at o).member.leavePending = s.member.leavePending := by
  have h := congrArg Membership.leavePending (s.reach_passes o.time).member; exact h
@[simp] theorem State.at_member_provisional (s : State) (o : Occasion) : (s.at o).member.provisional = s.member.provisional := by
  have h := congrArg Membership.provisional (s.reach_passes o.time).member; exact h
@[simp] theorem State.at_member_number (s : State) (o : Occasion) : (s.at o).member.number = s.member.number := by
  have h := congrArg Membership.number (s.reach_passes o.time).member; exact h
@[simp] theorem State.at_member_ringSize (s : State) (o : Occasion) : (s.at o).member.ringSize = s.member.ringSize := by
  have h := congrArg Membership.ringSize (s.reach_passes o.time).member; exact h
@[simp] theorem State.at_member_hopTime (s : State) (o : Occasion) : (s.at o).member.hopTime = s.member.hopTime := by
  have h := congrArg Membership.hopTime (s.reach_passes o.time).member; exact h
@[simp] theorem State.at_member_pendingSize (s : State) (o : Occasion) : (s.at o).member.pendingSize = s.member.pendingSize := by
  have h := congrArg Membership.pendingSize (s.reach_passes o.time).member; exact h
@[simp] theorem State.at_member_pendingHop (s : State) (o : Occasion) : (s.at o).member.pendingHop = s.member.pendingHop := by
  have h := congrArg Membership.pendingHop (s.reach_passes o.time).member; exact h
@[simp] theorem State.at_member_epoch (s : State) (o : Occasion) : (s.at o).member.epoch = s.member.epoch := by
  have h := congrArg Membership.epoch (s.reach_passes o.time).member; exact h
@[simp] theorem State.at_member_attempts (s : State) (o : Occasion) : (s.at o).member.attempts = s.member.attempts := by
  have h := congrArg Membership.attempts (s.reach_passes o.time).member; exact h
@[simp] theorem State.at_member_censusTimer (s : State) (o : Occasion) : (s.at o).member.censusTimer = s.member.censusTimer := by
  have h := congrArg Membership.censusTimer (s.reach_passes o.time).member; exact h
@[simp] theorem State.at_member_isolationTimer (s : State) (o : Occasion) : (s.at o).member.isolationTimer = s.member.isolationTimer := by
  have h := congrArg Membership.isolationTimer (s.reach_passes o.time).member; exact h
@[simp] theorem State.at_member_departTimer (s : State) (o : Occasion) : (s.at o).member.departTimer = s.member.departTimer := by
  have h := congrArg Membership.departTimer (s.reach_passes o.time).member; exact h
@[simp] theorem State.at_member_roster (s : State) (o : Occasion) : (s.at o).member.roster = s.member.roster := by
  have h := congrArg Membership.roster (s.reach_passes o.time).member; exact h
@[simp] theorem State.at_send_queue (s : State) (o : Occasion) : (s.at o).send.queue = s.send.queue := by
  have h := congrArg SendUnit.queue (s.reach_passes o.time).send; exact h
/-- The halfwords of the head entry's payload that have been read stay, in the staging buffer or waiting for it. -/
theorem State.at_send_payload (s : State) (o : Occasion) :
    (s.at o).send.staging ++ (s.at o).send.incoming = s.send.staging ++ s.send.incoming :=
  congrArg SendUnit.staging (s.reach_passes o.time).send
@[simp] theorem State.at_send_seq (s : State) (o : Occasion) : (s.at o).send.seq = s.send.seq := by
  have h := congrArg SendUnit.seq (s.reach_passes o.time).send; exact h
@[simp] theorem State.at_send_attempt (s : State) (o : Occasion) : (s.at o).send.attempt = s.send.attempt := by
  have h := congrArg SendUnit.attempt (s.reach_passes o.time).send; exact h
@[simp] theorem State.at_send_cancelRequested (s : State) (o : Occasion) : (s.at o).send.cancelRequested = s.send.cancelRequested := by
  have h := congrArg SendUnit.cancelRequested (s.reach_passes o.time).send; exact h
@[simp] theorem State.at_send_disposition (s : State) (o : Occasion) : (s.at o).send.disposition = s.send.disposition := by
  have h := congrArg SendUnit.disposition (s.reach_passes o.time).send; exact h
@[simp] theorem State.at_send_context (s : State) (o : Occasion) : (s.at o).send.context = s.send.context := by
  have h := congrArg SendUnit.context (s.reach_passes o.time).send; exact h
@[simp] theorem State.at_send_nextIndex (s : State) (o : Occasion) : (s.at o).send.nextIndex = s.send.nextIndex := by
  have h := congrArg SendUnit.nextIndex (s.reach_passes o.time).send; exact h
@[simp] theorem State.at_send_fault (s : State) (o : Occasion) : (s.at o).send.fault = s.send.fault := by
  have h := congrArg SendUnit.fault (s.reach_passes o.time).send; exact h
@[simp] theorem State.at_send_accept (s : State) (o : Occasion) : (s.at o).send.accept = s.send.accept := by
  have h := congrArg SendUnit.accept (s.reach_passes o.time).send; exact h
@[simp] theorem State.at_send_held (s : State) (o : Occasion) : (s.at o).send.held = s.send.held := by
  have h := congrArg SendUnit.held (s.reach_passes o.time).send; exact h
@[simp] theorem State.at_send_retryLimit (s : State) (o : Occasion) : (s.at o).send.retryLimit = s.send.retryLimit := by
  have h := congrArg SendUnit.retryLimit (s.reach_passes o.time).send; exact h
@[simp] theorem State.at_trigger_group (s : State) (o : Occasion) : (s.at o).trigger.group = s.trigger.group := by
  have h := congrArg TriggerUnit.group (s.reach_passes o.time).trigger; exact h
@[simp] theorem State.at_trigger_returnTimer (s : State) (o : Occasion) : (s.at o).trigger.returnTimer = s.trigger.returnTimer := by
  have h := congrArg TriggerUnit.returnTimer (s.reach_passes o.time).trigger; exact h
@[simp] theorem State.at_trigger_membership (s : State) (o : Occasion) : (s.at o).trigger.membership = s.trigger.membership := by
  have h := congrArg TriggerUnit.membership (s.reach_passes o.time).trigger; exact h
@[simp] theorem State.at_trigger_schedule (s : State) (o : Occasion) : (s.at o).trigger.schedule = s.trigger.schedule := by
  have h := congrArg TriggerUnit.schedule (s.reach_passes o.time).trigger; exact h
@[simp] theorem State.at_trigger_pulseTimer (s : State) (o : Occasion) : (s.at o).trigger.pulseTimer = s.trigger.pulseTimer := by
  have h := congrArg TriggerUnit.pulseTimer (s.reach_passes o.time).trigger; exact h
@[simp] theorem State.at_trigger_pin (s : State) (o : Occasion) : (s.at o).trigger.pin = s.trigger.pin := by
  have h := congrArg TriggerUnit.pin (s.reach_passes o.time).trigger; exact h
@[simp] theorem State.at_written (s : State) (o : Occasion) : (s.at o).outside.written = s.outside.written :=
  (s.reach_passes o.time).written
@[simp] theorem State.at_mode (s : State) (o : Occasion) : (s.at o).mode = s.mode := by simp [State.mode]
@[simp] theorem State.at_onRing (s : State) (o : Occasion) : (s.at o).onRing = s.onRing := by simp [State.onRing]
theorem State.at_bypass_length (s : State) (o : Occasion) : (s.at o).path.bypass.length ≤ s.path.bypass.length :=
  (s.reach_passes o.time).bypass.length_le
@[simp] theorem State.at_order (s : State) (o : Occasion) : (s.at o).order = o.order := rfl
@[simp] theorem State.at_now (s : State) (o : Occasion) : (s.at o).now = max s.now o.time := s.reach_now o.time

end Sys2Proof.Machine
end

