-- ==== Sys2Proof/Laws/Frames.lean ====
section
/-! SUPPORT. One frame lemma per shared operation that has cases: which blocks of the state it can change at all. Each says
that the result is the state itself but for the named blocks; a caller obtains the new blocks and unfolds nothing. -/

namespace Sys2Proof.Machine

/-! ### Frames from upstream (Machine/Output.lean, Machine/Arrivals.lean) -/

theorem State.cutThrough_frame (s : State) (f : Frame) :
    ∃ path outside, s.cutThrough f = { s with path := path, outside := outside } := by
  unfold State.cutThrough; split <;> exact ⟨_, _, rfl⟩

theorem State.drainAtBoundary_frame (s : State) :
    ∃ path outside, s.drainAtBoundary = { s with path := path, outside := outside } := by
  unfold State.drainAtBoundary
  split
  next h =>
    have hb : s.boundary = s.now := Nat.max_eq_left h.2
    unfold State.sendBypass
    split
    · dsimp only [State.sendAtBoundary]; rw [hb]; exact ⟨_, _, rfl⟩
    · exact ⟨s.path, s.outside, rfl⟩
  · exact ⟨s.path, s.outside, rfl⟩

theorem State.forward_frame (s : State) (f : Frame) :
    ∃ path outside, s.forward f = { s with path := path, outside := outside } := by
  unfold State.forward
  obtain ⟨p, w, h⟩ := s.drainAtBoundary_frame
  rw [h]
  dsimp only
  split
  · exact ⟨_, w, rfl⟩
  · exact State.cutThrough_frame { s with path := p, outside := w } f

/-- What taking an own frame back can change: the own record in progress, the send unit, the own TRIGGER, and the own ANNOUNCE
or DEPART. -/
theorem State.takeBack_frame (s u : State) (own : Frame) (h : s.takeBack own = some u) :
    ∃ insertion send trigger announce depart, u = { s with
      path := { s.path with insertion := insertion }, send := send, trigger := trigger,
      member := { s.member with announce := announce, depart := depart } } := by
  unfold State.takeBack at h
  split at h
  · split at h <;> cases h; exact ⟨_, _, _, _, _, rfl⟩
  · split at h <;> cases h; exact ⟨_, _, _, _, _, rfl⟩
  · split at h <;> cases h; exact ⟨_, _, _, _, _, rfl⟩
  · split at h <;> cases h; exact ⟨_, _, _, _, _, rfl⟩
  · split at h
    · split at h <;> cases h; exact ⟨_, _, _, _, _, rfl⟩
    · cases h
  · split at h <;> cases h; exact ⟨_, _, _, _, _, rfl⟩
  · cases h

theorem State.overtake_frame (s : State) (f : Frame) :
    ∃ path outside send trigger announce depart, s.overtake f = { s with
      path := path, outside := outside, send := send, trigger := trigger,
      member := { s.member with announce := announce, depart := depart } } ∧ path.bypass = s.path.bypass := by
  have cut : ∃ path outside send trigger announce depart, s.cutThrough f = { s with
      path := path, outside := outside, send := send, trigger := trigger,
      member := { s.member with announce := announce, depart := depart } } ∧ path.bypass = s.path.bypass := by
    unfold State.cutThrough
    split <;> exact ⟨_, _, s.send, s.trigger, s.member.announce, s.member.depart, rfl, rfl⟩
  unfold State.overtake
  split
  · split
    · unfold State.displace
      dsimp only
      split
      next u h => obtain ⟨i, x, y, a, d, rfl⟩ := s.takeBack_frame u _ h; exact ⟨_, _, _, _, _, _, rfl, rfl⟩
      · exact ⟨_, _, _, s.trigger, s.member.announce, s.member.depart, rfl, rfl⟩
    · exact cut
  · exact cut

theorem State.flushWaiting_frame (s : State) :
    ∃ path outside, s.flushWaiting = { s with path := path, outside := outside } := by
  unfold State.flushWaiting; split
  · exact ⟨_, _, rfl⟩
  · exact ⟨s.path, s.outside, rfl⟩

/-- A frame judged changes, beyond the passing of time, the receiver, the output and the frame that waited. -/
theorem State.frameJudged_frame (s : State) (silence : Option Time) : ∃ receiver path outside,
    receiver.up = s.receiver.up ∧ s.frameJudged silence = { s.reach s.receiver.nextFrame with receiver := receiver, path := path, outside := outside } := by
  unfold State.frameJudged
  obtain ⟨p, w, h⟩ := State.flushWaiting_frame
    { s.reach s.receiver.nextFrame with
      receiver := { (s.reach s.receiver.nextFrame).receiver with
        lossTimer := (s.reach s.receiver.nextFrame).receiver.restarted (s.reach s.receiver.nextFrame).now silence
        nextFrame := (s.reach s.receiver.nextFrame).now + frameTime } }
  dsimp only at h ⊢
  rw [h]
  refine ⟨_, p, w, ?_, rfl⟩
  show (s.reach s.receiver.nextFrame).receiver.up = _
  rw [s.reach_receiver]

/-! ### Postings (R171) -/

theorem State.postAll_frame (s : State) (es : List Event) : ∃ events, s.postAll es = { s with events := events } := by
  unfold State.postAll
  induction es generalizing s with
  | nil => exact ⟨s.events, rfl⟩
  | cons e rest ih => obtain ⟨q, h⟩ := ih (s.post e); exact ⟨q, h⟩

/-! ### Bus master (Machine/Bus.lean) -/

theorem State.grant_frame (s : State) : ∃ bus, s.grant = { s with bus := bus } := ⟨_, rfl⟩

/-- A request changes the bus master alone, by what the bus master holds and the moment alone. -/
theorem State.makeRequest_eq (s : State) (c : Client) (write : Bool) (start : Word) (words : Nat) :
    s.makeRequest c write start words = { s with
      bus := (s.bus.setRequest c (some { write := write, start := start, words := words, done := 0 })).grant s.now } := rfl

theorem State.makeRequest_frame (s : State) (c : Client) (write : Bool) (start : Word) (words : Nat) :
    ∃ bus, s.makeRequest c write start words = { s with bus := bus } := ⟨_, rfl⟩

/-! ### Delivery engine (Machine/Delivery.lean) -/

theorem State.requestPhase_frame (s : State) (phase : Phase) (ring : BitVec 2) (slot : Nat) (length : BitVec 7) :
    ∃ bus, s.requestPhase phase ring slot length = { s with bus := bus } := by
  unfold State.requestPhase; split <;> exact s.makeRequest_frame _ _ _ _

theorem State.beginDelivery_frame (s : State) :
    ∃ delivery bus, s.beginDelivery = { s with delivery := delivery, bus := bus } := by
  unfold State.beginDelivery
  split
  · split
    · obtain ⟨b, h⟩ := State.requestPhase_frame _ _ _ _ _
      exact ⟨_, b, h⟩
    · exact ⟨s.delivery, s.bus, rfl⟩
  · exact ⟨s.delivery, s.bus, rfl⟩

theorem State.completeDelivery_frame (s : State) : ∃ delivery bus events,
    s.completeDelivery = { s with delivery := delivery, bus := bus, events := events } := by
  unfold State.completeDelivery
  split
  · obtain ⟨d, b, h⟩ := State.beginDelivery_frame _
    exact ⟨d, b, _, h⟩
  · exact ⟨s.delivery, s.bus, s.events, rfl⟩

theorem State.deliveryRequestCompleted_frame (s : State) : ∃ delivery bus events,
    s.deliveryRequestCompleted = { s with delivery := delivery, bus := bus, events := events } := by
  unfold State.deliveryRequestCompleted
  split
  · obtain ⟨b, h⟩ := State.requestPhase_frame _ _ _ _ _
    exact ⟨_, b, s.events, h⟩
  · obtain ⟨b, h⟩ := State.requestPhase_frame _ _ _ _ _
    exact ⟨_, b, s.events, h⟩
  · exact s.completeDelivery_frame
  · exact ⟨s.delivery, s.bus, s.events, rfl⟩

theorem State.failDelivery_frame (s : State) (cause : BusCause) (address : Word) :
    ∃ delivery events, s.failDelivery cause address = { s with delivery := delivery, events := events } := by
  unfold State.failDelivery
  split
  · exact ⟨_, _, rfl⟩
  · exact ⟨s.delivery, s.events, rfl⟩

theorem State.resumeDelivery_frame (s : State) :
    ∃ delivery bus, s.resumeDelivery = { s with delivery := delivery, bus := bus } := by
  obtain ⟨d, b, h⟩ := State.beginDelivery_frame { s with delivery := { s.delivery with engine := .idle } }
  exact ⟨d, b, h⟩

theorem State.skipDelivery_frame (s : State) : ∃ delivery bus events,
    s.skipDelivery = { s with delivery := delivery, bus := bus, events := events } := by
  unfold State.skipDelivery
  split
  · obtain ⟨d, b, h⟩ := State.beginDelivery_frame _
    exact ⟨d, b, _, h⟩
  · exact ⟨s.delivery, s.bus, s.events, rfl⟩

/-! ### Record filter (Machine/Receiving.lean) -/

theorem State.filterHead_frame (s : State) (b : HeadBody) :
    ∃ filter delivery, s.filterHead b = { s with filter := filter, delivery := delivery } := by
  unfold State.filterHead
  dsimp only
  split
  · exact ⟨_, _, rfl⟩
  · exact ⟨_, s.delivery, rfl⟩

theorem State.filterData_frame (s : State) (d : DataBody) :
    ∃ filter delivery, s.filterData d = { s with filter := filter, delivery := delivery } := by
  unfold State.filterData
  split
  · exact ⟨s.filter, s.delivery, rfl⟩
  · split
    · dsimp only
      split
      · exact ⟨_, _, rfl⟩
      · exact ⟨_, s.delivery, rfl⟩
    · exact ⟨_, s.delivery, rfl⟩

theorem State.filterVoid_frame (s : State) : ∃ filter, s.filterVoid = { s with filter := filter } := by
  unfold State.filterVoid
  split
  · exact ⟨s.filter, rfl⟩
  · exact ⟨_, rfl⟩

theorem State.dropFilling_frame (s : State) : ∃ delivery, s.dropFilling = { s with delivery := delivery } := by
  unfold State.dropFilling
  split
  · split
    · exact ⟨_, rfl⟩
    · exact ⟨s.delivery, rfl⟩
  · exact ⟨s.delivery, rfl⟩

theorem State.giveBack_frame (s : State) (c : RecordContext) : ∃ delivery, s.giveBack c = { s with delivery := delivery } := by
  unfold State.giveBack
  split
  · exact s.dropFilling_frame
  · exact ⟨s.delivery, rfl⟩

/-- Closing a record changes the record filter, the delivery (with the bus, when a delivery begins) and the counters; the
context is CLOSED afterwards. -/
theorem State.close_frame (s : State) (c : RecordContext) (k : Closing) : ∃ filter delivery bus counters,
    filter.context = none ∧
    s.close c k = { s with filter := filter, delivery := delivery, bus := bus, counters := counters } := by
  unfold State.close
  split
  · obtain ⟨d, h⟩ := s.giveBack_frame c
    rw [h]; exact ⟨_, d, s.bus, _, rfl, rfl⟩
  · dsimp only
    obtain ⟨d, b, h⟩ := State.beginDelivery_frame _
    rw [h]; exact ⟨_, d, b, _, rfl, rfl⟩
  · exact ⟨_, s.delivery, s.bus, _, rfl, rfl⟩
  · exact ⟨_, s.delivery, s.bus, _, rfl, rfl⟩
  · exact ⟨_, s.delivery, s.bus, s.counters, rfl, rfl⟩

theorem State.filterTail_frame (s : State) (b : TailBody) : ∃ filter delivery bus counters,
    filter.context = none ∧
    s.filterTail b = { s with filter := filter, delivery := delivery, bus := bus, counters := counters } := by
  unfold State.filterTail
  split
  next h => exact ⟨s.filter, s.delivery, s.bus, s.counters, h, rfl⟩
  · exact s.close_frame _ _

theorem State.filterTruncated_frame (s : State) : ∃ filter delivery counters, filter.context = none ∧
    s.filterTruncated = { s with filter := filter, delivery := delivery, counters := counters } := by
  unfold State.filterTruncated
  split
  next h => exact ⟨s.filter, s.delivery, s.counters, h, rfl⟩
  next c _ =>
    obtain ⟨d, h⟩ := s.giveBack_frame c
    unfold State.close
    rw [h]; exact ⟨_, d, _, rfl, rfl⟩

theorem State.filterDiscard_frame (s : State) : ∃ filter delivery, filter.context = none ∧
    s.filterDiscard = { s with filter := filter, delivery := delivery } := by
  unfold State.filterDiscard
  split
  next h => exact ⟨s.filter, s.delivery, h, rfl⟩
  next c _ =>
    obtain ⟨d, h⟩ := s.giveBack_frame c
    rw [h]; exact ⟨_, d, rfl, rfl⟩

/-! ### Send unit (Machine/Sending.lean) -/

theorem State.adoptHead_frame (s : State) : ∃ send bus, s.adoptHead = { s with send := send, bus := bus } := by
  unfold State.adoptHead
  split
  · exact ⟨_, s.bus, rfl⟩
  · split
    · exact ⟨_, s.bus, rfl⟩
    · exact ⟨_, _, rfl⟩

theorem State.nextHead_frame (s : State) : ∃ send bus, s.nextHead = { s with send := send, bus := bus } := by
  obtain ⟨u, b, h⟩ := State.adoptHead_frame { s with send := s.send.dropHead }
  exact ⟨u, b, h⟩

theorem State.completeHead_frame (s : State) (status : SendStatus) : ∃ send bus events,
    s.completeHead status = { s with send := send, bus := bus, events := events } := by
  unfold State.completeHead
  obtain ⟨u, b, h⟩ := s.nextHead_frame
  rw [h]
  obtain ⟨e, h'⟩ := State.postAll_frame { s with send := u, bus := b } (s.send.headSent status)
  exact ⟨u, b, e, h'⟩

theorem State.stageWord_frame (s : State) (w : Word) : ∃ send, s.stageWord w = { s with send := send } := by
  unfold State.stageWord
  split
  · exact ⟨s.send, rfl⟩
  · exact ⟨_, rfl⟩

theorem State.fetchCompleted_frame (s : State) : ∃ send bus events,
    s.fetchCompleted = { s with send := send, bus := bus, events := events } := by
  unfold State.fetchCompleted
  split
  · exact ⟨_, s.bus, s.events, rfl⟩
  · exact s.completeHead_frame _
  · exact s.completeHead_frame _

theorem State.fetchFailed_frame (s : State) : ∃ send bus events,
    s.fetchFailed = { s with send := send, bus := bus, events := events } := by
  unfold State.fetchFailed
  split <;> exact s.completeHead_frame _

theorem State.afterOutcome_frame (s : State) (status : SendStatus) : ∃ send bus events counters,
    s.afterOutcome status = { s with send := send, bus := bus, events := events, counters := counters } := by
  unfold State.afterOutcome
  split
  · obtain ⟨u, b, e, h⟩ := s.completeHead_frame .done
    exact ⟨u, b, e, s.counters, h⟩
  · split
    · obtain ⟨u, b, e, h⟩ := s.completeHead_frame .cancelled
      exact ⟨u, b, e, s.counters, h⟩
    · split
      · exact ⟨_, s.bus, s.events, _, rfl⟩
      · obtain ⟨u, b, e, h⟩ := s.completeHead_frame status
        exact ⟨u, b, e, s.counters, h⟩

theorem State.endWith_frame (s : State) (status : SendStatus) (accept held : BitVec 5) :
    ∃ send bus events counters,
      s.endWith status accept held = { s with send := send, bus := bus, events := events, counters := counters } := by
  unfold State.endWith
  split
  · obtain ⟨u, b, e, c, h⟩ := State.afterOutcome_frame
      { s with send := (s.send.endAttempt).withMarks accept held } status
    exact ⟨u, b, e, c, h⟩
  · exact ⟨s.send, s.bus, s.events, s.counters, rfl⟩

theorem State.contextToStale_frame (s : State) :
    ∃ send counters, s.contextToStale = { s with send := send, counters := counters } := by
  unfold State.contextToStale
  split <;> exact ⟨_, _, rfl⟩

theorem State.ownHead_frame (s : State) (b : HeadBody) :
    ∃ send counters, s.ownHead b = { s with send := send, counters := counters } := by
  unfold State.ownHead
  dsimp only
  split <;> split <;> exact ⟨_, _, rfl⟩

theorem State.ownData_frame (s : State) (d : DataBody) :
    ∃ send counters, s.ownData d = { s with send := send, counters := counters } := by
  unfold State.ownData
  split
  · exact ⟨_, s.counters, rfl⟩
  · exact ⟨s.send, s.counters, rfl⟩
  · exact ⟨s.send, s.counters, rfl⟩
  · split
    · exact ⟨_, s.counters, rfl⟩
    · exact ⟨_, _, rfl⟩

theorem State.ownVoid_frame (s : State) : ∃ send, s.ownVoid = { s with send := send } := by
  unfold State.ownVoid
  split
  · exact ⟨_, rfl⟩
  · exact ⟨s.send, rfl⟩

theorem State.returnTruncated_frame (s : State) : ∃ send bus events counters,
    s.returnTruncated = { s with send := send, bus := bus, events := events, counters := counters } := by
  unfold State.returnTruncated
  split
  · obtain ⟨u, b, e, c, h⟩ := State.endWith_frame (s.setContext .closed) .damaged 0 0
    exact ⟨u, b, e, c, h⟩
  · exact ⟨_, s.bus, s.events, s.counters, rfl⟩
  · exact ⟨s.send, s.bus, s.events, s.counters, rfl⟩
  · exact ⟨s.send, s.bus, s.events, s.counters, rfl⟩

theorem State.returnAbandoned_frame (s : State) : ∃ send, s.returnAbandoned = { s with send := send } := by
  unfold State.returnAbandoned
  split <;> exact ⟨_, rfl⟩

theorem State.ownTail_frame (s : State) (b : TailBody) : ∃ send bus events counters,
    s.ownTail b = { s with send := send, bus := bus, events := events, counters := counters } := by
  unfold State.ownTail
  dsimp only
  split
  · obtain ⟨u, m, e, c, h⟩ := State.endWith_frame _ _ _ _
    exact ⟨u, m, e, c, h⟩
  · obtain ⟨u, m, e, c, h⟩ := State.endWith_frame _ _ _ _
    exact ⟨u, m, e, c, h⟩
  · obtain ⟨u, m, e, c, h⟩ := State.endWith_frame _ _ _ _
    exact ⟨u, m, e, c, h⟩
  · obtain ⟨u, m, e, c, h⟩ := State.endWith_frame _ _ _ _
    exact ⟨u, m, e, c, h⟩
  · exact ⟨_, s.bus, s.events, _, rfl⟩
  · exact ⟨_, s.bus, s.events, _, rfl⟩
  · exact ⟨_, s.bus, s.events, s.counters, rfl⟩

theorem State.attemptLost_frame (s : State) : ∃ send bus events counters,
    s.attemptLost = { s with send := send, bus := bus, events := events, counters := counters } := by
  unfold State.attemptLost
  split
  · obtain ⟨u, c, h⟩ := s.contextToStale_frame
    obtain ⟨v, b, e, k, h'⟩ := State.endWith_frame { s with send := u, counters := c } .lost 0 0
    exact ⟨v, b, e, k, by rw [h, h']⟩
  · exact ⟨_, s.bus, s.events, s.counters, rfl⟩

theorem State.cancelSends_frame (s : State) (tag : Halfword) : ∃ send bus events,
    s.cancelSends tag = { s with send := send, bus := bus, events := events } := by
  unfold State.cancelSends
  split
  · exact ⟨s.send, s.bus, s.events, rfl⟩
  · dsimp only
    split
    · split
      · obtain ⟨u, b, h⟩ := State.nextHead_frame _
        rw [h]
        obtain ⟨e, h'⟩ := State.postAll_frame _ _
        exact ⟨u, b, e, h'⟩
      · obtain ⟨e, h⟩ := State.postAll_frame _ _
        exact ⟨_, s.bus, e, h⟩
    · obtain ⟨e, h⟩ := State.postAll_frame _ _
      exact ⟨_, s.bus, e, h⟩

theorem State.emptySends_frame (s : State) : ∃ send bus counters,
    s.emptySends = { s with send := send, bus := bus, counters := counters } := by
  unfold State.emptySends
  split
  · exact ⟨s.send, s.bus, s.counters, rfl⟩
  · dsimp only
    split
    · exact ⟨_, s.bus, s.counters, rfl⟩
    · obtain ⟨u, c, h⟩ := State.contextToStale_frame _
      rw [h]
      obtain ⟨v, b, h'⟩ := State.nextHead_frame _
      exact ⟨v, b, c, h'⟩
    · obtain ⟨v, b, h'⟩ := State.nextHead_frame _
      exact ⟨v, b, s.counters, h'⟩

theorem State.leaveSends_frame (s : State) : ∃ send bus events counters,
    s.leaveSends = { s with send := send, bus := bus, events := events, counters := counters } := by
  unfold State.leaveSends
  obtain ⟨u, b, c, h⟩ := s.emptySends_frame
  rw [h]
  obtain ⟨e, h'⟩ := State.postAll_frame { s with send := u, bus := b, counters := c } s.send.leftEvents
  exact ⟨u, b, e, c, h'⟩

theorem State.ringLostSends_frame (s : State) : ∃ send bus, s.ringLostSends = { s with send := send, bus := bus } := by
  unfold State.ringLostSends
  dsimp only
  split
  · obtain ⟨u, b, h⟩ := State.nextHead_frame _
    exact ⟨u, b, h⟩
  · obtain ⟨u, b, h⟩ := State.nextHead_frame _
    exact ⟨u, b, h⟩
  · exact ⟨_, s.bus, rfl⟩

theorem State.enqueue_frame (s : State) (e : SendEntry) : ∃ send bus, s.enqueue e = { s with send := send, bus := bus } := by
  unfold State.enqueue
  dsimp only
  split
  · obtain ⟨u, b, h⟩ := State.adoptHead_frame _
    exact ⟨u, b, h⟩
  · exact ⟨_, s.bus, rfl⟩

/-! ### Trigger unit (Machine/Triggers.lean) -/

theorem State.requestFire_frame (s : State) (g : BitVec 3) (source : BitVec 5) (delay : Time) :
    ∃ trigger events, s.requestFire g source delay = { s with trigger := trigger, events := events } := by
  unfold State.requestFire
  split
  · split
    · exact ⟨_, _, rfl⟩
    · exact ⟨_, s.events, rfl⟩
  · exact ⟨s.trigger, _, rfl⟩

theorem State.dropTrigger_frame (s : State) : ∃ trigger, s.dropTrigger = { s with trigger := trigger } := by
  unfold State.dropTrigger
  split
  · exact ⟨s.trigger, rfl⟩
  · exact ⟨_, rfl⟩

theorem State.ownTriggerFrame_frame (s : State) (b : TriggerBody) : ∃ trigger events counters,
    s.ownTriggerFrame b = { s with trigger := trigger, events := events, counters := counters } := by
  unfold State.ownTriggerFrame
  split
  · dsimp only
    split
    · obtain ⟨t, e, h⟩ := State.requestFire_frame (s.finishTrigger .done) b.group (s.member.number.getD 0) 0
      exact ⟨t, e, s.counters, h⟩
    · exact ⟨_, _, s.counters, rfl⟩
  · exact ⟨s.trigger, s.events, _, rfl⟩

theorem State.otherTrigger_frame (s : State) (b : TriggerBody) :
    ∃ trigger events, s.otherTrigger b = { s with trigger := trigger, events := events } := by
  unfold State.otherTrigger
  split
  · exact s.requestFire_frame _ _ _
  · exact ⟨s.trigger, s.events, rfl⟩

/-- A fire changes, beyond the passing of time up to its due time, the trigger unit and the event queue. -/
theorem State.fireEntry_frame (s : State) (entry : Nat) : s.fireEntry entry = s ∨ ∃ due trigger events,
    s.fireEntry entry = { s.reach due with trigger := trigger, events := events } := by
  unfold State.fireEntry
  split
  · exact .inl rfl
  · split
    · exact .inr ⟨_, _, _, rfl⟩
    · exact .inl rfl

/-! ### Membership unit (Machine/Membership.lean) -/

/-- A change of mode changes the path, the record filter, the delivery and the send unit. Of the path it changes the phase
and the own record. -/
theorem State.leaveMode_frame (s : State) : ∃ filter delivery send,
    s.leaveMode = { s with path := { s.path with phase := .clear, insertion := none }, filter := filter, delivery := delivery,
                           send := send } := by
  unfold State.leaveMode
  dsimp only
  split
  · obtain ⟨f, d, _, h⟩ := s.filterDiscard_frame
    rw [h]; exact ⟨f, d, _, rfl⟩
  · obtain ⟨u, h⟩ := s.returnAbandoned_frame
    rw [h]; exact ⟨s.filter, s.delivery, _, rfl⟩
  · exact ⟨s.filter, s.delivery, _, rfl⟩
  · exact ⟨s.filter, s.delivery, _, rfl⟩

theorem State.openCensus_frame (s : State) : ∃ path filter delivery send member counters,
    filter.duplicates = Vector.replicate 30 none ∧ path = { s.path with phase := .clear, insertion := none, bypass := [] } ∧
    s.openCensus = { s with path := path, filter := filter, delivery := delivery, send := send, member := member,
                            counters := counters } := by
  unfold State.openCensus State.toCensusMode
  obtain ⟨f, d, u, h⟩ := s.leaveMode_frame
  rw [h]
  dsimp only
  split
  · obtain ⟨f', d', _, h'⟩ := State.filterDiscard_frame
      { s with path := { s.path with phase := .clear, insertion := none, bypass := [] }, filter := f, delivery := d,
               send := u }
    dsimp only at h'
    rw [h']
    exact ⟨_, _, d', u, _, _, rfl, rfl, rfl⟩
  · exact ⟨_, _, d, u, _, _, rfl, rfl, rfl⟩

theorem State.ringLeft_frame (s : State) (onRing : Bool) (cause : Option StateCause) : ∃ send bus events trigger,
    s.ringLeft onRing cause = { s with send := send, bus := bus, events := events, trigger := trigger } := by
  unfold State.ringLeft
  split
  · obtain ⟨u, b, h⟩ := s.ringLostSends_frame
    rw [h]
    obtain ⟨t, h'⟩ := State.dropTrigger_frame { s with send := u, bus := b }
    rw [h']
    obtain ⟨e, h''⟩ := State.postAll_frame { s with send := u, bus := b, trigger := t } (takeTurns s.order
      s.send.ringLostEvents (s.trigger.abandonEvents .ringLost) (s.entryEvents cause))
    exact ⟨u, b, e, t, h''⟩
  · obtain ⟨e, h⟩ := s.postAll_frame (s.entryEvents cause)
    exact ⟨s.send, s.bus, e, s.trigger, h⟩

/-- A census entry leaves the RESET pin, the receiver, the host port, what has left the controller, the clock and the
queue of commands as they are. -/
theorem State.censusEntry_frame (s : State) (cause : Option StateCause) :
    ∃ path filter delivery send member counters bus events trigger,
      s.censusEntry cause = { s with path := path, filter := filter, delivery := delivery, send := send, member := member,
                                     counters := counters, bus := bus, events := events, trigger := trigger } := by
  unfold State.censusEntry
  obtain ⟨p, f, d, u, m, c, _, _, h⟩ := s.openCensus_frame
  rw [h]
  obtain ⟨u', b', e, t, h'⟩ := State.ringLeft_frame (State.startAttempt
    { s with path := p, filter := f, delivery := d, send := u, member := m, counters := c }) s.onRing cause
  exact ⟨_, f, d, u', _, c, b', e, t, h'⟩

theorem State.censusEntryLeaving_frame (s : State) (cause : StateCause) :
    ∃ path filter delivery send member counters bus events trigger,
      s.censusEntryLeaving cause =
        { s with path := path, filter := filter, delivery := delivery, send := send, member := member,
                 counters := counters, bus := bus, events := events, trigger := trigger } := by
  unfold State.censusEntryLeaving
  obtain ⟨p, f, d, u, m, c, _, _, h⟩ := s.openCensus_frame
  rw [h]
  dsimp only
  obtain ⟨u', b', e, t, h'⟩ := State.ringLeft_frame _ s.onRing (some cause)
  exact ⟨p, f, d, u', _, c, b', e, t, h'⟩

theorem State.enterCensus_frame (s : State) (cause : StateCause) :
    ∃ path filter delivery send member counters bus events trigger,
      s.enterCensus cause =
        { s with path := path, filter := filter, delivery := delivery, send := send, member := member,
                 counters := counters, bus := bus, events := events, trigger := trigger } := by
  unfold State.enterCensus
  split
  · exact s.censusEntryLeaving_frame cause
  · exact s.censusEntry_frame (some cause)

theorem State.enterBarred_frame (s : State) : ∃ path filter delivery send member bus events trigger,
    s.enterBarred = { s with path := path, filter := filter, delivery := delivery, send := send, member := member,
                             bus := bus, events := events, trigger := trigger } := by
  unfold State.enterBarred
  dsimp only
  split
  · obtain ⟨f, d, u, h⟩ := s.leaveMode_frame
    rw [h]
    obtain ⟨f', d', _, h'⟩ := State.filterDiscard_frame
      { s with path := { s.path with phase := .clear, insertion := none }, filter := f, delivery := d, send := u }
    rw [h']
    obtain ⟨u', b, e, t, h''⟩ := State.ringLeft_frame _ s.onRing (some .markClash)
    exact ⟨_, _, d', u', _, b, e, t, h''⟩
  · obtain ⟨u', b, e, t, h''⟩ := State.ringLeft_frame _ s.onRing (some .markClash)
    exact ⟨_, s.filter, s.delivery, u', _, b, e, t, h''⟩

theorem State.enterRun_frame (s : State) :
    ∃ path member events, s.enterRun = { s with path := path, member := member, events := events } := ⟨_, _, _, rfl⟩

theorem State.leaveRing_frame (s : State) : ∃ path filter delivery send member events,
    s.leaveRing = { s with path := path, filter := filter, delivery := delivery, send := send, member := member,
                           events := events } := by
  unfold State.leaveRing
  obtain ⟨f, d, u, h⟩ := s.leaveMode_frame
  rw [h]
  exact ⟨_, f, d, u, _, _, rfl⟩

/-! ### Truncation (Machine/Arrivals.lean) -/

theorem State.truncate_frame (s : State) : ∃ path filter delivery counters send bus events,
    path = { s.path with phase := .clear } ∧
    s.truncate = { s with path := path, filter := filter, delivery := delivery, counters := counters, send := send,
                          bus := bus, events := events } := by
  unfold State.truncate
  dsimp only
  split
  · obtain ⟨f, d, c, _, h⟩ := State.filterTruncated_frame { s with path := { s.path with phase := .clear } }
    exact ⟨_, f, d, c, s.send, s.bus, s.events, rfl, h⟩
  · obtain ⟨u, b, e, c, h⟩ := State.returnTruncated_frame { s with path := { s.path with phase := .clear } }
    exact ⟨_, s.filter, s.delivery, c, u, b, e, rfl, h⟩
  · exact ⟨_, s.filter, s.delivery, s.counters, s.send, s.bus, s.events, rfl, rfl⟩
  · exact ⟨_, s.filter, s.delivery, s.counters, s.send, s.bus, s.events, rfl, rfl⟩

/-! ### The input phase takes no part in the send unit's and the delivery engine's work -/

theorem State.postAll_setPhase (s : State) (es : List Event) (phase : InputPhase) :
    (s.setPhase phase).postAll es = (s.postAll es).setPhase phase := by
  unfold State.postAll
  induction es generalizing s with
  | nil => rfl
  | cons e rest ih => exact ih (s.post e)

theorem State.adoptHead_setPhase (s : State) (phase : InputPhase) :
    (s.setPhase phase).adoptHead = s.adoptHead.setPhase phase := by
  unfold State.adoptHead; dsimp only [State.setPhase]
  split
  · rfl
  · split <;> rfl

theorem State.completeHead_setPhase (s : State) (status : SendStatus) (phase : InputPhase) :
    (s.setPhase phase).completeHead status = (s.completeHead status).setPhase phase := by
  have h : (s.setPhase phase).nextHead = s.nextHead.setPhase phase :=
    State.adoptHead_setPhase { s with send := s.send.dropHead } phase
  unfold State.completeHead
  rw [h, State.postAll_setPhase, State.setPhase_send]

theorem State.beginDelivery_path (s : State) (p : Path) :
    State.beginDelivery { s with path := p } = { s.beginDelivery with path := p } := by
  unfold State.beginDelivery; dsimp only
  split
  · split
    · unfold State.requestPhase; dsimp only; split <;> rfl
    · rfl
  · rfl

/-- A phase set after the end of an attempt is a phase set before it. -/
theorem State.afterOutcome_setPhase (s : State) (status : SendStatus) (phase : InputPhase) :
    (s.afterOutcome status).setPhase phase = (s.setPhase phase).afterOutcome status := by
  unfold State.afterOutcome
  split
  · exact (s.completeHead_setPhase _ phase).symm
  · rw [State.setPhase_send]
    split
    · exact (s.completeHead_setPhase _ phase).symm
    · split
      · rfl
      · exact (s.completeHead_setPhase _ phase).symm

/-! ### The loader and the ends of a request (Machine/Configuration.lean, Machine/BusAnswers.lean) -/

theorem State.loadCompleted_frame (s : State) :
    ∃ member send bus trigger delivery filter host events,
      s.loadCompleted = { s with member := member, send := send, bus := bus, trigger := trigger, delivery := delivery,
                                 filter := filter, host := host, events := events } := by
  unfold State.loadCompleted
  split
  · exact ⟨_, _, _, _, _, _, _, _, rfl⟩
  · exact ⟨s.member, s.send, s.bus, s.trigger, s.delivery, s.filter, _, _, rfl⟩

theorem State.startLoad_frame (s : State) (address : Word) : ∃ host bus,
    s.startLoad address = { s with host := host, bus := bus } := by
  obtain ⟨b, h⟩ := State.makeRequest_frame
    { s with host := { s.host with loading := true, loadAddress := some address, loadBuffer := [] } } .loader false address 20
  exact ⟨_, b, h⟩

theorem State.requestFailed_frame (s : State) (c : Client) (cause : BusCause) (address : Word) :
    ∃ send bus events delivery host,
      s.requestFailed c cause address =
        { s with send := send, bus := bus, events := events, delivery := delivery, host := host } := by
  unfold State.requestFailed
  split
  · exact ⟨s.send, s.bus, _, s.delivery, _, rfl⟩
  · obtain ⟨u, b, e, h⟩ := s.fetchFailed_frame
    exact ⟨u, b, e, s.delivery, s.host, h⟩
  · obtain ⟨d, e, h⟩ := s.failDelivery_frame cause address
    exact ⟨s.send, s.bus, e, d, s.host, h⟩

theorem State.requestCompleted_frame (s : State) (c : Client) :
    ∃ member send bus trigger delivery filter host events,
      s.requestCompleted c = { s with member := member, send := send, bus := bus, trigger := trigger,
                                      delivery := delivery, filter := filter, host := host, events := events } := by
  unfold State.requestCompleted
  split
  · exact s.loadCompleted_frame
  · obtain ⟨u, b, e, h⟩ := s.fetchCompleted_frame
    exact ⟨s.member, u, b, s.trigger, s.delivery, s.filter, s.host, e, h⟩
  · obtain ⟨d, b, e, h⟩ := s.deliveryRequestCompleted_frame
    exact ⟨s.member, s.send, b, s.trigger, d, s.filter, s.host, e, h⟩

theorem State.transferWord_frame (s : State) (b : Burst) (r : Request) (data : Word) :
    ∃ host send outside, s.transferWord b r data = { s with host := host, send := send, outside := outside } := by
  unfold State.transferWord
  split
  · exact ⟨_, s.send, s.outside, rfl⟩
  · obtain ⟨u, h⟩ := s.stageWord_frame data
    exact ⟨s.host, u, s.outside, h⟩
  · exact ⟨s.host, s.send, _, rfl⟩

end Sys2Proof.Machine
end

