-- ==== Sys2Proof/Laws/Steps.lean ====
section
/-! SUPPORT. Lemmas about the shapes that the meanings share: a command that acts unless RESET is asserted, the expiry of a
timer, an arriving frame and what each block is when it is handled, a whole record written to COMMAND. -/

namespace Sys2Proof.Machine

/-! ### Commands and timers -/

theorem State.live_released (s : State) (o : Occasion) (act : State → State) (h : s.resetPin = false) :
    s.live o act = act (s.at o) := by simp [State.live, h]

theorem State.live_asserted (s : State) (o : Occasion) (act : State → State) (h : s.resetPin = true) :
    s.live o act = s.at o := by simp [State.live, h]

theorem State.expiry_running (s : State) (timer : State → Timer) (act : State → State) (t : Time)
    (h : timer s = some t) : s.expiry timer act = act (s.reach t) := by simp [State.expiry, h]

theorem State.expiry_stopped (s : State) (timer : State → Timer) (act : State → State) (h : timer s = none) :
    s.expiry timer act = s := by simp [State.expiry, h]

/-! ### An arriving frame -/

/-- A frame judged is a passing of time, up to the receiver's two items and the frame that waited. -/
theorem State.judged_eq (s : State) (o : Occasion) (silence : Option Time) : ∃ receiver path outside,
    receiver.up = s.receiver.up ∧ (s.at o).frameJudged silence =
      { (s.at o).reach s.receiver.nextFrame with receiver := receiver, path := path, outside := outside } := by
  obtain ⟨r, p, w, h, h'⟩ := (s.at o).frameJudged_frame silence
  exact ⟨r, p, w, by simpa using h, by simpa using h'⟩

/-- What the frame judged leaves of the path: the phase, and a place at least for each frame in the bypass buffer; the frame
that waited has gone. -/
theorem State.judged_path (s : State) (o : Occasion) (silence : Option Time) : ∃ u v : State,
    u = (s.at o).reach s.receiver.nextFrame ∧ v = (s.at o).frameJudged silence ∧
    v.path.phase = u.path.phase ∧ v.path.bypass = u.path.bypass ∧
    v.path.waiting = none ∧ v.path.ownCensus = u.path.ownCensus ∧ v.path.insertion = u.path.insertion := by
  refine ⟨_, _, rfl, rfl, ?_⟩
  simp only [State.frameJudged, State.flushWaiting, State.at_receiver]
  split
  · exact ⟨rfl, rfl, rfl, rfl, rfl⟩
  next h => exact ⟨rfl, rfl, h, rfl, rfl⟩

theorem State.heard_eq (s : State) (o : Occasion) : ∃ receiver path outside, receiver.up = s.receiver.up ∧
    s.heard o = { (s.at o).reach s.receiver.nextFrame with receiver := receiver, path := path, outside := outside } :=
  s.judged_eq o (some 0)

theorem State.heardRaw_eq (s : State) (o : Occasion) (r : RawFrame) : ∃ receiver path outside, receiver.up = s.receiver.up ∧
    s.heardRaw o r = { (s.at o).reach s.receiver.nextFrame with receiver := receiver, path := path, outside := outside } :=
  s.judged_eq o r.silence

/-- The state in which a good frame is handled and that in which a bad one is differ in the receiver's link-loss timer
alone. -/
theorem State.heardRaw_heard (s : State) (o : Occasion) (r : RawFrame) :
    s.heardRaw o r = { s.heard o with receiver := (s.heardRaw o r).receiver } := by
  simp only [State.heardRaw, State.heard, State.frameJudged, State.flushWaiting]
  split <;> rfl

@[simp] theorem State.heard_resetPin (s : State) (o : Occasion) : (s.heard o).resetPin = s.resetPin := by
  obtain ⟨_, _, _, _, h⟩ := s.heard_eq o; simp [h]
@[simp] theorem State.heard_filter (s : State) (o : Occasion) : (s.heard o).filter = s.filter := by
  obtain ⟨_, _, _, _, h⟩ := s.heard_eq o; simp [h]
@[simp] theorem State.heard_delivery (s : State) (o : Occasion) : (s.heard o).delivery = s.delivery := by
  obtain ⟨_, _, _, _, h⟩ := s.heard_eq o; simp [h]
@[simp] theorem State.heard_bus (s : State) (o : Occasion) : (s.heard o).bus = s.bus := by
  obtain ⟨_, _, _, _, h⟩ := s.heard_eq o; simp [h]
@[simp] theorem State.heard_host (s : State) (o : Occasion) : (s.heard o).host = s.host := by
  obtain ⟨_, _, _, _, h⟩ := s.heard_eq o; simp [h]
@[simp] theorem State.heard_events (s : State) (o : Occasion) : (s.heard o).events = s.events := by
  obtain ⟨_, _, _, _, h⟩ := s.heard_eq o; simp [h]
@[simp] theorem State.heard_counters (s : State) (o : Occasion) : (s.heard o).counters = s.counters := by
  obtain ⟨_, _, _, _, h⟩ := s.heard_eq o; simp [h]
@[simp] theorem State.heard_pending (s : State) (o : Occasion) : (s.heard o).pending = s.pending := by
  obtain ⟨_, _, _, _, h⟩ := s.heard_eq o; simp [h]
@[simp] theorem State.heard_member_station (s : State) (o : Occasion) : (s.heard o).member.station = s.member.station := by
  obtain ⟨_, _, _, _, h⟩ := s.heard_eq o; simp [h]
@[simp] theorem State.heard_member_sub (s : State) (o : Occasion) : (s.heard o).member.sub = s.member.sub := by
  obtain ⟨_, _, _, _, h⟩ := s.heard_eq o; simp [h]
@[simp] theorem State.heard_member_mark (s : State) (o : Occasion) : (s.heard o).member.mark = s.member.mark := by
  obtain ⟨_, _, _, _, h⟩ := s.heard_eq o; simp [h]
@[simp] theorem State.heard_member_leavePending (s : State) (o : Occasion) : (s.heard o).member.leavePending = s.member.leavePending := by
  obtain ⟨_, _, _, _, h⟩ := s.heard_eq o; simp [h]
@[simp] theorem State.heard_member_provisional (s : State) (o : Occasion) : (s.heard o).member.provisional = s.member.provisional := by
  obtain ⟨_, _, _, _, h⟩ := s.heard_eq o; simp [h]
@[simp] theorem State.heard_member_number (s : State) (o : Occasion) : (s.heard o).member.number = s.member.number := by
  obtain ⟨_, _, _, _, h⟩ := s.heard_eq o; simp [h]
@[simp] theorem State.heard_member_ringSize (s : State) (o : Occasion) : (s.heard o).member.ringSize = s.member.ringSize := by
  obtain ⟨_, _, _, _, h⟩ := s.heard_eq o; simp [h]
@[simp] theorem State.heard_member_hopTime (s : State) (o : Occasion) : (s.heard o).member.hopTime = s.member.hopTime := by
  obtain ⟨_, _, _, _, h⟩ := s.heard_eq o; simp [h]
@[simp] theorem State.heard_member_pendingSize (s : State) (o : Occasion) : (s.heard o).member.pendingSize = s.member.pendingSize := by
  obtain ⟨_, _, _, _, h⟩ := s.heard_eq o; simp [h]
@[simp] theorem State.heard_member_pendingHop (s : State) (o : Occasion) : (s.heard o).member.pendingHop = s.member.pendingHop := by
  obtain ⟨_, _, _, _, h⟩ := s.heard_eq o; simp [h]
@[simp] theorem State.heard_member_epoch (s : State) (o : Occasion) : (s.heard o).member.epoch = s.member.epoch := by
  obtain ⟨_, _, _, _, h⟩ := s.heard_eq o; simp [h]
@[simp] theorem State.heard_member_attempts (s : State) (o : Occasion) : (s.heard o).member.attempts = s.member.attempts := by
  obtain ⟨_, _, _, _, h⟩ := s.heard_eq o; simp [h]
@[simp] theorem State.heard_member_censusTimer (s : State) (o : Occasion) : (s.heard o).member.censusTimer = s.member.censusTimer := by
  obtain ⟨_, _, _, _, h⟩ := s.heard_eq o; simp [h]
@[simp] theorem State.heard_member_isolationTimer (s : State) (o : Occasion) : (s.heard o).member.isolationTimer = s.member.isolationTimer := by
  obtain ⟨_, _, _, _, h⟩ := s.heard_eq o; simp [h]
@[simp] theorem State.heard_member_departTimer (s : State) (o : Occasion) : (s.heard o).member.departTimer = s.member.departTimer := by
  obtain ⟨_, _, _, _, h⟩ := s.heard_eq o; simp [h]
@[simp] theorem State.heard_member_roster (s : State) (o : Occasion) : (s.heard o).member.roster = s.member.roster := by
  obtain ⟨_, _, _, _, h⟩ := s.heard_eq o; simp [h]
@[simp] theorem State.heard_send_queue (s : State) (o : Occasion) : (s.heard o).send.queue = s.send.queue := by
  obtain ⟨_, _, _, _, h⟩ := s.heard_eq o; simp [h]
/-- The halfwords of the head entry's payload that have been read stay, in the staging buffer or waiting for it. -/
theorem State.heard_send_payload (s : State) (o : Occasion) :
    (s.heard o).send.staging ++ (s.heard o).send.incoming = s.send.staging ++ s.send.incoming := by
  obtain ⟨_, _, _, _, h⟩ := s.heard_eq o
  rw [h]; exact (State.reach_send_payload _ _).trans (s.at_send_payload o)
@[simp] theorem State.heard_send_seq (s : State) (o : Occasion) : (s.heard o).send.seq = s.send.seq := by
  obtain ⟨_, _, _, _, h⟩ := s.heard_eq o; simp [h]
@[simp] theorem State.heard_send_attempt (s : State) (o : Occasion) : (s.heard o).send.attempt = s.send.attempt := by
  obtain ⟨_, _, _, _, h⟩ := s.heard_eq o; simp [h]
@[simp] theorem State.heard_send_cancelRequested (s : State) (o : Occasion) : (s.heard o).send.cancelRequested = s.send.cancelRequested := by
  obtain ⟨_, _, _, _, h⟩ := s.heard_eq o; simp [h]
@[simp] theorem State.heard_send_disposition (s : State) (o : Occasion) : (s.heard o).send.disposition = s.send.disposition := by
  obtain ⟨_, _, _, _, h⟩ := s.heard_eq o; simp [h]
@[simp] theorem State.heard_send_context (s : State) (o : Occasion) : (s.heard o).send.context = s.send.context := by
  obtain ⟨_, _, _, _, h⟩ := s.heard_eq o; simp [h]
@[simp] theorem State.heard_send_nextIndex (s : State) (o : Occasion) : (s.heard o).send.nextIndex = s.send.nextIndex := by
  obtain ⟨_, _, _, _, h⟩ := s.heard_eq o; simp [h]
@[simp] theorem State.heard_send_fault (s : State) (o : Occasion) : (s.heard o).send.fault = s.send.fault := by
  obtain ⟨_, _, _, _, h⟩ := s.heard_eq o; simp [h]
@[simp] theorem State.heard_send_accept (s : State) (o : Occasion) : (s.heard o).send.accept = s.send.accept := by
  obtain ⟨_, _, _, _, h⟩ := s.heard_eq o; simp [h]
@[simp] theorem State.heard_send_held (s : State) (o : Occasion) : (s.heard o).send.held = s.send.held := by
  obtain ⟨_, _, _, _, h⟩ := s.heard_eq o; simp [h]
@[simp] theorem State.heard_send_retryLimit (s : State) (o : Occasion) : (s.heard o).send.retryLimit = s.send.retryLimit := by
  obtain ⟨_, _, _, _, h⟩ := s.heard_eq o; simp [h]
@[simp] theorem State.heard_trigger_group (s : State) (o : Occasion) : (s.heard o).trigger.group = s.trigger.group := by
  obtain ⟨_, _, _, _, h⟩ := s.heard_eq o; simp [h]
@[simp] theorem State.heard_trigger_returnTimer (s : State) (o : Occasion) : (s.heard o).trigger.returnTimer = s.trigger.returnTimer := by
  obtain ⟨_, _, _, _, h⟩ := s.heard_eq o; simp [h]
@[simp] theorem State.heard_trigger_membership (s : State) (o : Occasion) : (s.heard o).trigger.membership = s.trigger.membership := by
  obtain ⟨_, _, _, _, h⟩ := s.heard_eq o; simp [h]
@[simp] theorem State.heard_trigger_schedule (s : State) (o : Occasion) : (s.heard o).trigger.schedule = s.trigger.schedule := by
  obtain ⟨_, _, _, _, h⟩ := s.heard_eq o; simp [h]
@[simp] theorem State.heard_trigger_pulseTimer (s : State) (o : Occasion) : (s.heard o).trigger.pulseTimer = s.trigger.pulseTimer := by
  obtain ⟨_, _, _, _, h⟩ := s.heard_eq o; simp [h]
@[simp] theorem State.heard_trigger_pin (s : State) (o : Occasion) : (s.heard o).trigger.pin = s.trigger.pin := by
  obtain ⟨_, _, _, _, h⟩ := s.heard_eq o; simp [h]
@[simp] theorem State.heard_up (s : State) (o : Occasion) : (s.heard o).receiver.up = s.receiver.up := by
  obtain ⟨_, _, _, h, h'⟩ := s.heard_eq o; rw [h']; exact h
@[simp] theorem State.heard_order (s : State) (o : Occasion) : (s.heard o).order = o.order := by
  obtain ⟨_, _, _, _, h⟩ := s.heard_eq o; simp [h]
@[simp] theorem State.heard_now (s : State) (o : Occasion) :
    (s.heard o).now = max (max s.now o.time) s.receiver.nextFrame := by
  obtain ⟨_, _, _, _, h⟩ := s.heard_eq o; simp [h]
@[simp] theorem State.heard_phase (s : State) (o : Occasion) : (s.heard o).path.phase = s.path.phase := by
  obtain ⟨u, v, rfl, rfl, h, -⟩ := s.judged_path o (some 0); simpa [State.heard] using h
@[simp] theorem State.heard_waiting (s : State) (o : Occasion) : (s.heard o).path.waiting = none := by
  obtain ⟨u, v, -, rfl, -, -, h, -⟩ := s.judged_path o (some 0); exact h
theorem State.heard_bypass_length (s : State) (o : Occasion) :
    (s.heard o).path.bypass.length ≤ s.path.bypass.length := by
  obtain ⟨u, v, rfl, rfl, -, h, -⟩ := s.judged_path o (some 0)
  rw [State.heard, h]; exact Nat.le_trans (State.reach_bypass_length _ _) (s.at_bypass_length o)
@[simp] theorem State.heard_mode (s : State) (o : Occasion) : (s.heard o).mode = s.mode := by simp [State.mode]
@[simp] theorem State.heard_onRing (s : State) (o : Occasion) : (s.heard o).onRing = s.onRing := by simp [State.onRing]

theorem State.heardRaw_bypass_length (s : State) (o : Occasion) (r : RawFrame) :
    (s.heardRaw o r).path.bypass.length ≤ s.path.bypass.length := by
  rw [s.heardRaw_heard]; exact s.heard_bypass_length o

@[simp] theorem State.heardRaw_mode (s : State) (o : Occasion) (r : RawFrame) : (s.heardRaw o r).mode = s.mode := by
  rw [s.heardRaw_heard]; exact s.heard_mode o

/-- A frame that the controller can receive is handled in the state `s.heard o`. -/
theorem arrivalStep_receiving (o : Occasion) (handle : State → State) (s : State) (h : s.Receiving) :
    arrivalStep o (some 0) handle s = withinBypass (handle (s.heard o)) := by
  simp [arrivalStep, State.live, h.1, State.receive, State.heard, h.2.1]

/-- A frame that arrives as its content bits is handled in the state `s.heardRaw o r`. -/
theorem arrivalStep_receivingRaw (o : Occasion) (r : RawFrame) (handle : State → State) (s : State) (h : s.Receiving) :
    arrivalStep o r.silence handle s = withinBypass (handle (s.heardRaw o r)) := by
  simp [arrivalStep, State.live, h.1, State.receive, State.heardRaw, h.2.1]

/-- A frame that arrives while the link is DOWN and does not fall together with the link loss, or while RESET is asserted, is
not delivered. -/
theorem arrivalStep_deaf (o : Occasion) (silence : Option Time) (handle : State → State) (s : State)
    (h : s.resetPin = true ∨ s.receiver.up = false ∧ (s.at o).endsAtLoss silence = false) :
    arrivalStep o silence handle s = withinBypass (s.at o) := by
  rcases h with h | h <;> simp [arrivalStep, State.live, State.receive, h]

/-- A frame that falls together with the link loss, which has been taken first, is handled with the link UP again. -/
theorem arrivalStep_atLoss (o : Occasion) (handle : State → State) (s : State) (hr : s.resetPin = false)
    (hu : s.receiver.up = false) (hl : s.receiver.lostAt = some (max (max s.now o.time) s.receiver.nextFrame)) :
    arrivalStep o (some 0) handle s = withinBypass (handle (s.heard o).symbolArrives) := by
  simp [arrivalStep, State.live, hr, State.receive, State.heard, hu, State.endsAtLoss, hl]

theorem withinBypass_next {s : State} (h : s.path.bypass.length ≤ 72) : withinBypass s = .next s := by
  simp [withinBypass, h]

/-- Whatever a step with an arriving frame answers, it is the state itself, within the buffer's capacity, or the fault. -/
theorem withinBypass_cases (s : State) :
    withinBypass s = .next s ∧ s.path.bypass.length ≤ 72 ∨
      withinBypass s = .fault .bypassOverrun ∧ 72 < s.path.bypass.length := by
  unfold withinBypass; split
  next h => exact .inl ⟨rfl, h⟩
  next h => exact .inr ⟨rfl, by omega⟩

theorem State.cutThrough_bypass (s : State) (f : Frame) : (s.cutThrough f).path.bypass = s.path.bypass := by
  unfold State.cutThrough; split <;> rfl

/-- A forwarded frame takes at most one place of the bypass buffer. -/
theorem State.forward_bypass_length (s : State) (f : Frame) :
    (s.forward f).path.bypass.length ≤ s.path.bypass.length + 1 := by
  have h : s.drainAtBoundary.path.bypass.length ≤ s.path.bypass.length := by
    unfold State.drainAtBoundary
    split
    · exact (s.sendItem_passes .buffered).bypass.length_le
    · exact Nat.le_refl _
  unfold State.forward; dsimp only; split
  · simpa using h
  · rw [State.cutThrough_bypass]; omega

theorem State.overtake_bypass (s : State) (f : Frame) : (s.overtake f).path.bypass = s.path.bypass := by
  obtain ⟨p, o, x, t, a, d, h, hp⟩ := s.overtake_frame f
  rw [h]; exact hp

theorem withinBypass_forward {s : State} (f : Frame) (h : s.path.bypass.length < 72) :
    withinBypass (s.forward f) = .next (s.forward f) :=
  withinBypass_next (Nat.le_trans (s.forward_bypass_length f) h)

theorem withinBypass_overtake {s : State} (f : Frame) (h : s.path.bypass.length < 72) :
    withinBypass (s.overtake f) = .next (s.overtake f) :=
  withinBypass_next (by rw [State.overtake_bypass]; omega)

theorem withinBypass_cutThrough {s : State} (f : Frame) (h : s.path.bypass.length < 72) :
    withinBypass (s.cutThrough f) = .next (s.cutThrough f) :=
  withinBypass_next (by rw [State.cutThrough_bypass]; omega)

/-! ### Truncation, and a record written to COMMAND -/

/-- A row that names the sending of the item the arbiter chooses is its sending; of another one, nothing. -/
theorem State.sendIfNext_chosen (s : State) (i : Item) (h : s.nextItem = some i) : s.sendIfNext i = s.sendItem i := by
  simp [State.sendIfNext, h]

theorem State.sendIfNext_other (s : State) (i : Item) (h : s.nextItem ≠ some i) : s.sendIfNext i = s := by
  simp [State.sendIfNext, h]

/-- With no record open on the input a truncation changes nothing. -/
theorem State.truncate_clear (s : State) (h : s.path.phase = .clear) : s.truncate = s := by
  obtain ⟨⟩ := s
  simp_all [State.truncate]
  cases ‹Path›; simp_all

/-- A record written with no command being collected is judged at once. -/
theorem State.writeRecord_ready (s : State) (c : HostCommand) (h : s.host.collector = none) :
    s.writeRecord c = State.setStatus (s.judge c).2 (s.judge c).1 c.code c.words.length := by
  simp [State.writeRecord, h]

end Sys2Proof.Machine
end

