-- ==== Sys2Proof/Laws/Tables.lean ====
section
/-! SUPPORT. Read after write for every table, list and record of words that the machine updates: the roster and the
duplicate table, the delivery rings, the bus master's requests, the receive store's newest entry, and the record of words
written to local memory with its canonical form; and what one step of the frame check's division does. -/

namespace Sys2Proof.Machine

/-! ### The frame check (R184) -/

/-- The bits of the remainder after one step: those before, moved up by one, with x + 1 added when x^6 came up. -/
theorem checkStep_getLsbD (r : BitVec 6) (b : Bool) (i : Nat) : (checkStep r b).getLsbD i =
    if i = 0 then b ^^ r.getLsbD 5
    else if i = 1 then r.getLsbD 0 ^^ r.getLsbD 5
    else decide (i < 6) && r.getLsbD (i - 1) := by
  have low : ∀ (r : BitVec 6) (b : Bool) (i : Fin 6), (checkStep r b).getLsbD i.val =
      if i.val = 0 then b ^^ r.getLsbD 5
      else if i.val = 1 then r.getLsbD 0 ^^ r.getLsbD 5
      else r.getLsbD (i.val - 1) := by decide
  by_cases h : i < 6
  · simpa [h] using low r b ⟨i, h⟩
  · have hi : i ≠ 0 ∧ i ≠ 1 := by omega
    simp [h, hi, BitVec.getLsbD_of_ge _ _ (by omega : 6 ≤ i)]

/-- One step of the division: from `p` = `q` · (x^6 + x + 1) + `r`, the same for `p` · x + `b`, whose quotient takes in the
top bit of `r`. -/
theorem checkStep_divides (q p q' : BitVec 40) (r : BitVec 6) (b : Bool)
    (hp : p = (q <<< 6) ^^^ (q <<< 1) ^^^ q ^^^ r.setWidth 40)
    (hq : q' = (q <<< 1) ^^^ (BitVec.ofBool (r.getLsbD 5)).setWidth 40) :
    (p <<< 1) ^^^ (BitVec.ofBool b).setWidth 40 =
      (q' <<< 6) ^^^ (q' <<< 1) ^^^ q' ^^^ (checkStep r b).setWidth 40 := by
  subst hp hq
  apply BitVec.eq_of_getLsbD_eq
  intro i hi
  simp only [BitVec.getLsbD_xor, BitVec.getLsbD_shiftLeft, BitVec.getLsbD_setWidth, checkStep_getLsbD,
    BitVec.getLsbD_ofBool]
  by_cases h : i < 8
  · interval_cases i <;> simp [Bool.xor_comm, Bool.xor_left_comm]
  · have h' : 0 < i ∧ ¬ i = 0 ∧ i ≠ 1 ∧ ¬ i < 6 ∧ ¬ i < 7 ∧ ¬ i - 1 < 1 ∧ ¬ i - 6 < 1 ∧ i - 1 < 40 ∧
        i - 6 < 40 ∧ ¬ i - 1 = 0 ∧ ¬ i - 6 = 0 ∧ 6 ≤ i - 1 := by omega
    simp [hi, h', Nat.sub_sub, Nat.add_comm]

/-! ### Tables indexed by ring number (R45, R76) -/

theorem tableEntry_eq {w : Nat} (t : Vector (Option (BitVec w)) 30) (n : BitVec 5) :
    tableEntry t n = if h : n.toNat - 1 < 30 then t[n.toNat - 1] else none := by
  unfold tableEntry
  split
  next h => simp [Vector.getElem?_eq_getElem h]
  next h => simp [Vector.getElem?_eq_none (by omega : 30 ≤ n.toNat - 1)]

/-- A table read back at the ring number that was set. -/
theorem tableEntry_tableSet_self {w : Nat} (t : Vector (Option (BitVec w)) 30) (n : BitVec 5) (x : Option (BitVec w))
    (h : n.toNat ≤ 30) : tableEntry (tableSet t n x) n = x := by
  have hn : n.toNat - 1 < 30 := by omega
  simp [tableEntry_eq, tableSet, hn]

/-- The other ring numbers keep their entries. -/
theorem tableEntry_tableSet_ne {w : Nat} (t : Vector (Option (BitVec w)) 30) (n m : BitVec 5) (x : Option (BitVec w))
    (hn : 1 ≤ n.toNat) (hm : 1 ≤ m.toNat) (h : m ≠ n) : tableEntry (tableSet t n x) m = tableEntry t m := by
  have hne : n.toNat - 1 ≠ m.toNat - 1 := fun e => h (BitVec.eq_of_toNat_eq (by omega))
  simp only [tableEntry_eq, tableSet]
  split
  next hb => exact Vector.getElem_setIfInBounds_ne hb hne
  · rfl

@[simp] theorem tableEntry_empty {w : Nat} (n : BitVec 5) :
    tableEntry (Vector.replicate 30 (none : Option (BitVec w))) n = none := by
  simp [tableEntry_eq]

/-- The roster's entry at position `i` after an entry was set. -/
theorem tableSet_getElem {w : Nat} (t : Vector (Option (BitVec w)) 30) (n : BitVec 5) (x : Option (BitVec w))
    (i : Nat) (h : i < 30) : (tableSet t n x)[i] = if n.toNat - 1 = i then x else t[i] := by
  simp [tableSet, Vector.getElem_setIfInBounds]

/-! ### Delivery rings (R101) -/

@[simp] theorem Delivery.setRing_ring_self (d : Delivery) (r : BitVec 2) (x : DeliveryRing) :
    (d.setRing r x).ring r = x := by simp [Delivery.setRing, Delivery.ring]

theorem Delivery.setRing_ring_ne (d : Delivery) (r q : BitVec 2) (x : DeliveryRing) (h : q ≠ r) :
    (d.setRing r x).ring q = d.ring q := by
  have : r.toNat ≠ q.toNat := fun e => h (BitVec.eq_of_toNat_eq e.symm)
  simp [Delivery.setRing, Delivery.ring, this]

@[simp] theorem Delivery.setRing_store (d : Delivery) (r : BitVec 2) (x : DeliveryRing) :
    (d.setRing r x).store = d.store := rfl

@[simp] theorem Delivery.setRing_engine (d : Delivery) (r : BitVec 2) (x : DeliveryRing) :
    (d.setRing r x).engine = d.engine := rfl

theorem Delivery.setRing_getElem (d : Delivery) (r : BitVec 2) (x : DeliveryRing) (i : Nat) (h : i < 4) :
    (d.setRing r x).rings[i] = if r.toNat = i then x else d.rings[i] := by
  simp [Delivery.setRing, Vector.getElem_set]

/-! ### Requests of the bus master (R138) -/

@[simp] theorem BusMaster.setRequest_request_self (b : BusMaster) (c : Client) (r : Option Request) :
    (b.setRequest c r).request c = r := by cases c <;> rfl

theorem BusMaster.setRequest_request_ne (b : BusMaster) (c k : Client) (r : Option Request) (h : k ≠ c) :
    (b.setRequest c r).request k = b.request k := by cases c <;> cases k <;> first | rfl | exact absurd rfl h

@[simp] theorem BusMaster.setRequest_burst (b : BusMaster) (c : Client) (r : Option Request) :
    (b.setRequest c r).burst = b.burst := by cases c <;> rfl

@[simp] theorem BusMaster.setRequest_timeout (b : BusMaster) (c : Client) (r : Option Request) :
    (b.setRequest c r).timeout = b.timeout := by cases c <;> rfl

@[simp] theorem BusMaster.setRequest_lastGrant (b : BusMaster) (c : Client) (r : Option Request) :
    (b.setRequest c r).lastGrant = b.lastGrant := by cases c <;> rfl

@[simp] theorem BusMaster.setRequest_burstLength (b : BusMaster) (c : Client) (r : Option Request) :
    (b.setRequest c r).burstLength = b.burstLength := by cases c <;> rfl

@[simp] theorem BusMaster.setRequest_order (b : BusMaster) (c : Client) (r : Option Request) :
    (b.setRequest c r).order = b.order := by cases c <;> rfl

/-! ### The newest entry of the receive store (R82, R87, R98) -/

@[simp] theorem storeHalfword_append (older : List StoreEntry) (e : StoreEntry) (w : Halfword) :
    storeHalfword (older ++ [e]) w = older ++ [{ e with payload := e.payload ++ [w] }] := by
  simp [storeHalfword]

@[simp] theorem completeNewest_append (older : List StoreEntry) (e : StoreEntry) :
    completeNewest (older ++ [e]) = older ++ [{ e with state := .complete }] := by
  simp [completeNewest]

theorem placesUsed_append (a b : List StoreEntry) : placesUsed (a ++ b) = placesUsed a + placesUsed b := by
  simp [placesUsed]

theorem placesUsed_cons (e : StoreEntry) (rest : List StoreEntry) :
    placesUsed (e :: rest) = (e.length.toNat + 1) + placesUsed rest := rfl

/-- What a FILLING entry at the newest end leaves behind: the older entries, and one reservation fewer. -/
theorem State.dropFilling_append (s : State) (older : List StoreEntry) (e : StoreEntry)
    (h : s.delivery.store = older ++ [e]) (hf : e.state = .filling) :
    s.dropFilling =
      { s with
        delivery := Delivery.setRing { s.delivery with store := older } e.ring
          { s.delivery.ring e.ring with reserved := (s.delivery.ring e.ring).reserved - 1 } } := by
  simp [State.dropFilling, h, hf, Delivery.ring, DeliveryRing.unreserve]

/-- Nothing is dropped where no entry is FILLING. -/
theorem State.dropFilling_none (s : State) (h : ∀ e ∈ s.delivery.store, e.state ≠ .filling) : s.dropFilling = s := by
  unfold State.dropFilling
  split
  next e he => simp [h e (List.mem_of_getLast? he)]
  · rfl

/-! ### The event queue (R167, R169) -/

theorem EventQueue.post_current (q : EventQueue) (e : Event) : (q.post e).current = q.current := by
  unfold EventQueue.post; split <;> rfl

theorem EventQueue.post_enable (q : EventQueue) (e : Event) : (q.post e).enable = q.enable := by
  unfold EventQueue.post; split <;> rfl

/-- A posting never takes the words used above 128. -/
theorem EventQueue.post_used_le (q : EventQueue) (e : Event) (h : q.used ≤ 128) : (q.post e).used ≤ 128 := by
  unfold EventQueue.post
  split
  next hf => simp [EventQueue.used, EventQueue.free] at *; omega
  · exact h

/-! ### Words written to local memory -/

/-- The record of written words has strictly rising addresses after a write if it had before. -/
theorem writeWord_rising (mem : List (Nat × Word)) (a : Nat) (w : Word) (h : (mem.map (·.1)).Pairwise (· < ·)) :
    ((writeWord mem a w).map (·.1)).Pairwise (· < ·) := by
  have key : ∀ (m : List (Nat × Word)) (c : Nat), (∀ x ∈ m.map (·.1), c < x) → c < a →
      ∀ x ∈ (writeWord m a w).map (·.1), c < x := by
    intro m c
    induction m with
    | nil => intro _ hc x hx; simp [writeWord] at hx; omega
    | cons p rest ih =>
      intro hm hc x hx
      simp only [List.map_cons, List.mem_cons, forall_eq_or_imp] at hm
      unfold writeWord at hx
      split at hx
      · simp only [List.map_cons, List.mem_cons] at hx
        rcases hx with rfl | rfl | hx
        · exact hc
        · exact hm.1
        · exact hm.2 x hx
      · split at hx
        · simp only [List.map_cons, List.mem_cons] at hx
          rcases hx with rfl | hx
          · exact hc
          · exact hm.2 x hx
        · simp only [List.map_cons, List.mem_cons] at hx
          rcases hx with rfl | hx
          · exact hm.1
          · exact ih hm.2 hc x hx
  induction mem with
  | nil => simp [writeWord]
  | cons p rest ih =>
    obtain ⟨b, v⟩ := p
    simp only [List.map_cons, List.pairwise_cons] at h
    unfold writeWord
    split
    next hab =>
      simp only [List.map_cons, List.pairwise_cons, List.mem_cons]
      refine ⟨?_, h⟩
      rintro x (rfl | hx)
      · exact hab
      · exact Nat.lt_trans hab (h.1 x hx)
    next hab =>
      split
      next heq => subst heq; simpa using h
      next hne =>
        simp only [List.map_cons, List.pairwise_cons]
        exact ⟨key rest b h.1 (by omega), ih h.2⟩

/-- The word written at an address is read back there. -/
theorem writtenWord_writeWord_self (mem : List (Nat × Word)) (a : Nat) (w : Word) :
    writtenWord (writeWord mem a w) a = some w := by
  unfold writtenWord
  induction mem with
  | nil => simp [writeWord]
  | cons p rest ih =>
    obtain ⟨b, v⟩ := p
    unfold writeWord
    split
    · simp
    · split
      · simp
      next hne =>
        have hab : (a == b) = false := by simpa using hne
        simpa [List.lookup_cons, hab] using ih

/-- Every other address keeps its word. -/
theorem writtenWord_writeWord_ne (mem : List (Nat × Word)) (a b : Nat) (w : Word) (h : b ≠ a) :
    writtenWord (writeWord mem a w) b = writtenWord mem b := by
  have hba : (b == a) = false := by simpa using h
  unfold writtenWord
  induction mem with
  | nil => simp [writeWord, List.lookup_cons, hba]
  | cons p rest ih =>
    obtain ⟨c, v⟩ := p
    unfold writeWord
    split
    · simp [List.lookup_cons, hba]
    · split
      next heq => subst heq; simp [List.lookup_cons, hba]
      · simp only [List.lookup_cons]; rw [ih]

end Sys2Proof.Machine
end

