-- ==== Sys2Proof/Tests/Slice0.lean ====
section
/-! SUPPORT. Tests of one step each, the worked figures of the spec, an ill-formed command for each check of
`Instr.wellFormed`, and, for every statement with hypotheses, a witness that a concrete state and operands meet them. Each
expected value comes from the spec's text (the rule or section is named), not from the model. -/

set_option maxRecDepth 20000

namespace Sys2Proof.Tests

open Sys2Proof.Machine

/-! ### Small states -/

/-- An occasion at moment 0. -/
def o0 : Occasion := { time := 0, order := [] }

/-- The state after a command; the state itself where the command stops. -/
def after (c : Instr) (s : State) : State :=
  match exec c s with
  | .next t => t
  | .fault _ => s
  | .refused _ => s

/-- The link is UP and frames may arrive. -/
def up : Receiver := { up := true, lossTimer := some 3200, lostAt := none, nextFrame := 0 }

/-- Right after reset with the link UP. -/
def fresh : State := { State.reset with receiver := up }

/-- A configured station with mark 77 in the given station state, on no ring. -/
def off (st : StationState) : State := { fresh with member := { Membership.atReset with station := st, mark := 77 } }

/-- Station 2 of the ring of 10.1: mark 77, N 4, hop time 280, epoch 1. -/
def ringMember (st : StationState) : Membership :=
  { Membership.atReset with
    station := st, mark := 77, number := some 2, ringSize := 4, hopTime := 280, epoch := 1
    roster := tableSet (Vector.replicate 30 none) 2 (some 77) }

def on (st : StationState) : State := { fresh with member := ringMember st }

/-- Station 2 in RUN. -/
def run : State := on .run

/-- Station 2 in LEAVING with its own DEPART sent. -/
def leaving : State := { fresh with member := { ringMember .leaving with depart := .sent, departTimer := some 200000 } }

/-- A station in CENSUS with mark 77 in a census sub-state. -/
def census (sub : SubState) : State :=
  { fresh with member := { Membership.atReset with
      station := .census, sub := some sub, mark := 77, censusTimer := some 200000, ringSize := 4, epoch := 1 } }

/-- `s` with the input phase `p`. -/
def inPhase (p : InputPhase) (s : State) : State := { s with path := { s.path with phase := p } }

/-- The entry of the send unit's examples: stream 21, two halfwords at 4000h, tag 42h. -/
def entry : SendEntry := { stream := 21, length := 2, address := 0x4000, tag := 0x42 }

/-- Station 2 in RUN with `entry` at the head of its queue, and another behind it. -/
def sending (h : HeadState) : State :=
  { run with send := { SendUnit.atReset with
      queue := [entry, { entry with tag := 0x43 }], head := some h, staging := [0x1111, 0x2222], seq := 14, attempts := 1,
      returnTimer := some 200000, retryLimit := 3 } }

/-- The delivery rings of 10.4: rings 0 and 1 used, the others not. -/
def rings : Vector DeliveryRing 4 :=
  #v[{ base := 0x40000, slots := 32, writeIndex := 7, filled := 10, reserved := 1, delivered := 211 },
     { base := 0x48000, slots := 16, writeIndex := 3, filled := 2, reserved := 0, delivered := 40 },
     DeliveryRing.atReset, DeliveryRing.atReset]

/-- Entry E1 of 10.4, its payload left out. -/
def e1 (st : EntryState) : StoreEntry :=
  { state := st, source := 1, stream := 5, seq := 200, length := 64, ring := 0, epoch := 4, payload := [] }

/-- Station 2 in RUN with E1 in its store, streams 5 and 6 subscribed. -/
def storing (st : EntryState) (engine : Engine) : State :=
  { run with
    delivery := { store := [e1 st], rings := rings, engine := engine }
    filter := { Filter.atReset with subscriptions := [(5, 0), (6, 1)] } }

/-- An open context for a record of source 1, stream 5, seq 200 with two halfwords. -/
def context (v : Verdict) : RecordContext :=
  { source := 1, stream := 5, seq := 200, attempt := false, expected := 2, next := 1, verdict := v, damaged := false,
    target := some 0 }

/-- Station 2 with a forwarded record open under a verdict. -/
def open' (v : Verdict) : State :=
  inPhase .forwarding
    { storing .filling .idle with filter := { Filter.atReset with subscriptions := [(5, 0), (6, 1)], context := some (context v) } }

/-- Fetch of two words at 4000h with the first word presented. -/
def fetching : State :=
  { sending .fetching with bus := { BusMaster.atReset with
      fetch := some { write := false, start := 0x4000, words := 2, done := 0 }
      burst := some { client := .fetch, write := false, first := 0x4000, words := 2, answered := 0 }
      timeout := some 6400, lastGrant := some .fetch, burstLength := 8 } }

/-- Loading in CONFIG with the k-th word presented. -/
def loading (k : Nat) : State :=
  { fresh with
    host := { HostPort.atReset with loading := true, loadAddress := some 0x100, loadBuffer := List.replicate k 0 }
    bus := { BusMaster.atReset with
      loader := some { write := false, start := 0x100, words := 20, done := k }
      burst := some { client := .loader, write := false, first := BitVec.ofNat 32 (0x100 + 4 * k), words := 1, answered := 0 }
      timeout := some 6400 } }

/-- The delivery of 10.4 with its third burst at the word 40408h. -/
def delivering (phase : Phase) (words answered : Nat) : State :=
  { storing .delivering (.delivering phase 0 7) with bus := { BusMaster.atReset with
      delivery := some { write := true, start := 0x403C0, words := words, done := if words = 32 then 16 else 0 }
      burst := some { client := .delivery, write := true, first := 0x40400, words := if words = 32 then 8 else words,
                      answered := answered }
      timeout := some 6400, lastGrant := some .delivery, burstLength := 8 } }

/-- The frame on the output until moment 100, the station's own or one from upstream. -/
def busyOutput (own : Bool) (s : State) : State :=
  { s with path := { s.path with
      output := some { frame := .void { station := 1, spare := 0, hop := 0 }, own := own, ends := 100 } } }

/-- `s` with a frame that waits for the output. -/
def withWaiting (s : State) : State :=
  { s with path := { s.path with waiting := some (.void { station := 1, spare := 0, hop := 0 }) } }

/-- `s` with a frame in the bypass buffer. -/
def withBypass (s : State) : State :=
  { s with path := { s.path with bypass := [.void { station := 1, spare := 0, hop := 0 }] } }

/-- An own record of one halfword with its HEAD out. -/
def insertion (next : Nat) : Insertion :=
  { source := 2, seq := 14, attempt := false, length := 1, payload := [0x1111], next := next }

def withInsertion (next : Nat) (s : State) : State := { s with path := { s.path with insertion := some (insertion next) } }

/-- Station 2 following its own returning record. -/
def returning (c : ReturnContext) : State :=
  inPhase .returning { sending .inFlight with send := { (sending .inFlight).send with context := c } }

/-- Station 2 with an own trigger of group 3 in the given state. -/
def triggering (own : OwnState) : State :=
  { run with trigger := { TriggerUnit.atReset with own := own, group := some 3, returnTimer := some 200000 } }

/-! ### Bodies -/

def head (source hop : BitVec 5) : HeadBody :=
  { source := source, stream := 5, seq := 76, length := 2, hop := hop, attempt := false }
def data (source : BitVec 5) (index : BitVec 6) : DataBody := { source := source, index := index, spare := 0, word := 0x2222 }
def tail (source : BitVec 5) (seq : BitVec 8) : TailBody :=
  { source := source, seq := seq, attempt := false, accept := 0, held := 0, refused := false, damaged := false, spare := 0 }
def claim (mark : BitVec 16) : ClaimBody := { spareHigh := 0, mark := mark, spareLow := 0 }
def number (count : BitVec 5) (overfull : Bool) : NumberBody := { count := count, overfull := overfull, spare := 0 }
def ringUp (size : BitVec 5) (overfull : Bool) : RingUpBody :=
  { size := size, overfull := overfull, spare := 0, hopTime := 280 }
def announce (number : BitVec 5) (mark : BitVec 16) (hop : BitVec 5) : AnnounceBody :=
  { number := number, mark := mark, spare := 0, hop := hop }
def trigger (source : BitVec 5) (hop : BitVec 5) : TriggerBody := { source := source, group := 3, spare := 0, hop := hop }
def void (station hop : BitVec 5) : VoidBody := { station := station, spare := 0, hop := hop }
def depart (source hop : BitVec 5) : DepartBody := { source := source, spare := 0, hop := hop }

/-- A content that is bad: its symbols do not decode. -/
def badRaw : RawFrame := { kind := 0, body := 0, check := 0, undecoded := 1 }

/-! ### Worked figures of the formats (chapter 11) -/

/-- 11.1.3: the check of body 08000000h is 12h, and 14h after one hop. -/
theorem test_check_of_head : frameCheck 0 0x08000000 = 0x12 ∧ frameCheck 0 0x08000002 = 0x14 := by decide

/-- 11.1.3: the HEAD of ring number 1, everything else 0, has body 08000000h; with hop 1 it has 08000002h. -/
theorem test_head_bits :
    HeadBody.bits { source := 1, stream := 0, seq := 0, length := 0, hop := 0, attempt := false } = 0x08000000 ∧
    HeadBody.bits { source := 1, stream := 0, seq := 0, length := 0, hop := 1, attempt := false } = 0x08000002 := by decide

/-- The table of 11.1.1, each field at its bits: DATA 31–27, 26–21, 20–16, 15–0; TAIL 31–27, 26–19, 18, 17–13, 12–8, 7, 6. -/
theorem test_record_bodies :
    DataBody.ofBits 0x10A0BEEF = { source := 2, index := 5, spare := 0, word := 0xBEEF } ∧
    TailBody.ofBits 0x107424C0 =
      { source := 2, seq := 14, attempt := true, accept := 1, held := 4, refused := true, damaged := true, spare := 0 } := by
  decide

/-- The table of 11.1.2: CLAIM 310; NUMBER 5 overfull; RING_UP N 4 hop time 280; ANNOUNCE 3, 905, hop 1. -/
theorem test_control_bodies :
    ClaimBody.bits (claim 310) = 0x00013600 ∧ NumberBody.bits (number 5 true) = 0x25800000 ∧
    RingUpBody.bits (ringUp 4 false) = 0x44000118 ∧ AnnounceBody.bits (announce 3 905 1) = 0x63038901 := by decide

/-- The table of 11.1.2: TRIGGER of station 2, group 3, hop 1; VOID of station 3, hop 0; DEPART of station 4, hop 2. -/
theorem test_hop_bodies :
    TriggerBody.bits (trigger 2 1) = 0x82600001 ∧ VoidBody.bits (void 3 0) = 0xA3000000 ∧
    DepartBody.bits (depart 4 2) = 0xC4000002 := by decide

/-- The receiver reads the HEAD of 11.1.3 with check 12h, and takes it as bad with check 13h (R2). -/
theorem test_read_checks :
    RawFrame.read { kind := 0, body := 0x08000000, check := 0x12, undecoded := 0 } =
      .head { source := 1, stream := 0, seq := 0, length := 0, hop := 0, attempt := false } ∧
    (RawFrame.read { kind := 0, body := 0x08000000, check := 0x13, undecoded := 0 }).unusable = true ∧
    (RawFrame.read { kind := 0, body := 0x08000000, check := 0x12, undecoded := 1 }).unusable = true := by decide

/-- R185: word 1 00010804h is retry limit 4, burst length 8, HIGH_FIRST; word 13 01140009h is entries 2 and 3. -/
theorem test_configuration_words :
    recordRetryLimit [0, 0x00010804] = 4 ∧ recordBurstLength [0, 0x00010804] = 8 ∧ recordOrder [0, 0x00010804] = .highFirst ∧
    recordSubscription (List.replicate 13 0 ++ [0x01140009]) 2 = (9, 0) ∧
    recordSubscription (List.replicate 13 0 ++ [0x01140009]) 3 = (20, 1) := by decide

/-- R186: the header words of E1 are 40C80501h and, with delivery count 211 in epoch 4, 000400D3h. -/
theorem test_slot_headers : (e1 .delivering).header0 = 0x40C80501 ∧ (e1 .delivering).header1 211 = 0x000400D3 := by decide

/-- R187: the SENT record 5080h, 00A1h, 0200h, 0200h, and the DELIVERY_FAULT record 7080h, 2007h, 0004h, 0408h. -/
theorem test_event_words :
    EventRecord.words { event := .sent 0xA1 .done 2 0 2, lostBefore := 0 } = [0x5080, 0x00A1, 0x0200, 0x0200] ∧
    EventRecord.words { event := .deliveryFault 0 7 0x40408 .timeout, lostBefore := 0 } = [0x7080, 0x2007, 0x0004, 0x0408] := by
  decide

/-- 11.5: the example's SEND is 0405h, 0C09h, 0001h, 4A00h, 0B20h. -/
theorem test_send_words :
    HostCommand.words (.send 9 12 0x14A00 0xB20) = [0x0405, 0x0C09, 0x0001, 0x4A00, 0x0B20] := by decide

/-- 11.5: COMMAND STATUS 0452h taken, 0454h with FULL, 0408h after the wrong first word. -/
theorem test_command_status_words :
    CommandStatus.word { value := .ok, code := 4, words := 5 } = 0x0452 ∧
    CommandStatus.word { value := .full, code := 4, words := 5 } = 0x0454 ∧
    CommandStatus.word { value := .unknown, code := 4, words := 0 } = 0x0408 := by decide

/-- 11.6: STATION STATUS of station 2 in RUN with 3 entries queued: 1103h, 1801h. -/
theorem test_station_status :
    run.statusFirst = 0x1103 ∧
    State.statusSecond { run with send := { SendUnit.atReset with queue := [entry, entry, entry], head := some .staged } } =
      0x1801 := by decide

/-- R188: the station in CONFIG with the loading sub-flag set reads 0000h and 0100h. -/
theorem test_station_status_loading : (loading 0).statusFirst = 0 ∧ (loading 0).statusSecond = 0x0100 := by decide

/-- 10.1.3, 10.1.5 and 10.3.1: hop times 280, 373 and 90. -/
theorem test_hop_times : measuredHopTime 1120 4 = 280 ∧ measuredHopTime 1120 3 = 373 ∧ measuredHopTime 450 5 = 90 := by decide

/-- 10.4.1: slot 7 of ring 0 begins at 403B8h, and its 32 body words go out in bursts of 8. -/
theorem test_slot_address :
    DeliveryRing.slotAddress { DeliveryRing.atReset with base := 0x40000 } 7 = 0x403B8 ∧
    burstWords 8 { write := true, start := 0x403C0, words := 32, done := 0 } = 8 ∧
    burstWords 8 { write := true, start := 0x403C0, words := 32, done := 24 } = 8 := by decide

/-- R142, R147: under either order the two halfwords of a word. -/
theorem test_halfword_orders :
    HalfwordOrder.join .lowFirst 0x1111 0x2222 = 0x22221111 ∧ HalfwordOrder.join .highFirst 0x1111 0x2222 = 0x11112222 ∧
    payloadWord .lowFirst [0x1111, 0x2222, 0x3333, 0x4444, 0x5555] 2 = 0x00005555 ∧
    payloadWord .highFirst [0x1111, 0x2222, 0x3333, 0x4444, 0x5555] 2 = 0x55550000 := by decide

/-- 11.6: the window's values after reset. -/
theorem test_window_after_reset :
    (List.range 16).map (fun k => fresh.windowValue (BitVec.ofNat 5 (2 * k))) =
      [0, 0, 0, 0, 0, 0, 0, 0, 0x2240, 0, 0, 0, 0, 0, 0, 0] := by decide

/-! ### Ill-formed commands are refused -/

theorem test_wellFormed_bad_frame :
    Instr.wellFormed (.badFrameArrives o0 { kind := 0, body := 0x08000000, check := 0x12, undecoded := 0 }) = false := by decide
theorem test_wellFormed_head :
    Instr.wellFormed (.headArrives o0 (head 0 0)) = false ∧ Instr.wellFormed (.headArrives o0 (head 31 0)) = false ∧
    Instr.wellFormed (.headArrives o0 { head 1 0 with length := 65 }) = false ∧
    Instr.wellFormed (.headArrives o0 { head 30 0 with length := 64 }) = true := by decide
theorem test_wellFormed_data_tail :
    Instr.wellFormed (.dataArrives o0 (data 31 0)) = false ∧ Instr.wellFormed (.tailArrives o0 (tail 0 0)) = false := by decide
theorem test_wellFormed_census_frames :
    Instr.wellFormed (.claimArrives o0 (claim 0)) = false ∧ Instr.wellFormed (.numberArrives o0 (number 0 false)) = false ∧
    Instr.wellFormed (.ringUpArrives o0 (ringUp 0 false)) = false ∧ Instr.wellFormed (.ringUpArrives o0 (ringUp 31 true)) = false := by
  decide
theorem test_wellFormed_control_frames :
    Instr.wellFormed (.announceArrives o0 (announce 0 1 0)) = false ∧
    Instr.wellFormed (.announceArrives o0 (announce 1 0 0)) = false ∧
    Instr.wellFormed (.triggerArrives o0 (trigger 0 0)) = false ∧ Instr.wellFormed (.voidArrives o0 (void 31 0)) = false ∧
    Instr.wellFormed (.departArrives o0 (depart 0 0)) = false := by decide
theorem test_wellFormed_host_commands :
    Instr.wellFormed (.fireDue o0 4) = false ∧ Instr.wellFormed (.unknownCommand o0 0x0405) = false ∧
    Instr.wellFormed (.unknownCommand o0 0x0404) = true ∧ Instr.wellFormed (.ignoredWrite o0 1 0) = false ∧
    Instr.wellFormed (.ignoredWrite o0 2 0) = false ∧ Instr.wellFormed (.ignoredWrite o0 14 0) = false ∧
    Instr.wellFormed (.ignoredWrite o0 18 0) = true ∧ Instr.wellFormed (.querySubjectOutOfRange o0 3) = false ∧
    Instr.wellFormed (.querySubjectOutOfRange o0 4) = true := by decide

/-! ### One step of each command -/

/-- R1: every item takes its reset value; R1 again: after the release the station is in CONFIG. -/
theorem test_resetAsserted :
    (after (.resetAsserted o0) (sending .inFlight)).member = Membership.atReset ∧
    (after (.resetAsserted o0) (sending .inFlight)).send = SendUnit.atReset ∧
    (after (.resetAsserted o0) (sending .inFlight)).events.whole = [] := by decide
theorem test_resetReleased :
    (after (.resetReleased o0) { State.reset with resetPin := true }).resetPin = false := by decide

/-- R4: UP, and the link-loss timer at 32 µs; R41, R48: a census entry in ISOLATED that posts no event. -/
theorem test_linkUp :
    (after (.linkUp { o0 with time := 1000 }) State.reset).receiver = { up with lossTimer := some 4200 } := by decide
theorem test_linkUp_isolated :
    (after (.linkUp o0) { off .isolated with receiver := { up with up := false } }).member.station = .census ∧
    (after (.linkUp o0) { off .isolated with receiver := { up with up := false } }).events.whole = [] := by decide

/-- R48: link loss in RUN is a census entry with cause LINK_LOSS, and is counted. -/
theorem test_linkLoss :
    (after (.linkLoss o0 true) run).counters.linkLosses = 1 ∧
    (after (.linkLoss o0 true) run).events.whole.map (·.event) = [.stateChange .census .linkLoss 4 0 1] := by decide

/-- R15: fill truncates a forwarded record. -/
theorem test_fill :
    (after (.fill o0) (open' .held)).path.phase = .clear ∧ (after (.fill o0) (open' .held)).counters.recordsDamaged = 1 := by decide

/-- R4: a fill symbol restarts the link-loss timer and truncates nothing. -/
theorem test_fillSymbolArrives :
    (after (.fillSymbolArrives { o0 with time := 50 }) (open' .held)).receiver.lossTimer = some 3250 ∧
    (after (.fillSymbolArrives { o0 with time := 50 }) (open' .held)).path.phase = .forwarding := by decide

/-- R12: the VOID that replaces a bad frame carries the own ring number and hop 0, and is counted. -/
theorem test_badFrameArrives :
    (after (.badFrameArrives o0 badRaw) run).outside.ringOut.map (·.frame) = [.void (void 2 0)] ∧
    (after (.badFrameArrives o0 badRaw) run).counters.framesVoided = 1 := by decide

/-- R17, R79: the HEAD of E2 (10.4.3, length 64, needs 65 places) is ACCEPTING and goes on with hop one greater. -/
theorem test_headArrives :
    placesUsed (after (.headArrives o0 { head 4 1 with length := 64 }) (storing .complete (.halted 0 7))).delivery.store = 130 ∧
    (after (.headArrives o0 { head 4 1 with length := 64 }) (storing .complete (.halted 0 7))).outside.ringOut.map (·.frame) =
      [.head { head 4 2 with length := 64 }] := by decide

/-- R16, R82: a good DATA goes on as it is and its halfword is stored; in CLEAR it is a stray. -/
theorem test_dataArrives :
    (after (.dataArrives o0 (data 1 1)) (open' .accepting)).delivery.store.map (·.payload) = [[0x2222]] ∧
    (after (.dataArrives o0 (data 1 1)) (open' .accepting)).outside.ringOut.map (·.frame) = [.data (data 1 1)] := by decide
theorem test_dataArrives_stray : (after (.dataArrives o0 (data 1 0)) run).counters.strays = 1 := by decide

/-- R91: HELD raises the held count by one, and REFUSING sets the refused mark and the duplicate entry to NONE. -/
theorem test_tailArrives_held :
    (after (.tailArrives o0 (tail 1 200)) (inPhase .forwarding { open' .held with
      filter := { (open' .held).filter with context := some { context .held with next := 2 } } })).outside.ringOut.map (·.frame) =
      [.tail { tail 1 200 with held := 1 }] := by decide

/-- R63: a TAIL with the refused mark on an intact return is REFUSED, and is retried below the limit (10.2.2). -/
theorem test_tailArrives_own :
    (after (.tailArrives o0 { tail 2 14 with accept := 2, refused := true }) { sending .inFlight with
      send := { (sending .inFlight).send with context := .openCurrent, nextIndex := 2 } }).send.head = some .retryWait ∧
    (after (.tailArrives o0 { tail 2 14 with accept := 2, refused := true }) { sending .inFlight with
      send := { (sending .inFlight).send with context := .openCurrent, nextIndex := 2 } }).counters.retries = 1 := by decide

/-- 10.1.2: CLAIM 4100 at station 77: higher, forwarded, DEFERRED. 10.1.2: CLAIM 310 at 4100 is lower and discarded. -/
theorem test_claimArrives :
    (after (.claimArrives o0 (claim 4100)) (census .claiming)).member.sub = some .deferred ∧
    (after (.claimArrives o0 (claim 4100)) (census .claiming)).outside.ringOut.map (·.frame) = [.claim (claim 4100)] ∧
    (after (.claimArrives o0 (claim 76)) (census .claiming)).outside.ringOut.map (·.frame) = [] := by decide

/-- 10.1.2: the own CLAIM returns with the own claim begun: COUNTING, provisional 1, a NUMBER with count 2 readied. -/
theorem test_claimArrives_originator :
    (after (.claimArrives o0 (claim 77)) { census .claiming with
      member := { (census .claiming).member with claimBegun := true } }).member.sub = some .counting ∧
    (after (.claimArrives o0 (claim 77)) { census .claiming with
      member := { (census .claiming).member with claimBegun := true } }).path.ownCensus = some (.number (number 2 false)) := by
  decide

/-- 10.1.3: NUMBER 2 at a DEFERRED station: provisional 2, count 3 forwarded. NUMBER 5 after 11.20 µs: N 4, 280. -/
theorem test_numberArrives :
    (after (.numberArrives o0 (number 2 false)) (census .deferred)).member.provisional = some 2 ∧
    (after (.numberArrives o0 (number 2 false)) (census .deferred)).outside.ringOut.map (·.frame) = [.number (number 3 false)] := by decide
theorem test_numberArrives_returned :
    (after (.numberArrives { o0 with time := 1120 } (number 5 false)) { census .counting with
      member := { (census .counting).member with numberSent := some 0 } }).path.ownCensus = some (.ringUp (ringUp 4 false)) := by
  decide

/-- 10.1.3: RING_UP at provisional 2: RUN, number 2, N 4, hop time 280, the epoch one more, RING_FORMED posted. -/
theorem test_ringUpArrives :
    (after (.ringUpArrives o0 (ringUp 4 false)) { census .numbered with
      member := { (census .numbered).member with provisional := some 2, epoch := 0 } }).member = { ringMember .run with
        provisional := some 2, announce := .waiting } ∧
    (after (.ringUpArrives o0 (ringUp 4 false)) { census .numbered with
      member := { (census .numbered).member with provisional := some 2, epoch := 0 } }).events.whole.map (·.event) =
      [.stateChange .run .ringFormed 4 2 1] := by decide

/-- 10.1.4: ANNOUNCE 3 of mark 905 is written and forwarded with hop one greater. -/
theorem test_announceArrives :
    tableEntry (after (.announceArrives o0 (announce 3 905 1)) run).member.roster 3 = some 905 ∧
    (after (.announceArrives o0 (announce 3 905 1)) run).outside.ringOut.map (·.frame) = [.announce (announce 3 905 2)] := by decide

/-- 10.3.2: a member of a five-station ring reached with hop 1 at 1.80 µs fires at 4.50 µs. -/
theorem test_triggerArrives :
    (after (.triggerArrives { o0 with time := 180 } (trigger 2 1)) { run with
      member := { ringMember .run with number := some 4, ringSize := 5, hopTime := 90 }
      trigger := { TriggerUnit.atReset with membership := 8 } }).trigger.schedule = [{ group := 3, source := 2, due := 450 }] := by
  decide

/-- R13, R14: an own VOID is stripped; one with hop N − 1 is an orphan. -/
theorem test_voidArrives :
    (after (.voidArrives o0 (void 2 1)) run).outside.ringOut.map (·.frame) = [] ∧ (after (.voidArrives o0 (void 3 3)) run).counters.orphans = 1 ∧
    (after (.voidArrives o0 (void 3 2)) run).outside.ringOut.map (·.frame) = [.void (void 3 3)] := by decide

/-- R27: another station's DEPART is a census entry with cause DEPART_SEEN; R26: the own one's return ends the leaving. -/
theorem test_departArrives :
    (after (.departArrives o0 (depart 3 0)) run).events.whole.map (·.event) = [.stateChange .census .departSeen 4 0 1] ∧
    (after (.departArrives o0 (depart 2 3)) leaving).member.station = .pass := by decide

/-- R31, R35, R37: the own census frames go out; the CLAIM sets the flag, the NUMBER notes its moment. -/
theorem test_ownClaimSent :
    (after (.ownClaimSent o0) { census .claiming with
      path := { Path.atReset with ownCensus := some (.claim (claim 77)) } }).member.claimBegun = true := by decide
theorem test_ownNumberSent :
    (after (.ownNumberSent { o0 with time := 5 }) { census .counting with
      now := 5, path := { Path.atReset with ownCensus := some (.number (number 2 false)) } }).member.numberSent = some 5 := by decide
theorem test_ownRingUpSent :
    (after (.ownRingUpSent o0) { census .closing with
      path := { Path.atReset with ownCensus := some (.ringUp (ringUp 4 false)) } }).outside.ringOut.map (·.frame) = [.ringUp (ringUp 4 false)] := by
  decide

/-- R20, R39, R47: the ANNOUNCE carries the own number, the mark and hop 0, and is SENT. -/
theorem test_ownAnnounceSent :
    (after (.ownAnnounceSent o0) { run with member := { ringMember .run with announce := .waiting } }).outside.ringOut.map (·.frame) =
      [.announce (announce 2 77 0)] := by decide

/-- R26: the DEPART carries the own number and hop 0. R20: an own record in progress holds it back. -/
theorem test_ownDepartSent :
    (after (.ownDepartSent o0) { leaving with member := { leaving.member with depart := .waiting } }).outside.ringOut.map (·.frame) =
      [.depart (depart 2 0)] ∧
    (after (.ownDepartSent o0) (withInsertion 0 { leaving with member := { leaving.member with depart := .waiting } })).outside.ringOut.map (·.frame) =
      [] := by decide

/-- R58, 10.2.2: the HEAD of seq 14 with hop 0; IN_FLIGHT, the attempt counter 1, the return timer at 2 ms. -/
theorem test_attemptBegins :
    (after (.attemptBegins o0) { sending .staged with send := { (sending .staged).send with attempts := 0 } }).outside.ringOut.map (·.frame) =
      [.head { source := 2, stream := 21, seq := 14, length := 2, hop := 0, attempt := false }] ∧
    (after (.attemptBegins o0) { sending .staged with send := { (sending .staged).send with attempts := 0 } }).send.attempts = 1 := by
  decide

/-- R58: DATA in index order, then the TAIL with clear marks. -/
theorem test_ownRecordFrameSent :
    (after (.ownRecordFrameSent o0) (withInsertion 0 run)).outside.ringOut.map (·.frame) =
      [.data { source := 2, index := 0, spare := 0, word := 0x1111 }] ∧
    (after (.ownRecordFrameSent o0) (withInsertion 1 run)).outside.ringOut.map (·.frame) = [.tail (tail 2 14)] := by decide

/-- R123, R124: the own TRIGGER goes out and is SENT. -/
theorem test_ownTriggerSent :
    (after (.ownTriggerSent o0) { run with
      trigger := { TriggerUnit.atReset with own := .waiting, group := some 3, returnTimer := some 200000 } }).outside.ringOut.map (·.frame) =
      [.trigger (trigger 2 0)] := by decide

/-- R18, R19: the oldest frame of the buffer, and the waiting frame, go out at the end of the frame on the output. -/
theorem test_bypassBufferFrameSent :
    (after (.bypassBufferFrameSent o0) (withBypass (busyOutput true run))).path.bypass = [] ∧
    (after (.bypassBufferFrameSent o0) (withBypass (busyOutput true run))).now = 100 := by decide
theorem test_arrivingFrameForwarded :
    (after (.arrivingFrameForwarded o0) (withWaiting (busyOutput false run))).path.waiting = none ∧
    (after (.arrivingFrameForwarded o0) (withWaiting (busyOutput false run))).path.freeAt = 180 := by decide

/-- R40: the eighth failure is ISOLATED, CENSUS_FAILED, the interval at 64 ms. -/
theorem test_censusTimerExpires :
    (after (.censusTimerExpires o0) { census .deferred with member := { (census .deferred).member with attempts := 7 } }).member.station =
      .isolated ∧
    (after (.censusTimerExpires o0) { census .deferred with
      member := { (census .deferred).member with attempts := 7 } }).member.isolationTimer = some (200000 + 6400000) := by decide

/-- R41: a census entry without a STATE event. -/
theorem test_isolationIntervalExpires :
    (after (.isolationIntervalExpires o0) { off .isolated with
      member := { (off .isolated).member with isolationTimer := some 9 } }).member.station = .census := by decide

/-- R26: to PASS with cause LEFT. -/
theorem test_departLimitTimerExpires :
    (after (.departLimitTimerExpires o0) leaving).events.whole.map (·.event) = [.stateChange .pass .left 4 0 1] := by decide

/-- R64: LOST, and retried below the limit; the attempt bit flips. -/
theorem test_returnTimerExpires :
    (after (.returnTimerExpires o0) (sending .inFlight)).send.head = some .retryWait ∧
    (after (.returnTimerExpires o0) (sending .inFlight)).send.attempt = true := by decide

/-- R68: the gap is over. -/
theorem test_retryGapTimerExpires :
    (after (.retryGapTimerExpires o0) { sending .retryWait with
      send := { (sending .retryWait).send with returnTimer := none, gapTimer := some 6400 } }).send.gapTimer = none := by decide

/-- R126: TRIGGER_DONE with LOST. -/
theorem test_triggerReturnTimerExpires :
    (after (.triggerReturnTimerExpires o0) { run with
      trigger := { TriggerUnit.atReset with own := .sent, group := some 3, returnTimer := some 200000 } }).events.whole.map (·.event) =
      [.triggerDone 3 .lost] := by decide

/-- 10.3.2: TRIG is high for 1 µs from the fire at 4.50 µs. -/
theorem test_fireDue :
    (after (.fireDue o0 0) { run with
      trigger := { TriggerUnit.atReset with schedule := [{ group := 3, source := 2, due := 450 }] } }).trigger.pulseTimer = some 550 := by
  decide
theorem test_trigPulseTimerExpires :
    (after (.trigPulseTimerExpires o0) { run with
      trigger := { TriggerUnit.atReset with pulseTimer := some 550, pin := true } }).trigger.pin = false := by decide

/-- 10.4.2: the timeout at 40408h: HALTED, E1 COMPLETE again, DELIVERY_FAULT posted. -/
theorem test_busTimeout :
    (after (.busTimeout o0) (delivering .body 32 2)).delivery.engine = .halted 0 7 ∧
    (after (.busTimeout o0) (delivering .body 32 2)).events.whole.map (·.event) = [.deliveryFault 0 7 0x40408 .timeout] := by decide

/-- R144: the word is placed in the staging buffer and the next is presented. 10.4.4: word 0 completes the delivery. -/
theorem test_busWordAnswered_fetch :
    (after (.busWordAnswered o0 (.ok 0x22221111)) { fetching with send := { fetching.send with staging := [] } }).send.staging =
      [0x1111, 0x2222] := by decide
theorem test_busWordAnswered_delivery :
    (after (.busWordAnswered o0 (.ok 0)) (delivering .header0 1 0)).events.whole.map (·.event) = [.delivered 0 7 1 5 200 64] ∧
    ((after (.busWordAnswered o0 (.ok 0)) (delivering .header0 1 0)).delivery.ring 0).writeIndex = 8 := by decide

/-- R158: the first word of the record is requested at the load address. -/
theorem test_configure :
    (after (.configure o0 0x100) fresh).presented = some (0x100, none) ∧ (after (.configure o0 0x102) fresh).host.status.word = 0x0136 := by
  decide

/-- R24; 10.1.2: census entry with cause JOINED, attempt counter 0, CLAIMING, the own CLAIM readied. -/
theorem test_join :
    (after (.join o0) (off .pass)).member.sub = some .claiming ∧
    (after (.join o0) (off .pass)).path.ownCensus = some (.claim (claim 77)) := by decide

/-- R26: from RUN to LEAVING with the own DEPART waiting; R24: in CONFIG the command is refused with STATE. -/
theorem test_leave :
    (after (.leave o0) run).member.depart = .waiting ∧ (after (.leave o0) fresh).host.status.word = 0x0315 := by decide

/-- 11.5: taken, the example's SEND leaves 0452h; with 16 entries queued it leaves 0454h. -/
theorem test_send : (after (.send o0 9 12 0x14A00 0xB20) run).host.status.word = 0x0452 := by decide
theorem test_send_full :
    (after (.send o0 9 12 0x14A00 0xB20) { run with
      send := { SendUnit.atReset with queue := List.replicate 16 entry, head := some .staged } }).host.status.word = 0x0454 := by decide

/-- R70, R71: an entry behind the head completes CANCELLED; the head in flight gets the flag. -/
theorem test_cancel :
    (after (.cancel o0 0x43) (sending .inFlight)).events.whole.map (·.event) = [.sent 0x43 .cancelled 0 0 0] ∧
    (after (.cancel o0 0x42) (sending .inFlight)).send.cancelRequested = true := by decide

/-- R123: taken in RUN; a group above 7 is refused with RANGE. -/
theorem test_trigger :
    (after (.trigger o0 3) run).trigger.own = .waiting ∧ (after (.trigger o0 8) run).host.status.value = .range := by decide

/-- 10.4.3: RELEASE (ring 0, 4) takes filled from 10 to 6. -/
theorem test_release :
    ((after (.release o0 0 4) (storing .complete (.halted 0 7))).delivery.ring 0).filled = 6 := by decide

/-- 10.4.4: E1 is delivered again into slot 7, its body from 403C0h. -/
theorem test_resume :
    ((after (.resume o0) (storing .complete (.halted 0 7))).presented.map (·.1)) = some 0x403C0 := by decide

/-- 10.4.5: E1 leaves, the reserved count falls, the write index stays, DELIVERY_SKIPPED is posted. -/
theorem test_resumeWithSkip :
    (after (.resumeWithSkip o0) (storing .complete (.halted 0 7))).delivery.store = [] ∧
    ((after (.resumeWithSkip o0) (storing .complete (.halted 0 7))).delivery.ring 0).reserved = 0 ∧
    (after (.resumeWithSkip o0) (storing .complete (.halted 0 7))).events.whole.map (·.event) = [.deliverySkipped 0 7 1 5 200 64] := by
  decide

/-- R179: the counters clear as they are reported. -/
theorem test_queryCounters :
    (after (.queryCounters o0) { run with counters := { Counters.zero with strays := 3 } }).events.whole.map (·.event) =
      [.report .counters [0, 3, 0, 0, 0, 0, 0, 0, 0, 0, 0]] ∧
    (after (.queryCounters o0) { run with counters := { Counters.zero with strays := 3 } }).counters = .zero := by decide

/-- 11.4: 30 entries, each the mark or 0; the record is 32 words long. -/
theorem test_queryRoster :
    (after (.queryRoster o0) run).events.whole.map (·.event) =
      [.report .roster ([0, 77] ++ List.replicate 28 0)] ∧ (after (.queryRoster o0) run).events.used = 32 := by decide

/-- 10.1.4: the RING report of station 77: RUN, none, N 4, own number 2, hop time 280, epoch 1, attempt counter 0. -/
theorem test_queryRing :
    (after (.queryRing o0) run).events.whole.map (·.event) = [.report .ring [0x0003, 0x0204, 280, 0x0001]] := by decide

/-- 11.4: depth and head state, places, filled and reserved of each ring. -/
theorem test_queryQueues :
    (after (.queryQueues o0) { storing .complete (.halted 0 7) with send := (sending .inFlight).send }).events.whole.map (·.event) =
      [.report .queues [0x0302, 65, 0x010A, 0x0002, 0, 0]] := by decide

/-- R177: a subject that is none of the four is refused with RANGE. -/
theorem test_querySubjectOutOfRange : (after (.querySubjectOutOfRange o0 4) run).host.status.word = 0x0926 := by decide

/-- 11.5: the example's SEND of count 4 left 0408h. -/
theorem test_unknownCommand : (after (.unknownCommand o0 0x0404) run).host.status.word = 0x0408 := by decide

/-- R152: the first word is held; the last word makes the command. -/
theorem test_commandWordCollected :
    (after (.commandWordCollected o0 0x0502) run).host.status = { value := .collecting, code := 5, words := 1 } ∧
    (after (.commandWordCollected o0 0x42) (after (.commandWordCollected o0 0x0502) (sending .inFlight))).send.cancelRequested = true := by
  decide

/-- R153: IDLE, and the words are discarded. -/
theorem test_commandClear :
    (after (.commandClear o0 0xFFFF) (after (.commandWordCollected o0 0x0502) run)).host = HostPort.atReset := by decide

/-- R172: an empty queue gives a NONE word with the lost count. -/
theorem test_eventRead :
    (after (.eventRead o0) { run with events := { EventQueue.atReset with lost := 3 } }).host.readData = 0x0003 ∧
    (after (.eventRead o0) { run with
      events := { EventQueue.atReset with whole := [{ event := .sent 0xA1 .done 2 0 2, lostBefore := 0 }] } }).host.readData = 0x5080 := by
  decide

/-- R166: the read of the first halfword captures the second. -/
theorem test_stationStatusFirstRead :
    (after (.stationStatusFirstRead o0) (loading 0)).host.capture = 0x0100 ∧ (after (.stationStatusFirstRead o0) run).host.readData = 0x1103 := by
  decide

/-- R175: bit 0 is the enable. -/
theorem test_interruptEnableWrite :
    (after (.interruptEnableWrite o0 0xFFFF) run).events.enable = true ∧ (after (.interruptEnableWrite o0 0xFFFE) run).events.enable = false := by
  decide

/-- R150: IDENT and the offsets that name no register take no write. -/
theorem test_ignoredWrite : (after (.ignoredWrite o0 16 0xFFFF) run).host = run.host := by decide

/-- A step takes the front of the queue; the rest stays. -/
theorem test_step_front :
    step { off .pass with pending := [.fill o0, .leave o0] } = exec (.fill o0) { off .pass with pending := [.leave o0] } ∧
    (after (.fill o0) { off .pass with pending := [.leave o0] }).pending = [.leave o0] := ⟨rfl, by decide⟩

/-! ### Rules that tie commands together -/

/-- R6, R20, R22: the frames of an own record follow one another with no fill between them, whatever is commanded. -/
theorem test_ownRecordHasNoFill :
    (after (.fillSymbolArrives { o0 with time := 200 }) (withInsertion 0 run)).outside.ringOut =
      [{ frame := .data { source := 2, index := 0, spare := 0, word := 0x1111 }, start := 0 },
       { frame := .tail (tail 2 14), start := 80 }] := by decide

/-- R21, R124: at one boundary an arriving TRIGGER is sent first, the own HEAD taken first follows it. -/
theorem test_triggerGoesFirst :
    (after (.fillSymbolArrives { o0 with time := 100 })
        (after (.triggerArrives o0 (trigger 1 0)) (after (.attemptBegins o0) (sending .staged)))).outside.ringOut =
      [{ frame := .trigger (trigger 1 1), start := 0 },
       { frame := .head { source := 2, stream := 21, seq := 14, length := 2, hop := 0, attempt := false }, start := 80 }] := by
  decide

/-- R21, R124, R126: an own TRIGGER that an arriving one has gone ahead of is WAITING, so that a return timer that expires
before its first bit withdraws it: it is never sent. -/
theorem test_triggerIsWithdrawn :
    (let s := after (.triggerArrives o0 (trigger 1 0)) (after (.ownTriggerSent o0) { run with
       trigger := { TriggerUnit.atReset with own := .waiting, group := some 3, returnTimer := some 50 } })
     let t := after (.fillSymbolArrives { o0 with time := 500 }) (after (.triggerReturnTimerExpires o0) s)
     (s.trigger.own, t.trigger.own, t.outside.ringOut)) =
      (.waiting, .none, [{ frame := .trigger (trigger 1 1), start := 0 }]) := by decide

/-- R63: a TAIL that does not match in OPEN_CURRENT ends the attempt DAMAGED, and its counts are the last marks. -/
theorem test_tailArrives_unmatched :
    (after (.tailArrives o0 { tail 2 13 with accept := 5, held := 1 }) { returning .openCurrent with
      send := { (returning .openCurrent).send with attempts := 4 } }).events.whole.map (·.event) =
      [.sent 0x42 .damaged 4 5 1] := by decide

/-- R44, R74: at the end of a leave-pending census an entry queued since then completes with LEFT, then STATE. -/
theorem test_leavePendingEnds :
    (after (.ringUpArrives o0 (ringUp 4 false)) { census .deferred with
      member := { (census .deferred).member with leavePending := true }
      send := { SendUnit.atReset with queue := [{ entry with length := 0 }], head := some .staged } }).events.whole.map
        (·.event) = [.sent 0x42 .left 0 0 0, .stateChange .pass .left 4 0 1] := by decide

/-- R145: a late answer is ignored. -/
theorem test_busWordAnswered_late : after (.busWordAnswered o0 .late) fetching = fetching := by decide

/-- R1, R184, 11.1.3: kind 00, body 08000000h and check 12h stand on the link in this order, bit 31 of the body first. -/
theorem test_sequence :
    RawFrame.sequence { kind := 0, body := 0x08000000, check := 0x12, undecoded := 0 } =
      [false, false, false, false, false, false, true] ++ List.replicate 27 false ++ [false, true, false, false, true, false] := by
  decide

/-- R55, R59, R139: a SEND while an own record is in progress requests its fetch at once; the words read stay out of the
staging buffer, which is the record's, until its TAIL has been sent. -/
theorem test_fetchBehindRecord :
    let reading := after (.busWordAnswered o0 (.ok 0x22221111)) (after (.send o0 5 2 0x4000 1) (withInsertion 1 run))
    ((after (.send o0 5 2 0x4000 1) (withInsertion 1 run)).presented.map (·.1)) = some 0x4000 ∧
    reading.send.staging = [] ∧ reading.send.head = some .staged ∧
    (after (.ownRecordFrameSent o0) reading).send.staging = [0x1111, 0x2222] ∧
    (after (.ownRecordFrameSent o0) reading).send.incoming = [] := by decide

/-- R4: of a bad frame judged at 1 µs whose last three content bits did not decode, the fourth last, 60 ns earlier, restarted
the link-loss timer at 32 µs; one of which nothing decoded leaves it running. -/
theorem test_badFrame_lossTimer :
    (after (.badFrameArrives { o0 with time := 100 } { badRaw with undecoded := 7 }) run).receiver.lossTimer = some 3294 ∧
    (after (.badFrameArrives { o0 with time := 100 } { badRaw with undecoded := 0xFFFFFFFFFF }) run).receiver.lossTimer =
      some 3200 ∧
    (after (.badFrameArrives { o0 with time := 100 } { badRaw with undecoded := 2 }) run).receiver.lossTimer = some 3300 := by
  decide

/-- R171: each posting is taken singly: TRIGGER_DONE may stand between two SENT events of one LEAVE. -/
theorem test_leave_turns :
    (after (.leave { o0 with order := [.send, .trigger] }) { sending .staged with
      trigger := { TriggerUnit.atReset with own := .sent, group := some 3, returnTimer := some 200000 } }).events.whole.map
        (·.event) = [.sent 0x42 .left 1 0 0, .triggerDone 3 .left, .sent 0x43 .left 0 0 0] := by decide

/-- The link is DOWN since a link loss at this very moment, no frame having been received in the last frame time. -/
def lost (s : State) : State := { s with receiver := { up := false, lossTimer := none, lostAt := some s.now, nextFrame := s.now } }

/-- R48: link loss and a CLAIM in RUN fall together and the link loss is taken first: one census entry, with cause LINK_LOSS,
and the CLAIM, of a higher mark, is judged in the new attempt's CLAIMING: the station defers and sends it on. -/
theorem test_linkLossThenClaim :
    let t := after (.claimArrives { o0 with time := 3200 } (claim 905)) (after (.linkLoss o0 true) run)
    t.events.whole.map (·.event) = [.stateChange .census .linkLoss 4 0 1] ∧ t.counters.censusEntries = 1 ∧
    t.member.sub = some .deferred ∧ t.outside.ringOut = [{ frame := .claim (claim 905), start := 3200 }] ∧
    t.receiver.up = true := by decide

/-- R4: a CLAIM that arrives a moment after the link loss is not delivered. -/
theorem test_claimAfterLinkLoss :
    let t := after (.claimArrives { o0 with time := 3201 } (claim 905)) (after (.linkLoss o0 true) run)
    t.member.sub = some .claiming ∧ t.receiver.up = false ∧ t.outside.ringOut.map (·.frame) = [.claim (claim 77)] := by
  decide

/-- R1: fill is reported no earlier than one frame time after the last frame. -/
theorem test_fillMoment :
    (after (.fill o0) { run with receiver := { up with nextFrame := 80 } }).now = 80 ∧
    (after (.fill o0) { run with receiver := { up with nextFrame := 80 } }).receiver = { up with nextFrame := 160 } := by decide

/-! ### Witnesses: for each statement with hypotheses, states and operands that meet them, clause by clause -/

theorem witness_StepRunsFrontCommand : State.reset.pending = [] := rfl

theorem witness_ResetGivesResetValues : ∃ t, exec (.resetAsserted o0) run = .next t := ⟨_, rfl⟩

theorem witness_NothingActsUnderReset : run.assertReset.resetPin = true ∧ run.assertReset.path.bypass.length ≤ 72 := by decide

/-- `n` frames in the bypass buffer. -/
def buffering (n : Nat) : State := { run with path := { run.path with bypass := List.replicate n (.void (void 1 0)) } }

theorem witness_CommandsAnswerNextStates :
    (Instr.headArrives o0 (head 1 0)).isArrival = true ∧ run.path.bypass.length < 72 ∧ (buffering 71).path.bypass.length < 72 ∧
    (Instr.leave o0).isArrival = false ∧ ¬(buffering 72).path.bypass.length < 72 := by decide

/-- A HEAD as it is sent. -/
def headRaw : RawFrame := (Frame.head (head 1 0)).content
/-- A HEAD whose source is 0: good and malformed. -/
def malformedRaw : RawFrame := (Frame.head (head 0 0)).content

/-- A well-formed frame of each of the ten kinds. -/
def everyKind : List Frame :=
  [.head (head 1 0), .data (data 1 0), .tail (tail 1 200), .claim (claim 77), .number (number 2 false), .ringUp (ringUp 4 false),
   .announce (announce 3 905 1), .trigger (trigger 2 1), .void (void 2 1), .depart (depart 3 0)]

theorem witness_FramesReadBack :
    (0 : BitVec 2) = (Frame.head (head 1 0)).content.kind ∧ (∀ r, Frame.head (head 1 0) ≠ .raw r) ∧ badRaw.read.unusable = true ∧ malformedRaw.read.unusable = true ∧
    ∀ f ∈ everyKind, f.content.read = f ∧ f.content.read.unusable = false :=
  ⟨rfl, nofun, by decide⟩

theorem witness_HalfwordsComeBack :
    ([] : List Halfword).length = (0 : BitVec 7).toNat ∧ ([0x1111, 0x2222, 0x3333] : List Halfword).length = (3 : BitVec 7).toNat ∧
    (List.replicate 64 (0x1111 : Halfword)).length = (64 : BitVec 7).toNat := by decide

/-- The queue with 126 words used; a record of two words fits it, one of four does not. -/
def nearlyFull : State :=
  { run with events := { EventQueue.atReset with
      whole := List.replicate 31 { event := .sent 0 .done 1 0 0, lostBefore := 0 } ++
        [{ event := .configured 77, lostBefore := 0 }] } }

theorem witness_PostingEntersOrDrops :
    (Event.configured 77).length ≤ 128 - nearlyFull.events.used ∧
    128 - nearlyFull.events.used < (Event.sent 0 .done 1 0 0).length := by decide

theorem witness_WindowReads :
    run.resetPin = false ∧
    EventQueue.current { EventQueue.atReset with current := [1, 2] } = 1 :: [2] := by decide
theorem witness_WindowReads_addresses :
    (∀ a ∈ [(0 : BitVec 5), 3, 4, 5, 8, 9, 12, 13, 14, 15, 16, 17, 18, 31], a.toNat / 2 ≠ 3 ∧ a.toNat / 2 ≠ 5) ∧
    (3 : BitVec 5).toNat / 2 < 2 ∧ (5 : BitVec 5).toNat / 2 = 2 ∧ (9 : BitVec 5).toNat / 2 = 4 ∧ (13 : BitVec 5).toNat / 2 = 6 ∧
    (15 : BitVec 5).toNat / 2 = 7 ∧ (17 : BitVec 5).toNat / 2 = 8 ∧ 8 < (18 : BitVec 5).toNat / 2 ∧
    run.assertReset.resetPin = true := by decide
theorem witness_WindowReads_whole :
    run.events.current = [] ∧ run.events.whole = [] ∧ nearlyFull.events.current = [] ∧
    nearlyFull.events.whole = { event := .sent 0 .done 1 0 0, lostBefore := 0 } :: nearlyFull.events.whole.tail := by decide

theorem witness_WindowWrites :
    run.resetPin = false ∧ (4 : BitVec 5).toNat / 2 ≠ 0 ∧ (4 : BitVec 5).toNat / 2 ≠ 1 ∧ (4 : BitVec 5).toNat / 2 ≠ 7 ∧
    (31 : BitVec 5).toNat / 2 ≠ 0 ∧ (31 : BitVec 5).toNat / 2 ≠ 1 ∧ (31 : BitVec 5).toNat / 2 ≠ 7 := by decide

/-- A CANCEL of tag 42h of which the first word has been written. -/
def collecting : State :=
  { sending .inFlight with host := { HostPort.atReset with
      collector := some { code := 5, count := 2, words := [0x0502] }
      status := { value := .collecting, code := 5, words := 1 } } }

/-- A SEND of which the first word has been written. -/
def collectingSend : State :=
  { run with host := { HostPort.atReset with
      collector := some { code := 4, count := 5, words := [0x0405] }
      status := { value := .collecting, code := 4, words := 1 } } }

theorem witness_WordsAreCollected :
    run.resetPin = false ∧ run.host.collector = none ∧
    codeCount ((0x0404 : Halfword).extractLsb' 8 8) ≠ some ((0x0404 : Halfword).extractLsb' 0 4).toNat ∧
    codeCount ((0x0A01 : Halfword).extractLsb' 8 8) ≠ some ((0x0A01 : Halfword).extractLsb' 0 4).toNat ∧
    codeCount ((0x0502 : Halfword).extractLsb' 8 8) = some ((0x0502 : Halfword).extractLsb' 0 4).toNat ∧
    2 ≤ ((0x0502 : Halfword).extractLsb' 0 4).toNat ∧
    collectingSend.host.collector = some { code := 4, count := 5, words := [0x0405] } ∧
    ([0x0405] : List Halfword).length + 1 < 5 := by decide
theorem witness_WordsAreCollected_single :
    (0x02F1 : Halfword).extractLsb' 0 4 = 1 ∧ (0x02F1 : Halfword).extractLsb' 8 8 = 2 ∧ (0x0301 : Halfword).extractLsb' 0 4 = 1 ∧
    (0x0301 : Halfword).extractLsb' 8 8 = 3 := by decide

/-- All words of a record but the last have been written, with bits of no field set. -/
def lastWordOf (code : BitVec 8) (words : List Halfword) : State :=
  { run with host := { HostPort.atReset with
      collector := some { code := code, count := words.length + 1, words := words }
      status := { value := .collecting, code := code, words := words.length } } }

theorem witness_WordsAreCollected_last :
    collecting.resetPin = false ∧
    (∀ x ∈ [((1 : BitVec 8), ([0x0103, 0x0004] : List Halfword)), (4, [0x0405, 0x0C09, 0x0001, 0x4A00]), (5, [0x0502]),
            (6, [0x06F2]), (7, [0x0702]), (8, [0x0802]), (9, [0x0902])],
      (lastWordOf x.1 x.2).resetPin = false ∧
      (lastWordOf x.1 x.2).host.collector = some { code := x.1, count := x.2.length + 1, words := x.2 }) ∧
    ((0x00040400 : Word).extractLsb' 16 16 = 0x0004 ∧ (0x00040400 : Word).extractLsb' 0 16 = ([0x0103, 0x0004, 0x0400] : List Halfword).getD 2 0) ∧
    ((9 : BitVec 8) = (0x0C09 : Halfword).extractLsb' 0 8 ∧ (12 : BitVec 8) = (0x0C09 : Halfword).extractLsb' 8 8) ∧
    (3 : BitVec 8) = (0xFF03 : Halfword).extractLsb' 0 8 ∧ true = (0xFFFF : Halfword).getLsbD 0 := by decide

theorem witness_RecordWordByWord : run.host.collector = none ∧ run.resetPin = false ∧ 3 < (4 : BitVec 8).toNat := by decide

theorem witness_ConfigureBeginsLoad :
    run.CommandReady ∧ run.member.station ≠ .config ∧
    (loading 0).CommandReady ∧ (loading 0).member.station = .config ∧ (loading 0).host.loading = true ∧
    fresh.CommandReady ∧ fresh.member.station = .config ∧ fresh.host.loading = false ∧
    (0x101 : Word).toNat % 4 ≠ 0 ∧ (0xFFFFFFFC : Word).toNat % 4 = 0 ∧ (fresh.at o0).bus.burst = none := by decide

theorem witness_JoinEntersCensus :
    run.CommandReady ∧ run.member.station ≠ .pass ∧ (off .pass).CommandReady ∧ (off .pass).member.station = .pass ∧
    (off .pass).path.phase = .clear ∧ (off .pass).path.insertion = none ∧ (off .pass).send.incoming = [] := by decide

theorem witness_LeaveLeavesTheRing :
    fresh.CommandReady ∧ fresh.member.station = .config ∧ (off .pass).member.station = .pass ∧
    leaving.CommandReady ∧ leaving.member.station = .leaving ∧ (off .barred).CommandReady ∧ (off .barred).member.station = .barred ∧
    (off .isolated).CommandReady ∧ (off .isolated).member.station = .isolated ∧
    (off .excluded).CommandReady ∧ (off .excluded).member.station = .excluded ∧
    (census .counting).CommandReady ∧ (census .counting).member.station = .census ∧
    run.CommandReady ∧ run.member.station = .run := by decide
theorem witness_LeaveLeavesTheRing_run :
    run.at o0 = run ∧ (open' .accepting).CommandReady ∧ (open' .accepting).member.station = .run ∧
    run.filter.context = none ∧ (open' .held).filter.context = some (context .held) ∧ (context .held).verdict ≠ .accepting ∧
    (open' .accepting).filter.context = some (context .accepting) ∧ (context .accepting).verdict = .accepting ∧
    (open' .accepting).delivery.store = [] ++ [e1 .filling] ∧ (e1 .filling).state = .filling ∧ run.send.queue = [] ∧
    (∀ h ∈ [HeadState.fetching, .staged, .retryWait, .inFlight],
      (sending h).CommandReady ∧ (sending h).member.station = .run ∧
      (sending h).send.queue = entry :: [{ entry with tag := 0x43 }] ∧ ((sending h).at o0).send.head = some h) ∧
    (∀ c ∈ [ReturnContext.closed, .openCurrent, .openHeadless, .openStale],
      (returning c).CommandReady ∧ (returning c).member.station = .run ∧ ((returning c).at o0).send.head = some .inFlight ∧
      ((returning c).at o0).send.context = c) := by decide
theorem witness_LeaveLeavesTheRing_trigger :
    (run.at o0).trigger.own = .none ∧ (triggering .sent).CommandReady ∧ (triggering .sent).member.station = .run ∧
    ((triggering .sent).at o0).trigger.own ≠ .none ∧ ((triggering .sent).at o0).trigger.group = some 3 := by decide
theorem witness_LeaveLeavesTheRing_sends :
    run.send.queue = [] ∧ (sending .fetching).send.queue = entry :: [{ entry with tag := 0x43 }] ∧
    (sending .fetching).send.head = some .fetching ∧ (sending .staged).send.head = some .staged ∧
    (sending .retryWait).send.head = some .retryWait := by decide

/-- 16 entries queued. -/
def fullQueue : State := { run with send := { SendUnit.atReset with queue := List.replicate 16 entry, head := some .staged } }

theorem witness_SendJoinsQueue :
    fresh.CommandReady ∧ fresh.member.station = .config ∧ run.CommandReady ∧ run.member.station = .run ∧
    (census .claiming).member.station = .census ∧ (off .isolated).member.station = .isolated ∧
    (off .excluded).member.station = .excluded ∧
    64 < (65 : BitVec 8).toNat ∧ 63 < (64 : BitVec 8).toNat ∧ (0x4002 : Word).toNat % 4 ≠ 0 ∧
    (64 : BitVec 8).toNat ≤ 64 ∧ (63 : BitVec 8).toNat ≤ 63 ∧ (0x4000 : Word).toNat % 4 = 0 ∧
    fullQueue.CommandReady ∧ fullQueue.member.station = .run ∧ 16 ≤ fullQueue.send.queue.length ∧
    (sending .staged).CommandReady ∧ (sending .staged).member.station = .run ∧ (sending .staged).send.queue.length < 16 ∧
    (sending .staged).send.queue ≠ [] ∧ run.send.queue = [] ∧ (64 : BitVec 8) ≠ 0 ∧ (run.at o0).path.insertion = none ∧
    (withInsertion 0 run).CommandReady ∧ (withInsertion 0 run).send.queue = [] ∧
    ((withInsertion 0 run).at o0).path.insertion ≠ none := by decide

theorem witness_CancelByHeadState :
    run.CommandReady ∧ (∀ e ∈ run.send.queue, e.tag ≠ 0x42) ∧ (sending .inFlight).CommandReady ∧
    (∀ e ∈ (sending .inFlight).send.queue, e.tag ≠ 0x44) ∧
    (sending .inFlight).send.queue = entry :: [{ entry with tag := 0x43 }] ∧ entry.tag ≠ 0x43 ∧
    [{ entry with tag := 0x43 }].filter (fun x => x.tag == 0x43) ≠ [] ∧ entry.tag = 0x42 ∧
    (∀ h ∈ [HeadState.inFlight, .fetching, .staged, .retryWait],
      (sending h).CommandReady ∧ ((sending h).at o0).send.head = some h) := by decide

theorem witness_TriggerAndReleaseAreTaken :
    run.CommandReady ∧ (off .pass).CommandReady ∧ (off .pass).member.station ≠ .run ∧ run.member.station = .run ∧
    7 < (8 : BitVec 8).toNat ∧ (7 : BitVec 8).toNat ≤ 7 ∧ run.trigger.own = .none ∧
    State.CommandReady { run with trigger := { TriggerUnit.atReset with own := .sent, group := some 0 } } ∧
    (State.trigger { run with trigger := { TriggerUnit.atReset with own := .sent, group := some 0 } }).own ≠ .none := by decide
theorem witness_TriggerAndReleaseAreTaken_release :
    (storing .complete (.halted 0 7)).CommandReady ∧ 3 < (4 : BitVec 8).toNat ∧
    (0 : BitVec 8) = (0 : BitVec 2).setWidth 8 ∧ (3 : BitVec 8) = (3 : BitVec 2).setWidth 8 ∧
    ((storing .complete (.halted 0 7)).delivery.ring 3).slots = 0 ∧
    ((storing .complete (.halted 0 7)).delivery.ring 0).filled < (11 : BitVec 8).toNat ∧
    ((storing .complete (.halted 0 7)).delivery.ring 0).slots ≠ 0 ∧
    (10 : BitVec 8).toNat ≤ ((storing .complete (.halted 0 7)).delivery.ring 0).filled := by decide

theorem witness_ResumeAfterHalt :
    run.CommandReady ∧ (∀ ring slot, run.delivery.engine ≠ .halted ring slot) ∧
    (storing .complete (.halted 0 7)).CommandReady ∧ (storing .complete (.halted 0 7)).delivery.engine = .halted 0 7 ∧
    (storing .complete (.halted 0 7)).delivery.store = e1 .complete :: [] ∧ (e1 .complete).state = .complete :=
  ⟨by decide, nofun, by decide⟩
theorem witness_ResumeAfterHalt_begin :
    (e1 .complete).length ≠ 0 ∧ StoreEntry.length { e1 .complete with length := 0 } = 0 ∧
    (storing .complete .idle).delivery.engine = .idle ∧ (storing .complete .idle).delivery.store = e1 .complete :: [] ∧
    (storing .complete (.halted 0 7)).delivery.engine ≠ .idle ∧ run.delivery.store = [] ∧
    (storing .filling .idle).delivery.store = e1 .filling :: [] ∧ (e1 .filling).state ≠ .complete := by decide

/-- A queue with no word free, one with six, one with eight and one with thirteen words free are reached by such lists. -/
def used (n : Nat) : State :=
  { run with events := { EventQueue.atReset with whole := List.replicate n { event := .configured 77, lostBefore := 0 } } }

theorem witness_QueryEntersReport :
    run.CommandReady ∧ 3 < (4 : BitVec 8).toNat ∧ 13 ≤ 128 - run.events.used ∧ 32 ≤ 128 - (used 48).events.used ∧
    128 - (used 49).events.used < 32 ∧ 13 ≤ 128 - (used 57).events.used ∧ 128 - (used 58).events.used < 13 ∧
    6 ≤ 128 - (used 61).events.used ∧ 128 - (used 62).events.used < 6 ∧ 8 ≤ 128 - (used 60).events.used ∧
    128 - (used 61).events.used < 8 ∧ (used 62).CommandReady := by decide

theorem witness_ArrivingFrameIsHeard :
    ((run.at o0).reach run.receiver.nextFrame).path.waiting = none ∧
    (((withWaiting run).at o0).reach run.receiver.nextFrame).path.waiting = some (.void (void 1 0)) ∧
    (((withWaiting (busyOutput false run)).at o0).reach run.receiver.nextFrame).path.waiting = some (.void (void 1 0)) ∧
    State.reset.receiver.up = false ∧ State.reset.path.bypass.length ≤ 72 ∧ State.reset.receiver.lostAt ≠ some 0 ∧
    (lost run).receiver.up = false ∧ (lost run).receiver.lostAt = some 0 ∧ badRaw.undecoded.getLsbD 0 = true ∧
    (∀ i, i < 40 → BitVec.getLsbD (BitVec.allOnes 40) i = true) ∧ (BitVec.getLsbD (2 : BitVec 40) 0 = false) ∧
    (BitVec.getLsbD (1 : BitVec 40) 1 = false ∧ ∀ j, j < 1 → BitVec.getLsbD (1 : BitVec 40) j = true) ∧
    (BitVec.getLsbD (0x7FFFFFFFFF : BitVec 40) 39 = false ∧
      ∀ j, j < 39 → BitVec.getLsbD (0x7FFFFFFFFF : BitVec 40) j = true) := by decide

theorem witness_UpstreamFramesKeepOrder :
    (withBypass (busyOutput true run)).path.bypass ≠ [] ∧
    (withBypass (busyOutput true run)).now < (withBypass (busyOutput true run)).path.freeAt ∧
    (withInsertion 0 run).path.insertion ≠ none ∧ (withInsertion 0 run).mode = .active ∧ (busyOutput true run).carriesOwn = true ∧
    (withBypass run).path.bypass = .void (void 1 0) :: [] ∧ (withBypass run).path.insertion = none ∧
    (withBypass run).path.waiting = none ∧ (withBypass run).resetPin = false ∧ (withBypass run).mode ≠ .census ∧
    (withBypass run).path.freeAt ≤ (withBypass run).now ∧
    run.path.bypass = [] ∧ run.path.insertion = none ∧ (busyOutput false run).carriesOwn = false ∧
    run.path.freeAt ≤ run.now ∧ (busyOutput false run).now < (busyOutput false run).path.freeAt ∧
    (busyOutput false run).path.waiting = none := by decide
theorem witness_UpstreamFramesKeepOrder_sent :
    (withWaiting run).resetPin = false ∧ ((withWaiting run).at o0).path.waiting = some (.void (void 1 0)) ∧
    ((withBypass run).at o0).path.bypass = .void (void 1 0) :: [] ∧
    ((withWaiting (withBypass run)).at o0).path.bypass = .void (void 1 0) :: [] ∧
    ((withWaiting (withBypass run)).at o0).path.waiting ≠ none ∧
    ((withInsertion 0 (withBypass run)).at o0).path.bypass = .void (void 1 0) :: [] ∧
    ((withInsertion 0 (withBypass run)).at o0).mode = .active ∧ ((withInsertion 0 (withBypass run)).at o0).path.insertion ≠ none ∧
    ((withBypass run).at o0).path.waiting = none ∧ ((withBypass run).at o0).path.insertion = none ∧
    ((withBypass run).at o0).mode ≠ .census := by decide
theorem witness_UpstreamFramesKeepOrder_chosen :
    (withWaiting run).path.waiting ≠ none ∧ run.path.waiting = none ∧ (census .claiming).mode = .census ∧
    (off .pass).mode = .transparent ∧ run.mode = .active ∧ (withInsertion 0 run).path.insertion ≠ none ∧
    run.path.insertion = none ∧ run.nextItem = none ∧ (withInsertion 0 run).nextItem = some .recordFrame ∧
    (withInsertion 0 run).boundary < 1 ∧ (busyOutput true (withInsertion 0 run)).boundary = 100 := by decide

theorem witness_OtherModesPassOrDiscard :
    (off .pass).Receiving ∧ (off .pass).mode = .transparent ∧ badRaw.read.unusable = true ∧
    (∀ b, headRaw.read ≠ .claim b) ∧ (off .pass).member.station ≠ .isolated ∧ (off .pass).member.station ≠ .excluded ∧
    (off .isolated).Receiving ∧ (off .isolated).mode = .transparent ∧
    (census .claiming).Receiving ∧ (census .claiming).member.station = .census ∧
    (∀ b, headRaw.read ≠ .number b) ∧ (∀ b, headRaw.read ≠ .ringUp b) := by
  have h : headRaw.read = .head (head 1 0) := by decide
  rw [h]
  exact ⟨by decide, by decide, by decide, nofun, by decide, by decide, by decide, by decide, by decide, by decide, nofun, nofun⟩

/-- A record forwarded whose context is CLOSED. -/
def unfiltered : State := inPhase .forwarding run

theorem witness_BadFrameIsReplacedByVoid :
    run.Receiving ∧ run.mode = .active ∧ run.member.number = some 2 ∧ run.path.phase = .clear ∧
    unfiltered.Receiving ∧ unfiltered.path.phase = .forwarding ∧ unfiltered.filter.context = none ∧
    (open' .held).Receiving ∧ (open' .held).path.phase = .forwarding ∧ (open' .held).filter.context = some (context .held) ∧
    (returning .openCurrent).Receiving ∧ (returning .openCurrent).path.phase = .returning ∧
    (returning .openCurrent).send.context = .openCurrent ∧ (returning .openStale).path.phase = .returning ∧
    (returning .openStale).send.context ≠ .openCurrent ∧ (inPhase .orphan run).path.phase = .orphan := by decide
theorem witness_BadFrameIsReplacedByVoid_malformed :
    run.mode ≠ .transparent ∧ (census .claiming).mode ≠ .transparent ∧
    ({ badRaw with undecoded := 2 } : RawFrame).undecoded.getLsbD 0 = false ∧ (head 0 0).source = 0 ∧ (head 31 0).source = 31 ∧
    64 < (BitVec.toNat (65 : BitVec 7)) ∧ (claim 0).mark = 0 ∧ (number 0 true).count = 0 ∧ (ringUp 31 false).size = 31 ∧
    (announce 1 0 0).mark = 0 := by decide

theorem witness_VoidPassesOrEnds :
    run.Receiving ∧ run.mode = .active ∧ (Frame.void (void 2 1)).unusable = false ∧ run.member.number = some (void 2 1).station ∧
    (Frame.void (void 3 3)).unusable = false ∧ run.member.number ≠ some (void 3 3).station ∧
    run.member.ringSize.toNat ≤ (void 3 3).hop.toNat + 1 ∧ (Frame.void (void 3 2)).unusable = false ∧
    (void 3 2).hop.toNat + 1 < run.member.ringSize.toNat ∧ run.path.phase ≠ .forwarding ∧ unfiltered.filter.context = none ∧
    (open' .held).Receiving ∧ (open' .held).path.phase = .forwarding ∧ (open' .held).filter.context = some (context .held) := by
  decide

/-- Station 2 with streams 5 and 6 subscribed and an empty store. -/
def subscribed : State :=
  { storing .complete .idle with delivery := { (storing .complete .idle).delivery with store := [] } }

theorem witness_HeadIsJudged :
    run.Receiving ∧ run.mode = .active ∧ (Frame.head (head 4 1)).unusable = false ∧ run.path.phase = .clear ∧
    run.member.number ≠ some (head 4 1).source ∧ (head 4 2).hop.toNat + 1 < run.member.ringSize.toNat ∧
    run.verdict (head 4 1) ≠ .accepting ∧ subscribed.Receiving ∧ subscribed.mode = .active ∧ subscribed.path.phase = .clear ∧
    subscribed.member.number ≠ some (head 4 1).source ∧ (head 4 1).hop.toNat + 1 < subscribed.member.ringSize.toNat ∧
    subscribed.verdict (head 4 1) = .accepting ∧ subscribed.filter.subscriptions.lookup (head 4 1).stream = some 0 := by decide

theorem witness_DataFollowsTheRecord :
    (inPhase .orphan run).Receiving ∧ run.mode = .active ∧ (Frame.data (data 1 1)).unusable = false ∧
    run.member.number ≠ some (data 1 1).source ∧ (inPhase .orphan run).path.phase = .orphan ∧ run.path.phase = .clear ∧
    (returning .openCurrent).path.phase = .returning ∧ unfiltered.path.phase = .forwarding ∧ unfiltered.filter.context = none ∧
    (open' .accepting).Receiving ∧ (open' .accepting).mode = .active ∧ (open' .accepting).path.phase = .forwarding ∧
    (open' .accepting).filter.context = some (context .accepting) ∧ (data 3 1).source ≠ (context .accepting).source ∧
    (data 1 0).index.toNat ≠ (context .accepting).next ∧ (context .accepting).expected.toNat ≤ (data 1 2).index.toNat ∧
    BitVec.toNat (1 : BitVec 5) ≠ 0 ∧ (data 1 1).source = (context .accepting).source ∧
    (data 1 1).index.toNat = (context .accepting).next ∧ (data 1 1).index.toNat < (context .accepting).expected.toNat ∧
    (data 1 1).spare = 0 ∧ (context .held).verdict ≠ .accepting ∧ (context .accepting).verdict = .accepting ∧
    (context .accepting).damaged = false ∧ (open' .accepting).delivery.store = [] ++ [e1 .filling] := by decide

/-- The record of `context` with every DATA taken. -/
def whole (v : Verdict) : State :=
  { open' v with filter := { (open' v).filter with context := some { context v with next := 2 } } }

theorem witness_TailClosesTheRecord :
    run.Receiving ∧ run.mode = .active ∧ (Frame.tail (tail 1 200)).unusable = false ∧
    run.member.number ≠ some (tail 1 200).source ∧ run.path.phase = .clear ∧ (returning .openCurrent).path.phase = .returning ∧
    (inPhase .orphan run).path.phase = .orphan ∧ unfiltered.path.phase = .forwarding ∧ unfiltered.filter.context = none ∧
    (open' .held).Receiving ∧ (open' .held).path.phase = .forwarding ∧ (open' .held).filter.context = some (context .held) ∧
    (context .held).next ≠ (context .held).expected.toNat ∧ (tail 1 199).seq ≠ (context .held).seq ∧
    (tail 3 200).source ≠ (context .held).source ∧ (context .held).verdict ≠ .accepting ∧
    (open' .accepting).filter.context = some (context .accepting) ∧ (context .accepting).verdict = .accepting ∧
    (open' .accepting).delivery.store = [] ++ [e1 .filling] ∧ (e1 .filling).state = .filling := by decide
theorem witness_TailClosesTheRecord_whole :
    (whole .accepting).Receiving ∧ (whole .accepting).mode = .active ∧ (whole .accepting).path.phase = .forwarding ∧
    (∀ v ∈ [Verdict.accepting, .held, .refusing, .passing],
      (whole v).filter.context = some { context v with next := 2 } ∧ (context v).damaged = false ∧
      (tail 1 200).source = (context v).source ∧ (tail 1 200).seq = (context v).seq ∧
      (tail 1 200).attempt = (context v).attempt ∧ 2 = (context v).expected.toNat) ∧
    (whole .accepting).delivery.store = [] ++ [e1 .filling] := by decide

theorem witness_OpenRecordIsTruncated :
    run.resetPin = false ∧ run.receiver.up = true ∧ State.reset.resetPin = false ∧ State.reset.receiver.up = false ∧
    State.reset.member.station ≠ .isolated ∧ (census .claiming).mode ≠ .active ∧ run.path.phase = .clear ∧
    run.mode = .active ∧
    (inPhase .orphan run).path.phase = .orphan ∧ unfiltered.path.phase = .forwarding ∧ unfiltered.filter.context = none ∧
    (returning .closed).path.phase = .returning ∧ (returning .closed).send.context = .closed ∧
    (returning .openHeadless).send.context = .openHeadless ∧ (returning .openStale).send.context = .openStale ∧
    (returning .openCurrent).send.context = .openCurrent ∧
    (((returning .openCurrent).at o0).reach (returning .openCurrent).receiver.nextFrame).send.head = some .inFlight ∧
    (open' .held).path.phase = .forwarding ∧ (open' .held).filter.context = some (context .held) ∧
    (context .held).verdict ≠ .accepting ∧ (open' .accepting).filter.context = some (context .accepting) ∧
    (open' .accepting).delivery.store = [] ++ [e1 .filling] ∧ (e1 .filling).state = .filling := by decide

theorem witness_OpenRecordIsTruncated_isolated :
    (lost (off .isolated)).resetPin = false ∧ (lost (off .isolated)).receiver.up = false ∧
    (lost (off .isolated)).member.station = .isolated ∧ (lost (off .isolated)).path.phase = .clear ∧
    (lost (off .isolated)).path.insertion = none ∧ (lost (off .isolated)).send.incoming = [] := by decide
theorem witness_OpenRecordIsTruncated_frames :
    (∀ s ∈ [run, open' .held, open' .accepting, returning .openCurrent, returning .openStale, inPhase .orphan run],
      s.Receiving ∧ s.mode = .active) ∧
    (Frame.head (head 1 0)).unusable = false ∧ (Frame.announce (announce 3 905 1)).unusable = false ∧
    (Frame.depart (depart 3 0)).unusable = false := by decide

/-- The own HEAD of `entry` as it returns. -/
def ownHead : HeadBody := { source := 2, stream := 21, seq := 14, length := 2, hop := 3, attempt := false }

theorem witness_OwnRecordReturns :
    (sending .inFlight).Receiving ∧ (sending .inFlight).mode = .active ∧ (Frame.head ownHead).unusable = false ∧
    (sending .inFlight).path.phase = .clear ∧ (sending .inFlight).member.number = some ownHead.source ∧
    ((sending .inFlight).heard o0).send = (sending .inFlight).send ∧
    (sending .inFlight).send.queue = entry :: [{ entry with tag := 0x43 }] ∧ ownHead.stream = entry.stream ∧
    ownHead.length = entry.length ∧ (sending .inFlight).send.head = some .inFlight ∧
    (sending .inFlight).send.context ≠ .openCurrent ∧ ownHead.seq = (sending .inFlight).send.seq ∧
    ownHead.attempt = (sending .inFlight).send.attempt ∧ ownHead.hop.toNat + 1 = (sending .inFlight).member.ringSize.toNat ∧
    (head 2 3).seq ≠ (sending .inFlight).send.seq ∧ run.member.number ≠ some (head 3 3).source ∧
    run.member.ringSize.toNat ≤ (head 3 3).hop.toNat + 1 := by decide
theorem witness_OwnRecordReturns_data :
    (∀ c ∈ [ReturnContext.closed, .openCurrent, .openHeadless, .openStale],
      (returning c).Receiving ∧ (returning c).mode = .active ∧ ((returning c).heard o0).send.context = c ∧
      ((returning c).heard o0).send.head = some .inFlight ∧
      ((returning c).heard o0).send.queue = entry :: [{ entry with tag := 0x43 }]) ∧
    (Frame.data (data 2 0)).unusable = false ∧ (returning .openCurrent).member.number = some (data 2 0).source ∧
    (data 2 1).index.toNat ≠ ((returning .openCurrent).heard o0).send.nextIndex ∧ entry.length.toNat ≤ (data 2 2).index.toNat ∧
    (data 2 0).index.toNat = ((returning .openCurrent).heard o0).send.nextIndex ∧ (data 2 0).index.toNat < entry.length.toNat ∧
    (data 2 0).spare = 0 ∧ (run.heard o0).send.context = .closed ∧ (run.heard o0).send.head ≠ some .inFlight := by decide

theorem witness_OwnTailJudges :
    (∀ c ∈ [ReturnContext.closed, .openCurrent, .openHeadless, .openStale],
      (returning c).Receiving ∧ (returning c).mode = .active ∧ ((returning c).heard o0).send.context = c ∧
      ((returning c).heard o0).send.head = some .inFlight ∧
      ((returning c).heard o0).send.queue = entry :: [{ entry with tag := 0x43 }] ∧
      (tail 2 14).seq = ((returning c).heard o0).send.seq ∧ (tail 2 14).attempt = ((returning c).heard o0).send.attempt ∧
      (tail 2 13).seq ≠ ((returning c).heard o0).send.seq) ∧
    (Frame.tail (tail 2 14)).unusable = false ∧ (returning .openCurrent).member.number = some (tail 2 14).source ∧
    ((returning .openCurrent).heard o0).send.fault = false ∧
    ((returning .openCurrent).heard o0).send.nextIndex ≠ entry.length.toNat ∧
    (tail 2 14).damaged = false ∧ (tail 2 14).refused = false := by decide
/-- The whole of an own record has returned but for its TAIL. -/
def returnedWhole : State :=
  { returning .openCurrent with send := { (returning .openCurrent).send with nextIndex := 2 } }
theorem witness_OwnTailJudges_whole :
    returnedWhole.Receiving ∧ returnedWhole.mode = .active ∧ (returnedWhole.heard o0).send.nextIndex = entry.length.toNat ∧
    (returnedWhole.heard o0).send.fault = false ∧ TailBody.refused { tail 2 14 with refused := true } = true := by decide

theorem witness_OutcomeCompletesOrRetries :
    SendStatus.refused ≠ .done ∧ (sending .inFlight).send.cancelRequested = false ∧
    SendUnit.cancelRequested { (sending .inFlight).send with cancelRequested := true } = true ∧
    (sending .inFlight).send.attempts < 1 + (sending .inFlight).send.retryLimit ∧
    1 + (sending .inFlight).send.retryLimit ≤ SendUnit.attempts { (sending .inFlight).send with attempts := 4 } ∧
    (sending .inFlight).send.queue = entry :: [{ entry with tag := 0x43 }] ∧ entry.length ≠ 0 ∧
    SendEntry.length { entry with length := 0 } = 0 ∧ run.send.queue = [] := by decide

theorem witness_AttemptBegins :
    (∀ h ∈ [HeadState.staged, .retryWait], (sending h).at o0 = sending h) ∧
    (sending .staged).resetPin = false ∧ (sending .staged).member.station = .run ∧ (sending .staged).member.number = some 2 ∧
    (sending .staged).send.queue = entry :: [{ entry with tag := 0x43 }] ∧ (sending .staged).send.head = some .staged ∧
    (sending .retryWait).send.head = some .retryWait ∧ (sending .retryWait).send.gapTimer = none ∧
    (sending .staged).path.bypass = [] ∧ (sending .staged).path.waiting = none ∧ (sending .staged).path.phase ≠ .forwarding ∧
    (sending .staged).path.insertion = none ∧ (sending .staged).trigger.own ≠ .waiting ∧
    (sending .staged).member.announce ≠ .waiting ∧ (sending .staged).member.depart ≠ .waiting := by decide

theorem witness_OwnRecordFramesFollow :
    (withInsertion 0 run).resetPin = false ∧ ((withInsertion 0 run).at o0).path.insertion = some (insertion 0) ∧
    ((withWaiting (withInsertion 0 run)).at o0).path.insertion = some (insertion 0) ∧
    ((withWaiting (withInsertion 0 run)).at o0).path.waiting ≠ none ∧
    ((withInsertion 0 (triggering .waiting)).at o0).path.insertion = some (insertion 0) ∧
    ((withInsertion 0 (triggering .waiting)).at o0).trigger.own = .waiting ∧
    ((withInsertion 0 (triggering .waiting)).at o0).path.bypass = [] ∧
    (withInsertion 0 run).at o0 = withInsertion 0 run ∧ (withInsertion 0 run).mode = .active ∧
    (withInsertion 0 run).path.waiting = none ∧ (withInsertion 0 run).trigger.own ≠ .waiting ∧
    ((withInsertion 0 (withBypass (triggering .waiting))).at o0).path.bypass ≠ [] ∧
    (insertion 0).next < (insertion 0).length.toNat ∧ ((withInsertion 1 run).at o0).path.insertion = some (insertion 1) ∧
    (insertion 1).length.toNat ≤ (insertion 1).next := by decide
theorem witness_OwnRecordFramesFollow_end :
    (withInsertion 0 run).resetPin = false ∧ (withInsertion 0 run).mode = .active ∧ (withInsertion 0 run).path.insertion ≠ none ∧
    (withInsertion 0 run).boundary < (Occasion.time { o0 with time := 1 }) := by decide

theorem witness_SendTimersExpire :
    (∀ c ∈ [ReturnContext.closed, .openStale, .openCurrent, .openHeadless],
      (returning c).resetPin = false ∧ ((returning c).at o0).send.returnTimer = some 200000 ∧
      ((returning c).expired o0 200000).send.head = some .inFlight ∧ ((returning c).expired o0 200000).send.context = c) ∧
    (State.at { sending .retryWait with send := { (sending .retryWait).send with gapTimer := some 6400 } } o0).send.gapTimer =
      some 6400 := by decide

theorem witness_RingIsLeftWhole :
    run.onRing = true ∧ run.member.station = .run ∧ leaving.onRing = true ∧ leaving.member.station = .leaving ∧
    run.send.head ≠ some .inFlight ∧ run.send.head ≠ some .retryWait ∧ run.trigger.own = .none ∧
    (triggering .waiting).onRing = true ∧ (triggering .waiting).trigger.own ≠ .none ∧
    (triggering .waiting).trigger.group = some 3 ∧
    (∀ h ∈ [HeadState.inFlight, .retryWait],
      (sending h).onRing = true ∧ (sending h).send.queue = entry :: [{ entry with tag := 0x43 }] ∧
      (sending h).send.head = some h) := by decide
theorem witness_RingIsLeftWhole_filter :
    (open' .accepting).onRing = true ∧ (open' .accepting).filter.context = some (context .accepting) ∧
    (context .accepting).verdict = .accepting ∧ (open' .accepting).delivery.store = [] ++ [e1 .filling] ∧
    (e1 .filling).state = .filling ∧ run.filter.context = none ∧ (census .claiming).onRing = false := by decide

theorem witness_CensusFrameStartsCensus :
    run.Receiving ∧ run.member.station = .run ∧ run.member.leavePending = false ∧ (claim 1).mark ≠ 0 ∧
    (number 31 true).count ≠ 0 ∧ (ringUp 30 false).size ≠ 0 ∧ (ringUp 30 false).size ≠ 31 ∧ leaving.Receiving ∧
    leaving.member.station = .leaving ∧ (off .isolated).Receiving ∧ (off .isolated).member.station = .isolated ∧
    (off .excluded).Receiving ∧ (off .excluded).member.station = .excluded := by decide

/-- A station in CENSUS with its leave pending. -/
def pendingLeave : State := { census .deferred with member := { (census .deferred).member with leavePending := true } }

/-- A station in CLAIMING whose own CLAIM has begun. -/
def claimed : State := { census .claiming with member := { (census .claiming).member with claimBegun := true } }

theorem witness_ElectionJudgesClaims :
    (∀ sub ∈ [SubState.claiming, .deferred, .numbered, .counting, .closing],
      (census sub).Receiving ∧ (census sub).member.station = .census ∧ (census sub).member.sub = some sub ∧
      (census sub).member.leavePending = false ∧ (census sub).member.mark = 77 ∧ (census sub).member.claimBegun = false) ∧
    (77 : BitVec 16) < (claim 78).mark ∧ (claim 76).mark < (77 : BitVec 16) ∧ (claim 77).mark = 77 ∧ (claim 76).mark ≠ 0 ∧
    pendingLeave.Receiving ∧ pendingLeave.member.station = .census ∧ pendingLeave.member.leavePending = true ∧
    ((census .claiming).heard o0).member.claimBegun = false ∧ claimed.Receiving ∧ claimed.member.station = .census ∧
    claimed.member.sub = some .claiming ∧ claimed.member.mark = 77 ∧ (claimed.heard o0).member.claimBegun = true := by decide

/-- The originator whose NUMBER began at moment 0. -/
def counting : State := { census .counting with member := { (census .counting).member with numberSent := some 0 } }

theorem witness_NumberingGivesNumbers :
    (census .claiming).Receiving ∧ (census .claiming).member.station = .census ∧ (number 30 false).count ≠ 0 ∧
    (number 30 false).count.toNat ≤ 30 ∧ (number 30 false).overfull = false ∧ (number 31 false).count.toNat = 31 ∧
    (number 1 true).overfull = true ∧ (census .claiming).member.leavePending = false ∧ pendingLeave.member.leavePending = true ∧
    (census .numbered).member.sub = some .numbered ∧ (census .closing).member.sub = some .closing ∧
    (census .counting).Receiving ∧ (census .counting).member.sub = some .counting ∧
    ((census .counting).heard o0).member.numberSent = none ∧ counting.Receiving ∧ counting.member.station = .census ∧
    counting.member.sub = some .counting ∧ (counting.heard o0).member.numberSent = some 0 ∧ (number 1 false).count = 1 ∧
    (number 2 false).count ≠ 1 := by decide

/-- A station in CENSUS with a provisional number. -/
def provisional (sub : SubState) (p : BitVec 5) : State :=
  { census sub with member := { (census sub).member with provisional := some p } }

theorem witness_RingUpClosesTheCensus :
    (provisional .numbered 4).Receiving ∧ (provisional .numbered 4).member.station = .census ∧ (ringUp 4 false).size ≠ 0 ∧
    (ringUp 4 false).size ≠ 31 ∧ (provisional .numbered 4).member.leavePending = false ∧
    (provisional .numbered 4).member.sub = some .numbered ∧ (provisional .numbered 4).member.provisional = some 4 ∧
    (4 : BitVec 5).toNat ≤ (ringUp 4 false).size.toNat ∧ (ringUp 4 false).size.toNat < (5 : BitVec 5).toNat ∧
    (provisional .numbered 5).member.provisional = some 5 ∧ (census .claiming).member.sub = some .claiming ∧
    (census .deferred).member.sub = some .deferred ∧ (ringUp 30 true).overfull = true ∧ (ringUp 4 false).overfull = false ∧
    (census .counting).member.sub = some .counting ∧ (provisional .closing 1).member.sub = some .closing ∧
    (provisional .closing 1).member.provisional = some 1 ∧ pendingLeave.member.leavePending = true := by decide

/-- Station 2 with its own ANNOUNCE sent, and mark 905 announced at number 3. -/
def announced : State :=
  { run with member := { ringMember .run with
      announce := .sent, roster := tableSet (ringMember .run).roster 3 (some 905) } }

theorem witness_AnnounceIsJudged :
    announced.Receiving ∧ announced.mode = .active ∧ announced.path.phase = .clear ∧
    (Frame.announce (announce 2 77 3)).unusable = false ∧ announced.member.number = some (announce 2 77 3).number ∧
    (announced.heard o0).member.announce = .sent ∧ (announce 2 77 3).mark = announced.member.mark ∧
    (announce 2 77 3).hop.toNat + 1 = announced.member.ringSize.toNat ∧
    (announce 2 77 2).hop.toNat + 1 ≠ announced.member.ringSize.toNat ∧ (run.heard o0).member.announce ≠ .sent ∧
    (announce 2 78 3).mark ≠ announced.member.mark ∧ announced.member.number ≠ some (announce 3 905 3).number ∧
    announced.member.ringSize.toNat ≤ (announce 3 905 3).hop.toNat + 1 ∧
    (announce 3 905 2).hop.toNat + 1 < announced.member.ringSize.toNat ∧ (announce 3 77 2).mark = announced.member.mark := by
  decide
theorem witness_AnnounceIsJudged_roster :
    announced.member.ringSize.toNat < (announce 5 905 2).number.toNat ∧
    (∃ i : Fin 30, i.val + 1 ≠ (announce 4 905 2).number.toNat ∧ announced.member.roster[i] = some (announce 4 905 2).mark) ∧
    tableEntry announced.member.roster (announce 3 906 2).number = some 905 ∧ (905 : BitVec 16) ≠ (announce 3 906 2).mark ∧
    (announce 4 310 2).number.toNat ≤ announced.member.ringSize.toNat ∧
    (∀ i : Fin 30, announced.member.roster[i] = some (announce 4 310 2).mark → i.val + 1 = (announce 4 310 2).number.toNat) ∧
    (∀ i : Fin 30, announced.member.roster[i] = some (announce 3 905 2).mark → i.val + 1 = (announce 3 905 2).number.toNat) ∧
    tableEntry announced.member.roster (announce 4 310 2).number = none := by decide

theorem witness_DepartEndsTheRing :
    run.Receiving ∧ run.mode = .active ∧ run.path.phase = .clear ∧ (Frame.depart (depart 3 2)).unusable = false ∧
    run.member.number ≠ some (depart 3 2).source ∧ (depart 3 2).hop.toNat + 1 < run.member.ringSize.toNat ∧
    run.member.ringSize.toNat ≤ (depart 3 3).hop.toNat + 1 ∧ run.member.number = some (depart 2 3).source ∧
    run.member.station = .run ∧ leaving.Receiving ∧ leaving.mode = .active ∧ leaving.path.phase = .clear ∧
    leaving.member.number = some (depart 2 3).source ∧ (depart 2 2).hop.toNat + 1 ≠ leaving.member.ringSize.toNat ∧
    leaving.member.station = .leaving ∧ (leaving.heard o0).member.depart = .sent ∧
    (depart 2 3).hop.toNat + 1 = leaving.member.ringSize.toNat := by decide

/-- A station in CENSUS with an own census frame ready. -/
def ready (sub : SubState) (f : Frame) : State := { census sub with path := { Path.atReset with ownCensus := some f } }

/-- Station 2 with its own ANNOUNCE, or its own DEPART, ready. -/
def announcing : State := { run with member := { ringMember .run with announce := .waiting } }
def departing : State := { leaving with member := { leaving.member with depart := .waiting } }

theorem witness_OwnControlFramesGoOut :
    ∀ x ∈ [ready .claiming (.claim (claim 77)), ready .counting (.number (number 2 false)),
        ready .closing (.ringUp (ringUp 4 false))],
      x.at o0 = x ∧ x.resetPin = false ∧ x.member.station = .census ∧ x.path.waiting = none ∧ x.path.ownCensus ≠ none := by decide
theorem witness_OwnControlFramesGoOut_active :
    (∀ x ∈ [triggering .waiting, announcing, departing, { unfiltered with path := { unfiltered.path with bypass := [] } },
        withInsertion 0 run],
      x.at o0 = x ∧ x.resetPin = false ∧ x.mode = .active ∧ x.member.number = some 2 ∧ x.path.bypass = [] ∧
      x.path.waiting = none) ∧
    (triggering .waiting).trigger.own = .waiting ∧ (triggering .waiting).trigger.group = some 3 ∧
    announcing.trigger.own ≠ .waiting ∧ announcing.path.phase ≠ .forwarding ∧ announcing.path.insertion = none ∧
    announcing.member.announce = .waiting ∧ departing.trigger.own ≠ .waiting ∧ departing.path.phase ≠ .forwarding ∧
    departing.path.insertion = none ∧ departing.member.announce ≠ .waiting ∧ departing.member.depart = .waiting ∧
    unfiltered.path.phase = .forwarding ∧ (withInsertion 0 run).path.insertion ≠ none := by decide

theorem witness_MembershipTimersExpire :
    (census .deferred).resetPin = false ∧ (census .deferred).member.censusTimer = some 200000 ∧
    (census .deferred).member.leavePending = false ∧ (census .deferred).member.attempts + 1 < 8 ∧
    8 ≤ Membership.attempts { (census .deferred).member with attempts := 7 } + 1 ∧
    pendingLeave.member.leavePending = true ∧ pendingLeave.member.censusTimer = some 200000 := by decide
theorem witness_MembershipTimersExpire_interval :
    (off .isolated).resetPin = false ∧ (off .isolated).path.phase = .clear ∧ (off .isolated).path.insertion = none ∧
    (off .isolated).send.incoming = [] ∧ (off .isolated).member.station = .isolated ∧
    Membership.isolationTimer { (off .isolated).member with isolationTimer := some 6400000 } = some 6400000 ∧
    State.reset.receiver.up = false ∧ State.reset.member.station ≠ .isolated := by decide

/-- `leaving` with a record open on the input, its context under a verdict, and the return context. -/
def leavingWith (p : InputPhase) (v : Option Verdict) (c : ReturnContext) : State :=
  inPhase p { leaving with
    filter := { Filter.atReset with context := v.map context }
    delivery := (open' .accepting).delivery
    send := { SendUnit.atReset with context := c } }

theorem witness_MembershipTimersExpire_depart :
    (∀ p ∈ [InputPhase.clear, .orphan, .forwarding, .returning],
      ∀ c ∈ [ReturnContext.closed, .openHeadless, .openCurrent, .openStale],
      (leavingWith p none c).resetPin = false ∧ (leavingWith p none c).member.station = .leaving ∧
      (leavingWith p none c).member.departTimer = some 200000 ∧ (leavingWith p none c).path.phase = p ∧
      (leavingWith p none c).filter.context = none ∧ ((leavingWith p none c).expired o0 200000).send.context = c) ∧
    (leavingWith .forwarding (some .passing) .closed).filter.context = some (context .passing) ∧
    (context .passing).verdict ≠ .accepting ∧
    (leavingWith .forwarding (some .accepting) .closed).filter.context = some (context .accepting) ∧
    (leavingWith .forwarding (some .accepting) .closed).delivery.store = [] ++ [e1 .filling] ∧
    (e1 .filling).state = .filling := by decide

theorem witness_LinkLossIsCounted :
    run.resetPin = false ∧ run.receiver.lossTimer = some 3200 ∧ run.mode = .active ∧ (off .pass).receiver.lossTimer = some 3200 ∧
    (off .pass).mode ≠ .active := by decide
theorem witness_LinkLossIsCounted_together :
    (∀ s ∈ [lost (census .claiming), lost run, lost (off .pass), lost (off .isolated)],
      s.resetPin = false ∧ s.receiver.up = false ∧
      s.receiver.lostAt = some (max (max s.now (Instr.claimArrives o0 (claim 905)).occasion.time) s.receiver.nextFrame)) ∧
    (Instr.claimArrives o0 (claim 905)).isArrival = true ∧
    (∀ o r, Instr.claimArrives o0 (claim 905) = .badFrameArrives o r → r.undecoded.getLsbD 0 = false) ∧
    (lost run).member.station ≠ .isolated := ⟨by decide, rfl, nofun, by decide⟩
theorem witness_LinkLossIsCounted_inRun :
    run.member.station = .run ∧ ∃ v, exec (.linkLoss o0 true) run = .next v ∧ (3200 : Nat) ≤ v.now ∧
      v.receiver.nextFrame ≤ v.now ∧ (claim 905).mark ≠ 0 :=
  ⟨rfl, _, rfl, by decide, by decide, by decide⟩

/-- Station 2 in RUN, a member of group 3, with `n` fires scheduled. -/
def scheduled (n : Nat) : State :=
  { run with trigger := { TriggerUnit.atReset with
      membership := 8, schedule := List.replicate n { group := 3, source := 1, due := 450 } } }

theorem witness_TriggerArrives :
    (triggering .sent).Receiving ∧ (triggering .sent).mode = .active ∧ (Frame.trigger (trigger 2 3)).unusable = false ∧
    (triggering .sent).member.number = some (trigger 2 3).source ∧ ((triggering .sent).heard o0).trigger.own = .sent ∧
    (triggering .sent).trigger.group = some (trigger 2 3).group ∧
    (trigger 2 3).hop.toNat + 1 = (triggering .sent).member.ringSize.toNat ∧
    (triggering .sent).trigger.membership.getLsbD (trigger 2 3).group.toNat = false ∧
    (scheduled 0).trigger.membership.getLsbD (trigger 2 3).group.toNat = true ∧
    ((triggering .waiting).heard o0).trigger.own ≠ .sent ∧
    (trigger 2 2).hop.toNat + 1 ≠ (triggering .sent).member.ringSize.toNat ∧
    run.member.number ≠ some (trigger 1 3).source ∧ run.member.ringSize.toNat ≤ (trigger 1 3).hop.toNat + 1 ∧
    (trigger 1 2).hop.toNat + 1 < run.member.ringSize.toNat ∧ (scheduled 3).trigger.schedule.length < 4 ∧
    4 ≤ (scheduled 4).trigger.schedule.length := by decide

/-- Station 2 whose own HEAD begins at this very moment. -/
def begun : State := after (.attemptBegins o0) (sending .staged)

/-- Station 2 whose own frame `f` begins at this very moment. -/
def beginning (f : Frame) (s : State) : State := s.startAt 0 f true

theorem witness_TriggerArrives_tie :
    run.path.output = none ∧
    begun.path.output = some { frame := .head { ownHead with hop := 0 }, own := true, ends := 80 } ∧
    begun.outside.ringOut = [] ++ [{ frame := .head { ownHead with hop := 0 }, start := 0 }] ∧ begun.now = 0 ∧
    begun.path.insertion.isSome = true ∧ begun.send.head = some .inFlight ∧ begun.send.cancelRequested = false ∧
    begun.send.context = .closed ∧
    (∀ f ∈ [Frame.trigger (trigger 2 0), .announce (announce 2 77 0), .depart (depart 2 0), .data (data 2 0), .tail (tail 2 14)],
      ∀ s ∈ [triggering .sent, run, leaving, withInsertion 1 run],
      (beginning f s).path.output = some { frame := f, own := true, ends := s.now + 80 } ∧
      (beginning f s).outside.ringOut = [] ++ [{ frame := f, start := 0 }]) ∧
    (triggering .sent).trigger.own = .sent ∧ run.trigger.own ≠ .sent ∧ Membership.announce { run.member with announce := .sent } = .sent ∧
    run.member.announce ≠ .sent ∧ leaving.member.depart = .sent ∧ leaving.member.station = .leaving ∧ (withInsertion 1 run).path.insertion = some (insertion 1) ∧
    run.path.insertion = none ∧ (withInsertion 1 run).path.insertion ≠ none := by decide

theorem witness_TriggerTimersExpire :
    (scheduled 3).resetPin = false ∧
    (scheduled 3).trigger.schedule = [{ group := 3, source := 1, due := 450 }] ++ { group := 3, source := 1, due := 450 } ::
      [{ group := 3, source := 1, due := 450 }] ∧
    TriggerUnit.pulseTimer { TriggerUnit.atReset with pulseTimer := some 550, pin := true } = some 550 ∧
    (triggering .sent).trigger.returnTimer = some 200000 ∧ (triggering .sent).trigger.group = some 3 := by decide

/-- Requests of fetch and delivery. -/
def fetchRequest : Request := { write := false, start := 0x4000, words := 2, done := 0 }
def deliveryRequest : Request := { write := true, start := 0x403C0, words := 32, done := 31 }

theorem witness_ArbiterAlternates :
    fetching.bus.burst ≠ none ∧ run.bus.burst = none ∧ run.bus.loader = none ∧ run.bus.fetch = none ∧ run.bus.delivery = none ∧
    BusMaster.loader { run.bus with loader := some fetchRequest } = some fetchRequest ∧
    BusMaster.fetch { run.bus with fetch := some fetchRequest, delivery := some deliveryRequest } = some fetchRequest ∧
    BusMaster.delivery { run.bus with delivery := some deliveryRequest } = some deliveryRequest ∧
    BusMaster.lastGrant { run.bus with lastGrant := some .delivery } = some .delivery ∧ run.bus.lastGrant ≠ some .delivery ∧
    deliveryRequest.done < deliveryRequest.words ∧ 1 ≤ run.bus.burstLength := by decide

/-- A loader burst of more than one word, as no configuration makes one. -/
def loadingTwo : State :=
  { loading 0 with bus := { (loading 0).bus with
      burst := some { client := .loader, write := false, first := 0x100, words := 2, answered := 0 } } }

theorem witness_AnsweredWordIsTransferred :
    (∀ x ∈ [run, fetching, withInsertion 1 fetching, delivering .body 32 6, loadingTwo], x.at o0 = x ∧ x.resetPin = false) ∧
    run.bus.burst = none ∧ fetching.path.insertion = none ∧ (withInsertion 1 fetching).path.insertion ≠ none ∧
    fetching.bus.burst = some { client := .fetch, write := false, first := 0x4000, words := 2, answered := 0 } ∧
    fetching.bus.request .fetch = some fetchRequest ∧ 0 + 1 < 2 ∧ fetching.send.queue = entry :: [{ entry with tag := 0x43 }] ∧
    (delivering .body 32 6).bus.burst = some { client := .delivery, write := true, first := 0x40400, words := 8, answered := 6 } ∧
    (delivering .body 32 6).bus.request .delivery = some { write := true, start := 0x403C0, words := 32, done := 16 } ∧
    loadingTwo.bus.burst = some { client := .loader, write := false, first := 0x100, words := 2, answered := 0 } ∧
    loadingTwo.bus.request .loader = some { write := false, start := 0x100, words := 20, done := 0 } := by decide

/-- The fetch of `fetching` with a pending disposition. -/
def fetchingFor (d : Disposition) : State := { fetching with send := { fetching.send with disposition := some d } }

theorem witness_FailedBurstEndsRequest :
    (∀ x ∈ [loading 19, fetching, fetchingFor .left, fetchingFor .cancelled, delivering .body 32 2],
      x.at o0 = x ∧ x.resetPin = false ∧ (x.at o0).bus.timeout = some 6400 ∧
      (x.expired o0 6400).bus = x.bus ∧ (x.expired o0 6400).send = x.send) ∧
    (loading 19).bus.burst = some { client := .loader, write := false, first := 0x14C, words := 1, answered := 0 } ∧
    (loading 19).bus.request .loader = some { write := false, start := 0x100, words := 20, done := 19 } ∧
    fetching.bus.burst = some { client := .fetch, write := false, first := 0x4000, words := 2, answered := 0 } ∧
    fetching.bus.request .fetch = some fetchRequest ∧ fetching.send.disposition = none ∧
    (fetchingFor .left).bus = fetching.bus ∧ (fetchingFor .left).send.disposition = some .left ∧
    (fetchingFor .cancelled).bus = fetching.bus ∧ (fetchingFor .cancelled).send.disposition = some .cancelled ∧
    (delivering .body 32 2).bus.burst = some { client := .delivery, write := true, first := 0x40400, words := 8, answered := 2 } ∧
    (delivering .body 32 2).bus.request .delivery = some { write := true, start := 0x403C0, words := 32, done := 16 } ∧
    (delivering .body 32 2).delivery.engine = .delivering .body 0 7 ∧
    (delivering .body 32 2).delivery.store = e1 .delivering :: [] := by decide

/-- The fetch of `fetching` with its last word presented. -/
def fetchingLast : State :=
  { fetching with bus := { fetching.bus with
      burst := some { client := .fetch, write := false, first := 0x4000, words := 2, answered := 1 } } }

theorem witness_CompletedRequestTellsItsClient :
    (∀ x ∈ [fetchingLast, withInsertion 1 fetchingLast, delivering .body 32 7, loading 5], x.at o0 = x ∧ x.resetPin = false) ∧
    fetchingLast.path.insertion = none ∧ (withInsertion 1 fetchingLast).path.insertion ≠ none ∧
    fetchingLast.bus.burst = some { client := .fetch, write := false, first := 0x4000, words := 2, answered := 1 } ∧
    fetchingLast.bus.request .fetch = some fetchRequest ∧ 1 + 1 = 2 ∧ fetchRequest.words ≤ fetchRequest.done + 2 ∧
    fetchingLast.send.queue = entry :: [{ entry with tag := 0x43 }] ∧ fetchingLast.send.disposition = none ∧
    (∀ d ∈ [Disposition.cancelled, .left],
      SendUnit.disposition { fetchingLast.send with disposition := some d } = some d) ∧
    (loading 5).bus.burst = some { client := .loader, write := false, first := 0x114, words := 1, answered := 0 } ∧
    (loading 5).bus.request .loader = some { write := false, start := 0x100, words := 20, done := 5 } ∧ 5 + 1 < 20 ∧
    (delivering .body 32 7).bus.burst = some { client := .delivery, write := true, first := 0x40400, words := 8, answered := 7 } ∧
    (delivering .body 32 7).bus.request .delivery = some { write := true, start := 0x403C0, words := 32, done := 16 } ∧
    16 + 8 < 32 := by decide
theorem witness_CompletedRequestTellsItsClient_delivery :
    ∀ phase ∈ [Phase.body, .header1, .header0],
      (delivering phase 1 0).at o0 = delivering phase 1 0 ∧ (delivering phase 1 0).resetPin = false ∧
      (delivering phase 1 0).bus.burst = some { client := .delivery, write := true, first := 0x40400, words := 1, answered := 0 } ∧
      (delivering phase 1 0).bus.request .delivery = some { write := true, start := 0x403C0, words := 1, done := 0 } ∧
      (delivering phase 1 0).delivery.engine = .delivering phase 0 7 ∧
      (delivering phase 1 0).delivery.store = e1 .delivering :: [] := by decide

theorem witness_SlotWordsHoldTheRecord :
    ∀ phase ∈ [Phase.body, .header1, .header0],
      (delivering phase 1 0).delivery.store = e1 .delivering :: [] ∧
      (delivering phase 1 0).delivery.engine = .delivering phase 0 7 := by decide

/-- A valid record: mark 77, burst length 8, ring 0 of 2 slots, stream 9 into ring 0. -/
def validRecord : List Word := [77, 0x0804, 0, 1, 0x40000, 2, 0, 0, 0, 128, 0, 0, 9, 0, 0, 0, 0, 0, 0, 0]

theorem witness_RecordIsValidatedAndLoaded :
    (loading 19).at o0 = loading 19 ∧ (loading 19).resetPin = false ∧
    (loading 19).bus.burst = some { client := .loader, write := false, first := 0x14C, words := 1, answered := 0 } ∧
    (loading 19).bus.loader = some { write := false, start := 0x100, words := 20, done := 19 } ∧ 0 + 1 = 1 ∧ 20 ≤ 19 + 1 ∧
    recordFault ((loading 19).host.loadBuffer ++ [0]) = some (.mark, 0) ∧ recordFault validRecord = none ∧
    validRecord = validRecord.dropLast ++ [0] ∧ recordMark validRecord ≠ 0 ∧ recordRetryLimit validRecord ≤ 15 ∧
    recordBurstLength validRecord ∈ [1, 2, 4, 8] := by decide
theorem witness_RecordIsValidatedAndLoaded_checks :
    recordMark (validRecord.set 0 0x10000) = 0 ∧ 15 < recordRetryLimit (validRecord.set 1 0x0810) ∧
    recordBurstLength (validRecord.set 1 0x0304) ∉ [1, 2, 4, 8] ∧ recordSlots (validRecord.set 11 1) 3 = 1 ∧
    128 < recordSlots (validRecord.set 5 129) 0 ∧
    (∀ q, q < 3 → recordSlots (validRecord.set 11 1) q = 0 ∨
      2 ≤ recordSlots (validRecord.set 11 1) q ∧ recordSlots (validRecord.set 11 1) q ≤ 128) := by decide

/-- `validRecord` with three subscriptions, whose words are `w` and `x`. -/
def subscribing (w x : Word) : List Word := ((validRecord.set 3 3).set 12 w).set 13 x

theorem witness_RecordIsValidatedAndLoaded_subscriptions :
    (∀ words ∈ [validRecord.set 3 17, subscribing 0x00090009 0, subscribing 0x010A0009 0, subscribing 0x000A0009 0x000A],
      recordMark words ≠ 0 ∧ recordRetryLimit words ≤ 15 ∧ recordBurstLength words ∈ [1, 2, 4, 8] ∧
      ∀ q, q < 4 → recordSlots words q = 0 ∨ 2 ≤ recordSlots words q ∧ recordSlots words q ≤ 128) ∧
    16 < recordSubscriptionCount (validRecord.set 3 17) ∧
    recordSubscriptionCount (subscribing 0x00090009 0) = 3 ∧
    (recordSubscription (subscribing 0x00090009 0) 0).1 = (recordSubscription (subscribing 0x00090009 0) 1).1 ∧
    (recordSubscription (subscribing 0x010A0009 0) 0).1 ≠ (recordSubscription (subscribing 0x010A0009 0) 1).1 ∧
    recordSlots (subscribing 0x010A0009 0) (recordSubscription (subscribing 0x010A0009 0) 1).2.toNat < 2 ∧
    (recordSubscription (subscribing 0x000A0009 0x000A) 1).1 = (recordSubscription (subscribing 0x000A0009 0x000A) 2).1 := by
  decide

/-- QueueAndCollectorStaySound, MembershipStaysSound, SendUnitStaysSound, StoreAndRingsStaySound, PathAndTriggerStaySound and
BusStaysSound: a state that has the invariant and whose step answers a next state, and another that has it. -/
theorem witness_InvariantsStay :
    ({ run with pending := [.trigger o0 3] } : State).Inv ∧
      (∃ t, step { run with pending := [.trigger o0 3] } = .next t) ∧ (sending .inFlight).Inv ∧
      run.events.Sound ∧ run.host.Sound = true :=
  ⟨⟨by decide, by decide, by decide, by decide, by decide, by decide, by decide, by decide, by decide, by decide, by decide,
    by decide⟩,
    ⟨_, rfl⟩,
    ⟨by decide, by decide, by decide, by decide, by decide, by decide, by decide, by decide, by decide, by decide, by decide,
      by decide⟩,
    by decide, by decide⟩

end Sys2Proof.Tests
end

