-- ==== Sys2Proof/Proofs/BadFrames.lean ====
section
/-! PROOF. Bad and malformed frames (R3, R8, R9, R12): the state in which a bad frame is handled, the VOID put in its place,
and the equivalence of a malformed frame with a bad one wherever no frame's content is passed on. -/

namespace Sys2Proof.Machine

/-! ### The state in which a frame given by its content bits is handled -/

@[simp] theorem State.heardRaw_filter (s : State) (o : Occasion) (r : RawFrame) : (s.heardRaw o r).filter = s.filter := by
  rw [s.heardRaw_heard]; exact s.heard_filter o
@[simp] theorem State.heardRaw_counters (s : State) (o : Occasion) (r : RawFrame) :
    (s.heardRaw o r).counters = s.counters := by
  rw [s.heardRaw_heard]; exact s.heard_counters o
@[simp] theorem State.heardRaw_member_number (s : State) (o : Occasion) (r : RawFrame) :
    (s.heardRaw o r).member.number = s.member.number := by
  rw [s.heardRaw_heard]; exact s.heard_member_number o
@[simp] theorem State.heardRaw_send_context (s : State) (o : Occasion) (r : RawFrame) :
    (s.heardRaw o r).send.context = s.send.context := by
  rw [s.heardRaw_heard]; exact s.heard_send_context o
@[simp] theorem State.heardRaw_phase (s : State) (o : Occasion) (r : RawFrame) :
    (s.heardRaw o r).path.phase = s.path.phase := by
  rw [s.heardRaw_heard]; exact s.heard_phase o

/-- A bad frame whose last symbol decoded leaves no silence behind it, as a good frame does (R4). -/
theorem silence_of_last_decodes (r : RawFrame) (h : r.undecoded.getLsbD 0 = false) : r.silence = some 0 := by
  have hfind : (List.range 40).find? (fun i => !r.undecoded.getLsbD i) = some 0 := by
    rw [List.range_eq_range', List.range'_succ]
    exact List.find?_cons_of_pos (by simp only [h, Bool.not_false])
  simp [RawFrame.silence, hfind]

/-- The judgment of a frame changes no mode. -/
@[simp] theorem State.frameJudged_mode (s : State) (silence : Option Time) : (s.frameJudged silence).mode = s.mode := by
  obtain ⟨_, _, _, -, h⟩ := s.frameJudged_frame silence
  rw [h]; exact s.reach_mode _

/-- Outside transparent mode a decodable symbol changes no mode: only in ISOLATED is it a census entry (R41). -/
theorem State.symbolArrives_mode (s : State) (h : s.mode ≠ .transparent) : s.symbolArrives.mode = s.mode := by
  have hstation : s.member.station ≠ .isolated := fun hi => h (by simp [State.mode, hi, StationState.mode])
  unfold State.symbolArrives
  dsimp only
  rw [if_neg hstation, ite_self]
  rfl

/-- Outside transparent mode the step of an arrival depends on what its handling does outside transparent mode alone. -/
theorem arrivalStep_congr (o : Occasion) (silence : Option Time) {handle handle' : State → State} (s : State)
    (hmode : s.mode ≠ .transparent) (h : ∀ u : State, u.mode ≠ .transparent → handle u = handle' u) :
    arrivalStep o silence handle s = arrivalStep o silence handle' s := by
  have hjudged : ((s.at o).frameJudged silence).mode ≠ .transparent := by simpa using hmode
  have hsymbol : ((s.at o).frameJudged silence).symbolArrives.mode ≠ .transparent := by
    rwa [State.symbolArrives_mode _ hjudged]
  simp only [arrivalStep, State.live, State.receive, h _ hjudged, h _ hsymbol]

/-! ### What a bad frame does (R9, R12) -/

/-- In active mode a VOID is substituted for a bad frame (R12). -/
theorem State.badFrame_active (s : State) (f : Frame) (h : s.mode = .active) : s.badFrame f = s.substituteVoid := by
  simp [State.badFrame, h]

/-- Outside transparent mode, which alone passes its content on (R8), a bad frame's content does not count. -/
theorem State.badFrame_content (s : State) (f g : Frame) (h : s.mode ≠ .transparent) : s.badFrame f = s.badFrame g := by
  unfold State.badFrame
  split
  next ht => exact absurd ht h
  next => rfl
  next => rfl

/-- A malformed frame that is not a census frame is handled as a bad frame (R3). -/
theorem State.byMode_unusable (s : State) (f : Frame) (act : State → State) (h : f.unusable = true) :
    s.byMode f act = s.badFrame f := by simp [State.byMode, h]

/-- A malformed census frame is handled as a bad frame (R3). -/
theorem State.censusFrame_unusable (s : State) (f : Frame) (judge after : State → State) (h : f.unusable = true) :
    s.censusFrame f judge after = s.badFrame f := by simp [State.censusFrame, h]

/-- A VOID in a record whose context is not open damages nothing (R83). -/
theorem State.filterVoid_closed (s : State) (h : s.filter.context = none) : s.filterVoid = s := by
  simp [State.filterVoid, h]

/-- A VOID damages the open context (R83). -/
theorem State.filterVoid_open (s : State) (c : RecordContext) (h : s.filter.context = some c) :
    s.filterVoid = { s with filter := { s.filter with context := some { c with damaged := true } } } := by
  simp [State.filterVoid, h]

/-- A VOID inside the returning record of the current attempt is a fault of it (R62). -/
theorem State.ownVoid_current (s : State) (h : s.send.context = .openCurrent) :
    s.ownVoid = { s with send := { s.send with fault := true } } := by simp [State.ownVoid, h]

/-- A VOID inside any other returning record changes nothing (R62). -/
theorem State.ownVoid_other (s : State) (h : s.send.context ≠ .openCurrent) : s.ownVoid = s := by
  simp [State.ownVoid, h]

/-- The count of voided frames does not change which VOID the station substitutes. -/
@[simp] theorem State.countVoided_ownVoidBody (s : State) : s.countVoided.ownVoidBody = s.ownVoidBody := rfl

section Substitute
variable (s : State)

theorem State.substituteVoid_clear (h : s.path.phase = .clear) :
    s.substituteVoid = s.countVoided.forward (.void s.ownVoidBody) := by
  simp [State.substituteVoid, h]

theorem State.substituteVoid_forwarding (h : s.path.phase = .forwarding) :
    s.substituteVoid = s.countVoided.filterVoid.forward (.void s.ownVoidBody) := by
  simp [State.substituteVoid, h]

theorem State.substituteVoid_returning (h : s.path.phase = .returning) : s.substituteVoid = s.countVoided.ownVoid := by
  simp [State.substituteVoid, h]

theorem State.substituteVoid_orphan (h : s.path.phase = .orphan) : s.substituteVoid = s.countVoided := by
  simp [State.substituteVoid, h]

end Substitute

/-! ### The commands -/

theorem exec_badFrameArrives (o : Occasion) (r : RawFrame) (s : State) :
    exec (.badFrameArrives o r) s = arrivalStep o r.silence (·.badFrame (.raw r)) s := by
  rfl

/-- In RUN and LEAVING the step of a bad frame is the substitution of a VOID, in the state that has heard the frame. -/
theorem exec_badFrameArrives_active (o : Occasion) (r : RawFrame) (s : State) (h : s.Receiving) (hmode : s.mode = .active) :
    exec (.badFrameArrives o r) s = withinBypass (s.heardRaw o r).substituteVoid := by
  rw [exec_badFrameArrives, arrivalStep_receivingRaw o r _ s h, State.badFrame_active _ _ (by simpa using hmode)]

/-- R3: outside transparent mode, what handles a frame as a bad one answers what BAD_FRAME_ARRIVES answers for a bad frame
whose last symbol decoded. -/
theorem arrivalStep_badFrame (o : Occasion) (r : RawFrame) (s : State) (f : Frame) (handle : State → State)
    (hmode : s.mode ≠ .transparent) (hlast : r.undecoded.getLsbD 0 = false) (h : ∀ u : State, handle u = u.badFrame f) :
    arrivalStep o (some 0) handle s = exec (.badFrameArrives o r) s := by
  rw [exec_badFrameArrives, silence_of_last_decodes r hlast]
  exact arrivalStep_congr o (some 0) s hmode fun u hu => (h u).trans (u.badFrame_content f (.raw r) hu)

theorem noRingNumber_iff (n : BitVec 5) : noRingNumber n = true ↔ n = 0 ∨ n = 31 := by simp [noRingNumber]

/-- R3 for the frames that are not census frames. -/
theorem arrivalStep_byMode_unusable (o : Occasion) (r : RawFrame) (s : State) (f : Frame) (act : State → State)
    (hmode : s.mode ≠ .transparent) (hlast : r.undecoded.getLsbD 0 = false) (hf : f.unusable = true) :
    arrivalStep o (some 0) (·.byMode f act) s = exec (.badFrameArrives o r) s :=
  arrivalStep_badFrame o r s f _ hmode hlast (·.byMode_unusable f act hf)

/-- R3 for the census frames. -/
theorem arrivalStep_censusFrame_unusable (o : Occasion) (r : RawFrame) (s : State) (f : Frame)
    (judge after : State → State) (hmode : s.mode ≠ .transparent) (hlast : r.undecoded.getLsbD 0 = false)
    (hf : f.unusable = true) :
    arrivalStep o (some 0) (·.censusFrame f judge after) s = exec (.badFrameArrives o r) s :=
  arrivalStep_badFrame o r s f _ hmode hlast (·.censusFrame_unusable f judge after hf)

/-- Settles O24: R12 by the input phase, R3 by the two lemmas on what is handled as a bad frame. -/
theorem badFrameIsReplacedByVoid : Obligations.BadFrameIsReplacedByVoid := by
  refine ⟨fun s o r n hrec hmode hnumber => ⟨_, rfl, ?replaced⟩, fun s o r hmode hlast => ?malformed⟩
  case replaced =>
    have ⟨_, _, hroom⟩ := hrec
    have hplace : (s.heardRaw o r).path.bypass.length < 72 := (s.heardRaw_bypass_length o r).trans_lt hroom
    have hcounted : { s.heardRaw o r with
        counters := { s.counters with framesVoided := saturatingInc s.counters.framesVoided } } =
        (s.heardRaw o r).countVoided := by simp [State.countVoided]
    have hvoid : (s.heardRaw o r).ownVoidBody = { station := n, spare := 0, hop := 0 } := by
      simp [State.ownVoidBody, hnumber]
    rw [hcounted, exec_badFrameArrives_active o r s hrec hmode, ← hvoid]
    refine ⟨?forwarded, fun c hphase hcontext => ?damaged, fun hphase hcontext => ?fault, ?stripped⟩
    case forwarded =>
      rintro (hphase | ⟨hphase, hcontext⟩)
      · rw [State.substituteVoid_clear _ (by simpa using hphase)]
        exact withinBypass_forward _ hplace
      · rw [State.substituteVoid_forwarding _ (by simpa using hphase), State.filterVoid_closed _ (by simpa using hcontext)]
        exact withinBypass_forward _ hplace
    case damaged =>
      rw [State.substituteVoid_forwarding _ (by simpa using hphase), State.filterVoid_open _ c (by simpa using hcontext),
        State.countVoided_filter, State.heardRaw_filter]
      exact withinBypass_forward _ hplace
    case fault =>
      rw [State.substituteVoid_returning _ (by simpa using hphase), State.ownVoid_current _ (by simpa using hcontext)]
      exact withinBypass_next hplace.le
    case stripped =>
      rintro (⟨hphase, hcontext⟩ | hphase)
      · rw [State.substituteVoid_returning _ (by simpa using hphase), State.ownVoid_other _ (by simpa using hcontext)]
        exact withinBypass_next hplace.le
      · rw [State.substituteVoid_orphan _ (by simpa using hphase)]
        exact withinBypass_next hplace.le
  case malformed =>
    have record (f : Frame) (act : State → State) := arrivalStep_byMode_unusable o r s f act hmode hlast
    have census (f : Frame) (judge after : State → State) :=
      arrivalStep_censusFrame_unusable o r s f judge after hmode hlast
    refine ⟨fun b h => record (.head b) _ ?_, fun b h => record (.data b) _ ?_, fun b h => record (.tail b) _ ?_,
      fun b h => census (.claim b) _ _ ?_, fun b h => census (.number b) _ _ ?_, fun b h => census (.ringUp b) _ _ ?_,
      fun b h => record (.announce b) _ ?_, fun b h => record (.trigger b) _ ?_, fun b h => record (.void b) _ ?_,
      fun b h => record (.depart b) _ ?_⟩
    all_goals simpa [Frame.unusable, noRingNumber_iff, or_assoc] using h

end Sys2Proof.Machine
end

section
/-! PROOF. Frames at the membership unit (R26, R27, R32 to R37, R44, R46, R47): the CLAIM and the NUMBER at a station in
CENSUS, the ANNOUNCE and the DEPART at a station in RUN or LEAVING with no record open, one equation for each case of the
rules, and the statements on the four commands. -/

namespace Sys2Proof.Machine

/-! ### The state in which a frame that can be received is handled -/

theorem State.heard_bypass_room (s : State) (o : Occasion) (h : s.Receiving) : (s.heard o).path.bypass.length < 72 := by
  obtain ⟨-, -, hroom⟩ := h
  exact (s.heard_bypass_length o).trans_lt hroom

/-- A good census frame at a station in CENSUS is judged as it stands (R9). -/
theorem State.censusFrame_census (s : State) (f : Frame) (judge after : State → State) (hf : f.unusable = false)
    (hmode : s.mode = .census) : s.censusFrame f judge after = judge s := by
  simp [State.censusFrame, hf, hmode]

/-- A good frame at a station in RUN or LEAVING is handled as active mode handles it (R11). -/
theorem State.byMode_active (s : State) (f : Frame) (act : State → State) (hf : f.unusable = false)
    (hmode : s.mode = .active) : s.byMode f act = act s := by
  simp [State.byMode, hf, hmode]

theorem State.mode_census (s : State) (h : s.member.station = .census) : s.mode = .census := by
  simp [State.mode, h, StationState.mode]

/-- A station in CENSUS is not on the ring. -/
theorem State.onRing_census (s : State) (h : s.member.station = .census) : s.onRing = false := by
  simp [State.onRing, s.mode_census h]

theorem State.isOwn_iff (s : State) (n : BitVec 5) : s.isOwn n = true ↔ s.member.number = some n := by
  simp [State.isOwn]

theorem State.orphanHop_iff (s : State) (hop : BitVec 5) :
    s.orphanHop hop = true ↔ s.member.ringSize.toNat ≤ hop.toNat + 1 := by
  simp [State.orphanHop]

theorem State.returnHop_iff (s : State) (hop : BitVec 5) :
    s.returnHop hop = true ↔ hop.toNat + 1 = s.member.ringSize.toNat := by
  simp [State.returnHop]

/-! ### What entering CENSUS, BARRED and PASS leaves in the bypass buffer (R10) -/

theorem State.ringLeft_path (s : State) (onRing : Bool) (cause : Option StateCause) :
    (s.ringLeft onRing cause).path = s.path := by
  obtain ⟨_, _, _, _, h⟩ := s.ringLeft_frame onRing cause
  rw [h]

theorem State.openCensus_bypass (s : State) : s.openCensus.path.bypass = [] := by
  obtain ⟨_, _, _, _, _, _, -, hpath, h⟩ := s.openCensus_frame
  rw [h, hpath]

/-- A census entry empties the bypass buffer. -/
@[simp] theorem State.enterCensus_bypass (s : State) (cause : StateCause) : (s.enterCensus cause).path.bypass = [] := by
  unfold State.enterCensus
  split
  · simp only [State.censusEntryLeaving, State.ringLeft_path, State.openCensus_bypass]
  · rw [State.censusEntry, State.ringLeft_path]
    exact s.openCensus_bypass

/-- A change to BARRED keeps the frames of the bypass buffer. -/
@[simp] theorem State.enterBarred_bypass (s : State) : s.enterBarred.path.bypass = s.path.bypass := by
  unfold State.enterBarred
  dsimp only
  rw [State.ringLeft_path]
  split
  · obtain ⟨_, _, _, hmode⟩ := s.leaveMode_frame
    obtain ⟨_, _, _, hfilter⟩ := s.leaveMode.filterDiscard_frame
    rw [hfilter, hmode]
    rfl
  · rfl

/-- In census mode a change to BARRED withdraws the own census frame itself (R43). -/
theorem State.enterBarred_withdraw (s : State) (h : s.onRing = false) :
    s.withdrawCensusFrame.enterBarred = s.enterBarred := by
  have hw : s.withdrawCensusFrame.onRing = false := h
  simp only [State.enterBarred, h, hw]
  rfl

/-- With no record open on the input a change of mode ends the own record and nothing else (R10). -/
theorem State.leaveMode_clear (s : State) (h : s.path.phase = .clear) : s.leaveMode = s.endInsertion := by
  obtain ⟨⟩ := s
  simp_all [State.leaveMode, State.endInsertion]

/-! ### A NUMBER at a station in CENSUS (R36, R37, R44) -/

theorem exec_numberArrives (o : Occasion) (b : NumberBody) (s : State) :
    exec (.numberArrives o b) s =
      arrivalStep o (some 0) (·.censusFrame (.number b) (·.censusNumber b) id) s := by
  rfl

theorem exec_numberArrives_census (o : Occasion) (b : NumberBody) (s : State) (h : s.Receiving)
    (hstation : s.member.station = .census) (hcount : b.count ≠ 0) :
    exec (.numberArrives o b) s = withinBypass ((s.heard o).censusNumber b) := by
  rw [exec_numberArrives, arrivalStep_receiving o _ s h]
  exact congrArg withinBypass (State.censusFrame_census _ _ _ _ (by simpa [Frame.unusable] using hcount)
    (State.mode_census _ (by simpa using hstation)))

section CensusNumber
variable (s : State) (b : NumberBody)

/-- With the leave pending a NUMBER is forwarded (R44). -/
theorem State.censusNumber_leavePending (h : s.member.leavePending = true) :
    s.censusNumber b = s.cutThrough (.number b) := by
  simp [State.censusNumber, h]

variable (hleave : s.member.leavePending = false)
include hleave

/-- A station without a number takes a count of 30 or less, and the NUMBER goes on with the next (R36). -/
theorem State.censusNumber_taken (hsub : s.member.sub = some .claiming ∨ s.member.sub = some .deferred)
    (hcount : b.count.toNat ≤ 30) (hover : b.overfull = false) :
    s.censusNumber b = State.cutThrough
      { s.withdrawCensusFrame with
        member := { s.member with provisional := some b.count, sub := some .numbered } }
      (.number { count := b.count + 1, overfull := false, spare := b.spare }) := by
  rcases hsub with hsub | hsub <;> simp [State.censusNumber, hleave, hsub, hcount, hover]

/-- A station for which no number is left marks the NUMBER overfull (R36). -/
theorem State.censusNumber_overfull (hsub : s.member.sub = some .claiming ∨ s.member.sub = some .deferred)
    (hnone : ¬(b.count.toNat ≤ 30 ∧ b.overfull = false)) :
    s.censusNumber b = State.cutThrough
      { s.withdrawCensusFrame with member := { s.member with sub := some .deferred } }
      (.number { count := 31, overfull := true, spare := b.spare }) := by
  rcases hsub with hsub | hsub <;> simp [State.censusNumber, hleave, hsub, hnone]

/-- A station that has its number discards a further NUMBER (R36, R37). -/
theorem State.censusNumber_discarded (hsub : s.member.sub = some .numbered ∨ s.member.sub = some .closing) :
    s.censusNumber b = s := by
  rcases hsub with hsub | hsub <;> simp [State.censusNumber, hleave, hsub]

/-- The originator discards a NUMBER that arrives before its own has begun (R37). -/
theorem State.censusNumber_notSent (hsub : s.member.sub = some .counting) (hsent : s.member.numberSent = none) :
    s.censusNumber b = s := by
  simp [State.censusNumber, hleave, hsub, hsent]

theorem State.censusNumber_returned (hsub : s.member.sub = some .counting) (sent : Time)
    (hsent : s.member.numberSent = some sent) : s.censusNumber b = s.numberReturned b sent := by
  simp [State.censusNumber, hleave, hsub, hsent]

end CensusNumber

theorem State.numberReturned_restart (s : State) (b : NumberBody) (sent : Time) (hcount : b.count = 1)
    (hover : b.overfull = false) : s.numberReturned b sent = s.startAttempt := by
  simp [State.numberReturned, hcount, hover]

theorem State.numberReturned_closes (s : State) (b : NumberBody) (sent : Time)
    (h : ¬(b.count = 1 ∧ b.overfull = false)) :
    s.numberReturned b sent =
      { s with
        member := { s.member with
          pendingSize := returnedSize b
          pendingHop := measuredHopTime (s.now - sent) (returnedSize b)
          sub := some .closing }
        path := { s.path with
          ownCensus := some (.ringUp { size := returnedSize b, overfull := b.overfull, spare := 0
                                       hopTime := measuredHopTime (s.now - sent) (returnedSize b) }) } } := by
  rw [State.numberReturned, if_neg h]

/-- The count of a returned NUMBER is one more than the number of stations, where it is not overfull (R37). -/
theorem returnedSize_toNat (b : NumberBody) (h : b.count ≠ 0) :
    (returnedSize b).toNat = if b.overfull then 30 else b.count.toNat - 1 := by
  have hpos : b.count.toNat ≠ 0 := fun h0 => h (BitVec.eq_of_toNat_eq h0)
  unfold returnedSize
  split
  · rfl
  · rw [BitVec.toNat_sub_of_le (by rw [BitVec.le_def]; exact Nat.one_le_iff_ne_zero.mpr hpos)]
    rfl

/-- The hop time fits its 16 bits, as it saturates (R37). -/
theorem measuredHopTime_toNat (roundTrip : Time) (size : BitVec 5) :
    (measuredHopTime roundTrip size).toNat = min (roundTrip / size.toNat) 65535 := by
  rw [measuredHopTime, BitVec.toNat_ofNat]
  exact Nat.mod_eq_of_lt (by omega)

/-- Settles O39: R36 by the sub-state, R37 by the count that returns. -/
theorem numberingGivesNumbers : Obligations.NumberingGivesNumbers := by
  intro s o b hrec hstation hcount
  have hplace := s.heard_bypass_room o hrec
  rw [exec_numberArrives_census o b s hrec hstation hcount, ← s.heard_member_mark o, ← s.heard_member_sub o,
    ← s.heard_member_leavePending o]
  generalize s.heard o = t at *
  refine ⟨t, _, rfl, rfl, fun hleave => ?pending, fun hleave => ⟨fun hsub => ⟨fun hle hover => ?taken,
    fun hnone => ?overfull⟩, fun hsub => ?discarded, fun hsub hsent => ?notSent,
    fun sent hsub hsent => ⟨fun hone hover => ?restart, fun hmore => ?closes⟩⟩⟩
  case pending =>
    rw [t.censusNumber_leavePending b hleave]
    exact withinBypass_cutThrough _ hplace
  case taken =>
    rw [t.censusNumber_taken b hleave hsub hle hover]
    exact withinBypass_cutThrough _ hplace
  case overfull =>
    have hnot : ¬(b.count.toNat ≤ 30 ∧ b.overfull = false) := by
      rintro ⟨hle, hover⟩
      rcases hnone with h31 | hfull
      · omega
      · simp [hover] at hfull
    rw [t.censusNumber_overfull b hleave hsub hnot]
    exact withinBypass_cutThrough _ hplace
  case discarded =>
    rw [t.censusNumber_discarded b hleave hsub]
    exact withinBypass_next hplace.le
  case notSent =>
    rw [t.censusNumber_notSent b hleave hsub hsent]
    exact withinBypass_next hplace.le
  case restart =>
    rw [t.censusNumber_returned b hleave hsub sent hsent, t.numberReturned_restart b sent hone hover]
    exact withinBypass_next hplace.le
  case closes =>
    have hnot : ¬(b.count = 1 ∧ b.overfull = false) := by
      rintro ⟨hone, hover⟩
      simp [hone, hover] at hmore
    rw [t.censusNumber_returned b hleave hsub sent hsent, t.numberReturned_closes b sent hnot]
    exact ⟨returnedSize b, _, returnedSize_toNat b hcount, measuredHopTime_toNat _ _, withinBypass_next hplace.le⟩

/-! ### A CLAIM at a station in CENSUS (R32 to R35, R44) -/

theorem exec_claimArrives (o : Occasion) (b : ClaimBody) (s : State) :
    exec (.claimArrives o b) s =
      arrivalStep o (some 0) (·.censusFrame (.claim b) (·.censusClaim b) (·.censusClaim b)) s := by
  rfl

theorem exec_claimArrives_census (o : Occasion) (b : ClaimBody) (s : State) (h : s.Receiving)
    (hstation : s.member.station = .census) (hmark : b.mark ≠ 0) :
    exec (.claimArrives o b) s = withinBypass ((s.heard o).censusClaim b) := by
  rw [exec_claimArrives, arrivalStep_receiving o _ s h]
  exact congrArg withinBypass (State.censusFrame_census _ _ _ _ (by simpa [Frame.unusable] using hmark)
    (State.mode_census _ (by simpa using hstation)))

section JudgeElection
variable (s : State) (b : ClaimBody)

/-- A higher mark is forwarded and the station defers (R32). -/
theorem State.judgeElection_higher (h : s.member.mark < b.mark) :
    s.judgeElection b =
      State.cutThrough { s.withdrawCensusFrame with member := { s.member with sub := some .deferred } } (.claim b) := by
  rw [State.judgeElection, if_pos h]

/-- A lower mark is discarded (R32). -/
theorem State.judgeElection_lower (h : b.mark < s.member.mark) : s.judgeElection b = s := by
  rw [State.judgeElection, if_neg (BitVec.lt_asymm h), if_pos h]

/-- The own mark of a CLAIM that has begun makes the station the originator (R32, R35). -/
theorem State.judgeElection_own (h : b.mark = s.member.mark) (hbegun : s.member.claimBegun = true) :
    s.judgeElection b = s.becomeOriginator := by
  simp [State.judgeElection, h, hbegun]

/-- The own mark with no own CLAIM begun is a mark clash (R32, R33). -/
theorem State.judgeElection_clash (h : b.mark = s.member.mark) (hbegun : s.member.claimBegun = false) :
    s.judgeElection b = s.markClash.forward (.claim b) := by
  simp [State.judgeElection, h, hbegun]

end JudgeElection

section CensusClaim
variable (s : State) (b : ClaimBody)

/-- With the leave pending a CLAIM is forwarded whatever its mark (R44). -/
theorem State.censusClaim_leavePending (h : s.member.leavePending = true) :
    s.censusClaim b = s.cutThrough (.claim b) := by
  simp [State.censusClaim, h]

variable (hleave : s.member.leavePending = false)
include hleave

/-- A station in CLAIMING or DEFERRED judges a CLAIM in the attempt it is in (R32). -/
theorem State.censusClaim_judged (hsub : s.member.sub = some .claiming ∨ s.member.sub = some .deferred) :
    s.censusClaim b = s.judgeElection b := by
  rcases hsub with hsub | hsub <;> simp [State.censusClaim, hleave, hsub]

theorem State.censusClaim_numbered (hsub : s.member.sub = some .numbered) :
    s.censusClaim b = s.startAttempt.judgeElection b := by
  simp [State.censusClaim, hleave, hsub]

/-- A station past CLAIMING and DEFERRED judges a CLAIM of another mark in a new attempt (R34). -/
theorem State.censusClaim_restarts
    (hsub : s.member.sub = some .numbered ∨ s.member.sub = some .counting ∨ s.member.sub = some .closing)
    (hmark : b.mark ≠ s.member.mark) : s.censusClaim b = s.startAttempt.judgeElection b := by
  rcases hsub with hsub | hsub | hsub <;> simp [State.censusClaim, hleave, hsub, hmark]

/-- The originator that meets its own mark again has a mark clash (R34). -/
theorem State.censusClaim_clash (hsub : s.member.sub = some .counting ∨ s.member.sub = some .closing)
    (hmark : b.mark = s.member.mark) : s.censusClaim b = s.markClash.forward (.claim b) := by
  rcases hsub with hsub | hsub <;> simp [State.censusClaim, hleave, hsub, hmark]

end CensusClaim

/-- A change to BARRED by a mark clash keeps the frames of the bypass buffer. -/
@[simp] theorem State.markClash_bypass (s : State) : s.markClash.path.bypass = s.path.bypass :=
  State.enterBarred_bypass _

/-- A mark clash in an attempt just started sends no CLAIM of that attempt (R33, R43). -/
theorem State.startAttempt_markClash (s : State) (h : s.member.station = .census) :
    s.startAttempt.markClash = s.startAttempt.withdrawCensusFrame.enterBarred :=
  (State.enterBarred_withdraw s.startAttempt (State.onRing_census _ h)).symm

/-- Settles O38: the leave pending, the election in the attempt, and the election in a new attempt, each by mark. -/
theorem electionJudgesClaims : Obligations.ElectionJudgesClaims := by
  intro s o b hrec hstation hmark
  have hplace := s.heard_bypass_room o hrec
  have hcensus : (s.heard o).member.station = .census := by simpa using hstation
  rw [exec_claimArrives_census o b s hrec hstation hmark, ← s.heard_member_mark o, ← s.heard_member_sub o,
    ← s.heard_member_leavePending o]
  generalize s.heard o = t at *
  have hclash : t.markClash.path.bypass.length < 72 := by simpa using hplace
  refine ⟨t, _, rfl, rfl, fun hleave => ?pending, fun hleave => ⟨fun hsub => ?inAttempt,
    fun hsub => ⟨fun hhigh => ?defers, fun hlow => ?restarts⟩, fun hsub hown => ?numberedClash,
    fun hsub hown => ?originatorClash⟩⟩
  case pending =>
    rw [t.censusClaim_leavePending b hleave]
    exact withinBypass_cutThrough _ hplace
  case inAttempt =>
    rw [t.censusClaim_judged b hleave hsub]
    refine ⟨fun hhigh => ?higher, fun hlow => ?lower, fun hown hbegun => ?own, fun hown hbegun => ?clash⟩
    case higher =>
      rw [t.judgeElection_higher b hhigh]
      exact withinBypass_cutThrough _ hplace
    case lower =>
      rw [t.judgeElection_lower b hlow]
      exact withinBypass_next hplace.le
    case own =>
      rw [t.judgeElection_own b hown hbegun]
      exact withinBypass_next hplace.le
    case clash =>
      rw [t.judgeElection_clash b hown hbegun]
      exact withinBypass_forward _ hclash
  case defers =>
    rw [t.censusClaim_restarts b hleave hsub (BitVec.ne_of_lt hhigh).symm, t.startAttempt.judgeElection_higher b hhigh]
    exact withinBypass_cutThrough _ hplace
  case restarts =>
    rw [t.censusClaim_restarts b hleave hsub (BitVec.ne_of_lt hlow), t.startAttempt.judgeElection_lower b hlow]
    exact withinBypass_next hplace.le
  case numberedClash =>
    have hroom : t.startAttempt.markClash.path.bypass.length < 72 := by rw [State.markClash_bypass]; exact hplace
    rw [t.censusClaim_numbered b hleave hsub, t.startAttempt.judgeElection_clash b hown rfl,
      withinBypass_forward _ hroom, t.startAttempt_markClash hcensus]
    rfl
  case originatorClash =>
    rw [t.censusClaim_clash b hleave hsub hown]
    exact withinBypass_forward _ hclash

/-! ### An ANNOUNCE at a station in RUN or LEAVING (R14, R46, R47) -/

theorem exec_announceArrives (o : Occasion) (b : AnnounceBody) (s : State) :
    exec (.announceArrives o b) s = arrivalStep o (some 0) (·.byMode (.announce b) (·.activeAnnounce b)) s := by
  rfl

theorem exec_announceArrives_active (o : Occasion) (b : AnnounceBody) (s : State) (h : s.Receiving)
    (hmode : s.mode = .active) (hgood : (Frame.announce b).unusable = false) :
    exec (.announceArrives o b) s = withinBypass ((s.heard o).activeAnnounce b) := by
  rw [exec_announceArrives, arrivalStep_receiving o _ s h]
  exact congrArg withinBypass (State.byMode_active _ _ _ hgood (by simpa using hmode))

section ActiveAnnounce
variable (s : State) (b : AnnounceBody) (hclear : s.path.phase = .clear)
include hclear

theorem State.activeAnnounce_own (h : s.member.number = some b.number) : s.activeAnnounce b = s.ownAnnounce b := by
  rw [State.activeAnnounce, s.truncate_clear hclear]
  exact if_pos ((s.isOwn_iff _).mpr h)

theorem State.activeAnnounce_orphan (h : s.member.number ≠ some b.number)
    (hhop : s.member.ringSize.toNat ≤ b.hop.toNat + 1) : s.activeAnnounce b = s.countOrphan := by
  rw [State.activeAnnounce, s.truncate_clear hclear]
  exact (if_neg (mt (s.isOwn_iff _).mp h)).trans (if_pos ((s.orphanHop_iff _).mpr hhop))

theorem State.activeAnnounce_other (h : s.member.number ≠ some b.number)
    (hhop : b.hop.toNat + 1 < s.member.ringSize.toNat) : s.activeAnnounce b = s.otherAnnounce b := by
  rw [State.activeAnnounce, s.truncate_clear hclear]
  exact (if_neg (mt (s.isOwn_iff _).mp h)).trans (if_neg (mt (s.orphanHop_iff _).mp hhop.not_ge))

end ActiveAnnounce

/-- The return of the own ANNOUNCE: SENT, with the own mark, once around the ring (R47). -/
theorem State.isOwnAnnounce_iff (s : State) (b : AnnounceBody) : s.isOwnAnnounce b = true ↔
    s.member.announce = .sent ∧ b.mark = s.member.mark ∧ b.hop.toNat + 1 = s.member.ringSize.toNat := by
  simp [State.isOwnAnnounce, State.returnHop_iff, and_assoc]

section OwnAnnounce
variable (s : State) (b : AnnounceBody)

theorem State.ownAnnounce_returned (h : s.isOwnAnnounce b = true) :
    s.ownAnnounce b = { s with member := { s.member with announce := .none } } := by
  rw [State.ownAnnounce, if_pos h]

/-- The own mark under the own number in a frame that is not the own return bars the station (R47). -/
theorem State.ownAnnounce_clash (h : ¬s.isOwnAnnounce b = true) (hmark : b.mark = s.member.mark) :
    s.ownAnnounce b = s.enterBarred.forward (.announce b) := by
  rw [State.ownAnnounce, if_neg h, if_pos hmark]

/-- Another mark under the own number is a conflict of the roster (R47). -/
theorem State.ownAnnounce_conflict (hmark : b.mark ≠ s.member.mark) :
    s.ownAnnounce b = s.enterCensus .rosterConflict := by
  have h : ¬s.isOwnAnnounce b = true := fun hown => by
    obtain ⟨-, hsame, -⟩ := (s.isOwnAnnounce_iff b).mp hown
    exact hmark hsame
  rw [State.ownAnnounce, if_neg h, if_neg hmark]

end OwnAnnounce

/-- A mark held elsewhere stands at a position of the roster whose ring number is another. -/
theorem rosterHoldsElsewhere_iff (roster : Vector (Option (BitVec 16)) 30) (n : BitVec 5) (mark : BitVec 16)
    (hn : n ≠ 0) : rosterHoldsElsewhere roster n mark = true ↔
      ∃ i : Fin 30, i.val + 1 ≠ n.toNat ∧ roster[i] = some mark := by
  have hpos : n.toNat ≠ 0 := fun h => hn (BitVec.eq_of_toNat_eq h)
  simp only [rosterHoldsElsewhere, List.any_eq_true, List.mem_range, Bool.and_eq_true, beq_iff_eq, bne_iff_ne]
  constructor
  · rintro ⟨i, hi, hmark, hne⟩
    rw [Vector.getElem?_eq_getElem hi] at hmark
    exact ⟨⟨i, hi⟩, fun h => hne (by simp only at h; omega), Option.some.inj hmark⟩
  · rintro ⟨⟨i, hi⟩, hne, hmark⟩
    refine ⟨i, hi, ?_, fun h => hne (by simp only; omega)⟩
    rw [Vector.getElem?_eq_getElem hi]
    exact congrArg some hmark

/-- The three conflicts that an ANNOUNCE of another number and another mark can meet (R46). -/
def State.announceConflict (s : State) (b : AnnounceBody) : Prop :=
  s.member.ringSize.toNat < b.number.toNat ∨
    (∃ i : Fin 30, i.val + 1 ≠ b.number.toNat ∧ s.member.roster[i] = some b.mark) ∨
    ∃ m, tableEntry s.member.roster b.number = some m ∧ m ≠ b.mark

section OtherAnnounce
variable (s : State) (b : AnnounceBody)

/-- The own mark at another number is a mark clash (R46). -/
theorem State.otherAnnounce_clash (hmark : b.mark = s.member.mark) :
    s.otherAnnounce b = s.enterBarred.forward (.announce b) :=
  if_pos hmark

variable (hmark : b.mark ≠ s.member.mark) (hnumber : b.number ≠ 0)
include hmark hnumber

theorem State.otherAnnounce_conflict (h : s.announceConflict b) :
    s.otherAnnounce b = s.enterCensus .rosterConflict := by
  unfold State.otherAnnounce
  rw [if_neg hmark]
  rcases h with hsize | helsewhere | ⟨m, hentry, hm⟩
  · rw [if_pos hsize]
  · rw [if_pos ((rosterHoldsElsewhere_iff _ _ _ hnumber).mpr helsewhere), ite_self]
  · simp [hentry, hm]

/-- Without a conflict the roster entry is written and the ANNOUNCE goes on (R46). -/
theorem State.otherAnnounce_written (h : ¬s.announceConflict b) :
    s.otherAnnounce b = State.forward
      { s with member := { s.member with roster := tableSet s.member.roster b.number (some b.mark) } }
      (.announce { b with hop := b.hop + 1 }) := by
  simp only [State.announceConflict, not_or] at h
  obtain ⟨hsize, helsewhere, hentry⟩ := h
  have hfree : ¬(tableEntry s.member.roster b.number ≠ none ∧ tableEntry s.member.roster b.number ≠ some b.mark) := by
    rintro ⟨hsome, hother⟩
    obtain ⟨m, hm⟩ := Option.ne_none_iff_exists'.mp hsome
    exact hentry ⟨m, hm, fun hmm => hother (hmm ▸ hm)⟩
  unfold State.otherAnnounce
  rw [if_neg hmark, if_neg hsize, if_neg (mt (rosterHoldsElsewhere_iff _ _ _ hnumber).mp helsewhere), if_neg hfree]

end OtherAnnounce

/-- A good ANNOUNCE names a ring number (R3). -/
theorem announce_number_ne_zero (b : AnnounceBody) (h : (Frame.announce b).unusable = false) : b.number ≠ 0 := by
  intro hzero
  simp [Frame.unusable, noRingNumber, hzero] at h

/-- Settles O41: the own number (R47), the orphan (R14), and another station's number (R46). -/
theorem announceIsJudged : Obligations.AnnounceIsJudged := by
  intro s o b hrec hmode hgood hphase
  have hplace := s.heard_bypass_room o hrec
  have hclear : (s.heard o).path.phase = .clear := by simpa using hphase
  have hnumber := announce_number_ne_zero b hgood
  rw [exec_announceArrives_active o b s hrec hmode hgood, ← s.heard_member_mark o, ← s.heard_member_number o,
    ← s.heard_member_ringSize o, ← s.heard_member_roster o, ← s.heard_counters o]
  generalize s.heard o = t at *
  have hbarred : t.enterBarred.path.bypass.length < 72 := by simpa using hplace
  have hcensus : (t.enterCensus .rosterConflict).path.bypass.length ≤ 72 := by simp
  refine ⟨t, rfl, fun hown => ?own, fun hother hhop => ?orphan, fun hother hhop => ?other⟩
  case own =>
    rw [t.activeAnnounce_own b hclear hown]
    refine ⟨fun hsent hmark hhop => ?returned, fun hnot hmark => ?ownClash, fun hmark => ?ownConflict⟩
    case returned =>
      rw [t.ownAnnounce_returned b ((t.isOwnAnnounce_iff b).mpr ⟨hsent, hmark, hhop⟩)]
      exact withinBypass_next hplace.le
    case ownClash =>
      have hforeign : ¬t.isOwnAnnounce b = true := fun h => by
        obtain ⟨hsent, -, hhop⟩ := (t.isOwnAnnounce_iff b).mp h
        exact hnot.elim (· hsent) (· hhop)
      rw [t.ownAnnounce_clash b hforeign hmark]
      exact withinBypass_forward _ hbarred
    case ownConflict =>
      rw [t.ownAnnounce_conflict b hmark]
      exact withinBypass_next hcensus
  case orphan =>
    rw [t.activeAnnounce_orphan b hclear hother hhop]
    exact withinBypass_next hplace.le
  case other =>
    rw [t.activeAnnounce_other b hclear hother hhop]
    refine ⟨fun hmark => ?clash, fun hmark => ⟨fun hconflict => ?conflict, fun hsize hroster hentry => ?written⟩⟩
    case clash =>
      rw [t.otherAnnounce_clash b hmark]
      exact withinBypass_forward _ hbarred
    case conflict =>
      rw [t.otherAnnounce_conflict b hmark hnumber hconflict]
      exact withinBypass_next hcensus
    case written =>
      have hfree : ¬t.announceConflict b := by
        rintro (hlarge | ⟨i, hi, hheld⟩ | ⟨m, hm, hne⟩)
        · omega
        · exact hi (hroster i hheld)
        · exact hne (hentry m hm)
      rw [t.otherAnnounce_written b hmark hnumber hfree]
      exact withinBypass_forward _ hplace

/-! ### A DEPART at a station in RUN or LEAVING (R14, R26, R27) -/

theorem exec_departArrives (o : Occasion) (b : DepartBody) (s : State) :
    exec (.departArrives o b) s = arrivalStep o (some 0) (·.byMode (.depart b) (·.activeDepart b)) s := by
  rfl

theorem exec_departArrives_active (o : Occasion) (b : DepartBody) (s : State) (h : s.Receiving)
    (hmode : s.mode = .active) (hgood : (Frame.depart b).unusable = false) :
    exec (.departArrives o b) s = withinBypass ((s.heard o).activeDepart b) := by
  rw [exec_departArrives, arrivalStep_receiving o _ s h]
  exact congrArg withinBypass (State.byMode_active _ _ _ hgood (by simpa using hmode))

section ActiveDepart
variable (s : State) (b : DepartBody) (hclear : s.path.phase = .clear)
include hclear

theorem State.activeDepart_own (h : s.member.number = some b.source) : s.activeDepart b = s.ownDepart b := by
  rw [State.activeDepart, s.truncate_clear hclear]
  exact if_pos ((s.isOwn_iff _).mpr h)

theorem State.activeDepart_orphan (h : s.member.number ≠ some b.source)
    (hhop : s.member.ringSize.toNat ≤ b.hop.toNat + 1) : s.activeDepart b = s.countOrphan := by
  rw [State.activeDepart, s.truncate_clear hclear]
  exact (if_neg (mt (s.isOwn_iff _).mp h)).trans (if_pos ((s.orphanHop_iff _).mpr hhop))

/-- Another station's DEPART ends the ring (R27). -/
theorem State.activeDepart_other (h : s.member.number ≠ some b.source)
    (hhop : b.hop.toNat + 1 < s.member.ringSize.toNat) : s.activeDepart b = s.enterCensus .departSeen := by
  rw [State.activeDepart, s.truncate_clear hclear]
  exact (if_neg (mt (s.isOwn_iff _).mp h)).trans (if_neg (mt (s.orphanHop_iff _).mp hhop.not_ge))

/-- The way from LEAVING to PASS with no record open on the input (R26). -/
theorem State.leaveRing_clear :
    s.leaveRing = State.post
      { s.endInsertion with
        member := { s.member with station := .pass, number := none, depart := .none, departTimer := none } }
      (.stateChange .pass .left s.member.ringSize 0 s.member.epoch) := by
  rw [State.leaveRing, s.leaveMode_clear hclear]
  rfl

end ActiveDepart

/-- The return of the own DEPART: in LEAVING, SENT, once around the ring (R27). -/
theorem State.isOwnDepart_iff (s : State) (b : DepartBody) : s.isOwnDepart b = true ↔
    s.member.station = .leaving ∧ s.member.depart = .sent ∧ b.hop.toNat + 1 = s.member.ringSize.toNat := by
  simp [State.isOwnDepart, State.returnHop_iff, and_assoc]

theorem State.ownDepart_returned (s : State) (b : DepartBody) (h : s.isOwnDepart b = true) :
    s.ownDepart b = s.leaveRing :=
  if_pos h

theorem State.ownDepart_conflict (s : State) (b : DepartBody) (h : ¬s.isOwnDepart b = true) :
    s.ownDepart b = s.enterCensus .rosterConflict :=
  if_neg h

/-- Settles O42: whose DEPART it is, and whether it is the own one's return. -/
theorem departEndsTheRing : Obligations.DepartEndsTheRing := by
  intro s o b hrec hmode hgood hphase
  have hplace := s.heard_bypass_room o hrec
  have hclear : (s.heard o).path.phase = .clear := by simpa using hphase
  rw [exec_departArrives_active o b s hrec hmode hgood, ← s.heard_member_number o, ← s.heard_member_ringSize o,
    ← s.heard_member_station o, ← s.heard_member_epoch o, ← s.heard_counters o]
  generalize s.heard o = t at *
  have hcensus (cause : StateCause) : (t.enterCensus cause).path.bypass.length ≤ 72 := by simp
  refine ⟨t, rfl, fun hother hhop => ?other, fun hother hhop => ?orphan, fun hown => ?own⟩
  case other =>
    rw [t.activeDepart_other b hclear hother hhop]
    exact withinBypass_next (hcensus _)
  case orphan =>
    rw [t.activeDepart_orphan b hclear hother hhop]
    exact withinBypass_next hplace.le
  case own =>
    rw [t.activeDepart_own b hclear hown]
    refine ⟨fun hnot => ?conflict, fun hleaving hsent hhop => ?returned⟩
    case conflict =>
      have hforeign : ¬t.isOwnDepart b = true := fun h => by
        obtain ⟨hleaving, hsent, hhop⟩ := (t.isOwnDepart_iff b).mp h
        rcases hnot with hrun | hunsent | hshort
        · simp [hrun] at hleaving
        · exact hunsent hsent
        · exact hshort hhop
      rw [t.ownDepart_conflict b hforeign]
      exact withinBypass_next (hcensus _)
    case returned =>
      rw [t.ownDepart_returned b ((t.isOwnDepart_iff b).mpr ⟨hleaving, hsent, hhop⟩), t.leaveRing_clear hclear]
      exact withinBypass_next hplace.le

end Sys2Proof.Machine
end

section
/-! PROOF. The station's own records on their return (R13, R14, R60, R61) and the two timers of the send unit (R64, R68):
what the send unit does with an own HEAD and an own DATA in each return context, what the end of the return timer makes of
a part of the record that has returned, and the statements on the four commands. -/

namespace Sys2Proof.Machine

/-! ### An own HEAD at the send unit (R60) -/

/-- The HEAD of the attempt in flight repeats the head entry, the sequence number and the attempt bit, once around the
ring. -/
theorem State.ownHeadBelongs_iff (s : State) (b : HeadBody) : s.ownHeadBelongs b = true ↔
    (∃ e rest, s.send.queue = e :: rest ∧ b.stream = e.stream ∧ b.length = e.length) ∧ s.send.head = some .inFlight ∧
      s.send.context ≠ .openCurrent ∧ b.seq = s.send.seq ∧ b.attempt = s.send.attempt ∧
      b.hop.toNat + 1 = s.member.ringSize.toNat := by
  cases hqueue : s.send.queue with
  | nil => simp [State.ownHeadBelongs, hqueue]
  | cons e rest =>
    simp only [State.ownHeadBelongs, hqueue, Bool.and_eq_true, beq_iff_eq, bne_iff_ne, State.returnHop_iff]
    constructor
    · rintro ⟨⟨⟨⟨⟨⟨hhead, hcontext⟩, hstream⟩, hlength⟩, hseq⟩, hattempt⟩, hhop⟩
      exact ⟨⟨e, rest, rfl, hstream, hlength⟩, hhead, hcontext, hseq, hattempt, hhop⟩
    · rintro ⟨⟨_, _, ⟨⟩, hstream, hlength⟩, hhead, hcontext, hseq, hattempt, hhop⟩
      exact ⟨⟨⟨⟨⟨⟨hhead, hcontext⟩, hstream⟩, hlength⟩, hseq⟩, hattempt⟩, hhop⟩

/-- The counters once a record that an own HEAD finds open without its HEAD has been counted (R60). -/
def State.headlessCounters (s : State) : Counters :=
  if s.send.context = .openHeadless then
    { s.counters with staleReturns := saturatingInc s.counters.staleReturns }
  else s.counters

/-- A HEAD that belongs to the attempt in flight opens OPEN_CURRENT. -/
theorem State.ownHead_belongs (s : State) (b : HeadBody) (h : s.ownHeadBelongs b = true) :
    s.ownHead b = { s with
      counters := s.headlessCounters
      send := { s.send with context := .openCurrent, nextIndex := 0, fault := false } } := by
  cases hcontext : s.send.context with
  | openHeadless => simp [State.ownHead, State.headlessCounters, State.countStale, h, hcontext]
  | closed | openCurrent | openStale => simp [State.ownHead, State.headlessCounters, h, hcontext]

/-- Any other own HEAD is a stale return and opens OPEN_STALE. -/
theorem State.ownHead_stale (s : State) (b : HeadBody) (h : ¬s.ownHeadBelongs b = true) :
    s.ownHead b = { s with
      counters := { s.headlessCounters with staleReturns := saturatingInc s.headlessCounters.staleReturns }
      send := { s.send with
        context := .openStale, fault := if s.send.context = .openHeadless then false else s.send.fault } } := by
  cases hcontext : s.send.context with
  | openHeadless | closed | openCurrent | openStale =>
    simp [State.ownHead, State.headlessCounters, State.countStale, State.setContext, h, hcontext]

/-! ### An own DATA at the send unit (R61) -/

section OwnData
variable (s : State) (b : DataBody)

/-- A DATA that is not the next one of the attempt in flight is a fault of it. -/
theorem State.ownData_fault (e : SendEntry) (rest : List SendEntry) (hcontext : s.send.context = .openCurrent)
    (hqueue : s.send.queue = e :: rest)
    (hwrong : b.index.toNat ≠ s.send.nextIndex ∨ e.length.toNat ≤ b.index.toNat ∨ b.spare ≠ 0) :
    s.ownData b = { s with send := { s.send with fault := true, nextIndex := b.index.toNat + 1 } } := by
  have hfault : (b.index.toNat != s.send.nextIndex || decide (e.length.toNat ≤ b.index.toNat) || b.spare != 0) = true := by
    simpa [or_assoc] using hwrong
  simp only [State.ownData, hcontext, SendUnit.headLength, hqueue, hfault, Bool.or_true]

/-- The next DATA of the attempt in flight leaves the fault flag. -/
theorem State.ownData_next (e : SendEntry) (rest : List SendEntry) (hcontext : s.send.context = .openCurrent)
    (hqueue : s.send.queue = e :: rest) (hindex : b.index.toNat = s.send.nextIndex)
    (hlength : b.index.toNat < e.length.toNat) (hspare : b.spare = 0) :
    s.ownData b = { s with send := { s.send with nextIndex := b.index.toNat + 1 } } := by
  have hright : (b.index.toNat != s.send.nextIndex || decide (e.length.toNat ≤ b.index.toNat) || b.spare != 0) = false := by
    simpa [hspare] using And.intro hindex hlength
  simp only [State.ownData, hcontext, SendUnit.headLength, hqueue, hright, Bool.or_false]

theorem State.ownData_ignored (h : s.send.context = .openHeadless ∨ s.send.context = .openStale) :
    s.ownData b = s := by
  rcases h with h | h <;> simp only [State.ownData, h]

/-- A DATA without a HEAD may be of the attempt in flight, whose HEAD is then lost. -/
theorem State.ownData_headless (hcontext : s.send.context = .closed) (hhead : s.send.head = some .inFlight) :
    s.ownData b = { s with send := { s.send with context := .openHeadless, fault := true } } := by
  simp only [State.ownData, hcontext, hhead, if_true]

theorem State.ownData_stale (hcontext : s.send.context = .closed) (hhead : s.send.head ≠ some .inFlight) :
    s.ownData b = (s.setContext .openStale).countStale := by
  simp only [State.ownData, hcontext, hhead, if_false]

end OwnData

/-! ### HEAD_ARRIVES and DATA_ARRIVES at a station in RUN or LEAVING (R13, R14) -/

theorem exec_headArrives (o : Occasion) (b : HeadBody) (s : State) :
    exec (.headArrives o b) s = arrivalStep o (some 0) (·.byMode (.head b) (·.activeHead b)) s := by
  rfl

theorem exec_headArrives_active (o : Occasion) (b : HeadBody) (s : State) (h : s.Receiving) (hmode : s.mode = .active)
    (hgood : (Frame.head b).unusable = false) :
    exec (.headArrives o b) s = withinBypass ((s.heard o).activeHead b) := by
  rw [exec_headArrives, arrivalStep_receiving o _ s h]
  exact congrArg withinBypass (State.byMode_active _ _ _ hgood (by simpa using hmode))

theorem exec_dataArrives (o : Occasion) (b : DataBody) (s : State) :
    exec (.dataArrives o b) s = arrivalStep o (some 0) (·.byMode (.data b) (·.activeData b)) s := by
  rfl

theorem exec_dataArrives_active (o : Occasion) (b : DataBody) (s : State) (h : s.Receiving) (hmode : s.mode = .active)
    (hgood : (Frame.data b).unusable = false) :
    exec (.dataArrives o b) s = withinBypass ((s.heard o).activeData b) := by
  rw [exec_dataArrives, arrivalStep_receiving o _ s h]
  exact congrArg withinBypass (State.byMode_active _ _ _ hgood (by simpa using hmode))

section ActiveHead
variable (s : State) (b : HeadBody) (hclear : s.path.phase = .clear)
include hclear

theorem State.activeHead_own (h : s.member.number = some b.source) :
    s.activeHead b = (s.ownHead b).setPhase .returning := by
  rw [State.activeHead, s.truncate_clear hclear]
  exact if_pos ((s.isOwn_iff _).mpr h)

theorem State.activeHead_orphan (h : s.member.number ≠ some b.source)
    (hhop : s.member.ringSize.toNat ≤ b.hop.toNat + 1) : s.activeHead b = s.countOrphan.setPhase .orphan := by
  rw [State.activeHead, s.truncate_clear hclear]
  exact (if_neg (mt (s.isOwn_iff _).mp h)).trans (if_pos ((s.orphanHop_iff _).mpr hhop))

end ActiveHead

theorem State.activeData_own (s : State) (b : DataBody) (h : s.member.number = some b.source) :
    s.activeData b = s.ownData b :=
  if_pos ((s.isOwn_iff _).mpr h)

/-- Settles O30: the HEAD by whose it is and whether it belongs (R60) or is an orphan (R14), the DATA by the return
context (R61). -/
theorem ownRecordReturns : Obligations.OwnRecordReturns := by
  refine ⟨fun s o b hrec hmode hgood hphase => ?head, fun s o b hrec hmode hgood hown => ?data⟩
  case head =>
    have hplace := s.heard_bypass_room o hrec
    have hclear : (s.heard o).path.phase = .clear := by simpa using hphase
    rw [exec_headArrives_active o b s hrec hmode hgood, ← s.heard_member_number o, ← s.heard_member_ringSize o,
      ← s.heard_counters o]
    generalize s.heard o = h at *
    refine ⟨_, h, _, rfl, h.ownHeadBelongs_iff b, rfl, fun hown hbelongs => ?belongs,
      fun hown hforeign => ?stale, fun hother hhop => ?orphan⟩
    case belongs =>
      rw [h.activeHead_own b hclear hown, h.ownHead_belongs b hbelongs]
      exact withinBypass_next hplace.le
    case stale =>
      rw [h.activeHead_own b hclear hown, h.ownHead_stale b hforeign]
      exact withinBypass_next hplace.le
    case orphan =>
      rw [h.activeHead_orphan b hclear hother hhop]
      exact withinBypass_next hplace.le
  case data =>
    have hplace := s.heard_bypass_room o hrec
    rw [exec_dataArrives_active o b s hrec hmode hgood, ← s.heard_counters o,
      State.activeData_own _ b (by simpa using hown)]
    generalize s.heard o = t at *
    refine ⟨t, rfl, fun e rest hcontext hqueue => ⟨fun hwrong => ?fault, fun hindex hlength hspare => ?next⟩,
      fun hcontext => ?ignored, fun hcontext hhead => ?headless, fun hcontext hhead => ?stale⟩
    case fault =>
      rw [t.ownData_fault b e rest hcontext hqueue hwrong]
      exact withinBypass_next hplace.le
    case next =>
      rw [t.ownData_next b e rest hcontext hqueue hindex hlength hspare]
      exact withinBypass_next hplace.le
    case ignored =>
      rw [t.ownData_ignored b hcontext]
      exact withinBypass_next hplace.le
    case headless =>
      rw [t.ownData_headless b hcontext hhead]
      exact withinBypass_next hplace.le
    case stale =>
      rw [t.ownData_stale b hcontext hhead]
      exact withinBypass_next hplace.le

/-! ### The timers of the send unit (R64, R68) -/

@[simp] theorem State.expired_counters (s : State) (o : Occasion) (t : Time) : (s.expired o t).counters = s.counters := by
  simp [State.expired]

theorem exec_returnTimerExpires_running (o : Occasion) (s : State) (t : Time) (hreset : s.resetPin = false)
    (ht : (s.at o).send.returnTimer = some t) :
    exec (.returnTimerExpires o) s = .next (s.expired o t).attemptLost := by
  have hstep : exec (.returnTimerExpires o) s =
      .next (s.live o (·.expiry (·.send.returnTimer) State.attemptLost)) := by rfl
  rw [hstep, s.live_released o _ hreset, State.expiry_running _ _ _ t ht]
  rfl

theorem exec_retryGapTimerExpires_running (o : Occasion) (s : State) (t : Time) (hreset : s.resetPin = false)
    (ht : (s.at o).send.gapTimer = some t) :
    exec (.retryGapTimerExpires o) s =
      .next { s.expired o t with send := { (s.expired o t).send with gapTimer := none } } := by
  have hstep : exec (.retryGapTimerExpires o) s =
      .next (s.live o (·.expiry (·.send.gapTimer) fun u => { u with send := { u.send with gapTimer := none } })) := by rfl
  rw [hstep, s.live_released o _ hreset, State.expiry_running _ _ _ t ht]
  rfl

/-- An attempt in flight that ends leaves what follows its outcome (R66, R67). -/
theorem State.endWith_inFlight (s : State) (status : SendStatus) (accept held : BitVec 5)
    (h : s.send.head = some .inFlight) :
    s.endWith status accept held = State.afterOutcome { s with send := s.send.endAttempt.withMarks accept held } status :=
  if_pos h

/-- With no part of the record of the attempt returned, its end makes nothing stale (R64, R72). -/
theorem State.contextToStale_unopened (s : State) (h : s.send.context = .closed ∨ s.send.context = .openStale) :
    s.contextToStale = s := by
  rcases h with h | h <;> simp only [State.contextToStale, h]

/-- A part of the record that has returned becomes stale and is counted (R64, R72). -/
theorem State.contextToStale_opened (s : State)
    (h : s.send.context = .openCurrent ∨ s.send.context = .openHeadless) :
    s.contextToStale = (s.setContext .openStale).countStale := by
  rcases h with h | h <;> simp only [State.contextToStale, h]

/-- At the end of the return timer the attempt in flight is LOST, with last marks 0 and 0 (R64). -/
theorem State.attemptLost_inFlight (s : State) (h : s.send.head = some .inFlight) :
    s.attemptLost = s.contextToStale.endWith .lost 0 0 :=
  if_pos h

/-- Settles O35: the return timer by whether a part of the record has returned (R64), the retry gap (R68). -/
theorem sendTimersExpire : Obligations.SendTimersExpire := by
  intro s o t hreset
  refine ⟨s.expired o t, rfl, fun ht => exec_retryGapTimerExpires_running o s t hreset ht,
    fun ht hhead => ⟨_, rfl, fun hcontext => ?unopened, fun hcontext => ?opened⟩⟩
  case unopened =>
    rw [exec_returnTimerExpires_running o s t hreset ht, State.attemptLost_inFlight _ hhead,
      State.contextToStale_unopened _ hcontext, State.endWith_inFlight _ _ _ _ hhead]
    simp only [SendUnit.endAttempt, SendUnit.withMarks]
  case opened =>
    rw [exec_returnTimerExpires_running o s t hreset ht, State.attemptLost_inFlight _ hhead,
      State.contextToStale_opened _ hcontext, State.endWith_inFlight _ _ _ _ (by simpa using hhead),
      ← s.expired_counters o t]
    simp only [State.setContext, State.countStale, SendUnit.endAttempt, SendUnit.withMarks]

end Sys2Proof.Machine
end

section
/-! PROOF. Records of other stations (R11, R16, R17, R78 to R94): what the record filter does with a HEAD, with a DATA and
with a TAIL, one equation for each case of the rules, the forwarding path that gives it the frames, and the statements on
the three commands. -/

namespace Sys2Proof.Machine

/-! ### A HEAD at the record filter (R78 to R80) -/

/-- The context that a HEAD opens (R78). -/
def State.contextAt (s : State) (b : HeadBody) : RecordContext :=
  { source := b.source, stream := b.stream, seq := b.seq, attempt := b.attempt, expected := b.length, next := 0
    verdict := s.verdict b, damaged := false, target := s.filter.target b.stream }

/-- Under any verdict but ACCEPTING a HEAD opens the context and takes no room. -/
theorem State.filterHead_unreserved (s : State) (b : HeadBody) (h : s.verdict b ≠ .accepting) :
    s.filterHead b = { s with filter := { s.filter with context := some (s.contextAt b) } } := by
  unfold State.filterHead
  dsimp only
  split
  next hverdict _ => exact absurd hverdict h
  · rfl

/-- Under ACCEPTING a HEAD takes its room in the store and in the target ring (R80). -/
theorem State.filterHead_reserved (s : State) (b : HeadBody) (ring : BitVec 2) (h : s.verdict b = .accepting)
    (htarget : s.filter.target b.stream = some ring) :
    s.filterHead b =
      State.takeRoom { s with filter := { s.filter with context := some (s.contextAt b) } } b ring := by
  simp only [State.filterHead, State.contextAt, h, htarget]

/-! ### HEAD_ARRIVES of another station (R17) -/

/-- With no record open a HEAD of another station is judged and goes on with hop one greater. -/
theorem State.activeHead_other (s : State) (b : HeadBody) (hclear : s.path.phase = .clear)
    (h : s.member.number ≠ some b.source) (hhop : b.hop.toNat + 1 < s.member.ringSize.toNat) :
    s.activeHead b = ((s.filterHead b).setPhase .forwarding).forward (.head { b with hop := b.hop + 1 }) := by
  rw [State.activeHead, s.truncate_clear hclear]
  exact (if_neg (mt (s.isOwn_iff _).mp h)).trans (if_neg (mt (s.orphanHop_iff _).mp hhop.not_ge))

/-- Settles O26: the room that a HEAD takes by the verdict. -/
theorem headIsJudged : Obligations.HeadIsJudged := by
  intro s o b hrec hmode hgood hphase
  have hplace := s.heard_bypass_room o hrec
  have hclear : (s.heard o).path.phase = .clear := by simpa using hphase
  rw [exec_headArrives_active o b s hrec hmode hgood, ← s.heard_member_number o, ← s.heard_member_ringSize o,
    ← s.heard_member_station o, ← s.heard_member_epoch o, ← s.heard_filter o, ← s.heard_delivery o]
  generalize s.heard o = h at *
  intro hother hhop
  rw [h.activeHead_other b hclear hother hhop]
  refine ⟨h.verdict b, _, rfl, rfl, fun hverdict => ?unreserved, fun ring hverdict htarget => ?reserved⟩
  case unreserved =>
    rw [h.filterHead_unreserved b hverdict]
    exact withinBypass_forward _ hplace
  case reserved =>
    rw [h.filterHead_reserved b ring hverdict htarget]
    exact withinBypass_forward _ hplace

/-! ### A DATA at the record filter (R82, R94) -/

theorem RecordContext.good_iff (c : RecordContext) (b : DataBody) : c.good b = true ↔
    b.source = c.source ∧ b.index.toNat = c.next ∧ b.index.toNat < c.expected.toNat ∧ b.spare = 0 := by
  simp [RecordContext.good, and_assoc]

section FilterData
variable (s : State) (b : DataBody)

theorem State.filterData_closed (h : s.filter.context = none) : s.filterData b = s := by
  simp only [State.filterData, h]

variable (c : RecordContext) (hcontext : s.filter.context = some c)
include hcontext

/-- A DATA that is not good damages the record. -/
theorem State.filterData_bad (h : ¬c.good b = true) :
    s.filterData b = { s with filter := { s.filter with context := some { c with damaged := true } } } := by
  simp only [State.filterData, hcontext, if_neg h]

/-- A good DATA of a record that is not accepted, or is damaged, advances the next index alone. -/
theorem State.filterData_counted (hgood : c.good b = true) (h : c.verdict ≠ .accepting ∨ c.damaged = true) :
    s.filterData b = { s with filter := { s.filter with context := some { c with next := c.next + 1 } } } := by
  have hkept : ¬(c.verdict = .accepting ∧ c.damaged = false) := by
    rintro ⟨haccepting, hintact⟩
    exact h.elim (· haccepting) (by simp [hintact])
  simp only [State.filterData, hcontext, if_pos hgood, if_neg hkept]

/-- A good DATA of an accepted record is copied to the newest entry of the store. -/
theorem State.filterData_stored (hgood : c.good b = true) (haccepting : c.verdict = .accepting)
    (hintact : c.damaged = false) :
    s.filterData b =
      { s with
        filter := { s.filter with context := some { c with next := c.next + 1 } }
        delivery := { s.delivery with store := storeHalfword s.delivery.store b.word } } := by
  simp only [State.filterData, hcontext, if_pos hgood, if_pos (And.intro haccepting hintact)]

end FilterData

/-! ### DATA_ARRIVES of another station (R16) -/

section OtherData
variable (s : State) (b : DataBody) (hother : s.member.number ≠ some b.source)
include hother

theorem State.activeData_forwarding (h : s.path.phase = .forwarding) :
    s.activeData b = (s.filterData b).forward (.data b) := by
  rw [State.activeData, if_neg (mt (s.isOwn_iff _).mp hother), h]

theorem State.activeData_orphan (h : s.path.phase = .orphan) : s.activeData b = s := by
  rw [State.activeData, if_neg (mt (s.isOwn_iff _).mp hother), h]

theorem State.activeData_stray (h : s.path.phase = .clear ∨ s.path.phase = .returning) :
    s.activeData b = s.countStray := by
  rcases h with h | h <;> rw [State.activeData, if_neg (mt (s.isOwn_iff _).mp hother), h]

end OtherData

/-- Settles O27: the input phase, then the context, then whether the DATA is good and whether it is copied. -/
theorem dataFollowsTheRecord : Obligations.DataFollowsTheRecord := by
  intro s o b hrec hmode hgood
  have hplace := s.heard_bypass_room o hrec
  rw [exec_dataArrives_active o b s hrec hmode hgood, ← s.heard_member_number o, ← s.heard_phase o,
    ← s.heard_counters o, ← s.heard_filter o, ← s.heard_delivery o]
  generalize s.heard o = t at *
  intro hother
  refine ⟨t, rfl, fun hphase => ?orphan, fun hphase => ?stray,
    fun hphase => ⟨fun hcontext => ?closed, fun c hcontext => ⟨fun hwrong => ?bad,
      fun hsource hindex hlength hspare => ⟨_, rfl, fun hkept => ?counted,
        fun older e haccepting hintact hstore => ?stored⟩⟩⟩⟩
  case orphan =>
    rw [t.activeData_orphan b hother hphase]
    exact withinBypass_next hplace.le
  case stray =>
    rw [t.activeData_stray b hother hphase]
    exact withinBypass_next hplace.le
  case closed =>
    rw [t.activeData_forwarding b hother hphase, t.filterData_closed b hcontext]
    exact withinBypass_forward _ hplace
  case bad =>
    have hbad : ¬c.good b = true := fun h => by
      obtain ⟨hsource, hindex, hlength, hspare⟩ := (c.good_iff b).mp h
      rcases hwrong with hwrong | hwrong | hwrong | hwrong
      · exact hwrong hsource
      · exact hwrong hindex
      · exact hlength.not_ge hwrong
      · exact hwrong hspare
    rw [t.activeData_forwarding b hother hphase, t.filterData_bad b c hcontext hbad]
    exact withinBypass_forward _ hplace
  case counted =>
    rw [t.activeData_forwarding b hother hphase,
      t.filterData_counted b c hcontext ((c.good_iff b).mpr ⟨hsource, hindex, hlength, hspare⟩) hkept]
    exact withinBypass_forward _ hplace
  case stored =>
    rw [t.activeData_forwarding b hother hphase,
      t.filterData_stored b c hcontext ((c.good_iff b).mpr ⟨hsource, hindex, hlength, hspare⟩) haccepting hintact,
      hstore, storeHalfword_append]
    exact withinBypass_forward _ hplace

/-! ### A TAIL at the record filter (R85 to R91, R94) -/

theorem RecordContext.tailMatches_iff (c : RecordContext) (b : TailBody) : c.tailMatches b = true ↔
    b.source = c.source ∧ b.seq = c.seq ∧ b.attempt = c.attempt ∧ c.next = c.expected.toNat := by
  simp [RecordContext.tailMatches, and_assoc]

/-- The closing of an intact record under each verdict (R87 to R90). -/
def Verdict.closing : Verdict → Closing
  | .accepting => .committed
  | .held => .held
  | .refusing => .refused
  | .passing => .passed

/-- A record is closed damaged when it has been damaged or its TAIL does not match (R85). -/
theorem RecordContext.closing_damaged (c : RecordContext) (b : TailBody)
    (h : c.damaged = true ∨ ¬c.tailMatches b = true) : c.closing b = .damaged :=
  if_pos (by simpa using h)

/-- An intact record is closed by its verdict (R85). -/
theorem RecordContext.closing_intact (c : RecordContext) (b : TailBody) (hintact : c.damaged = false)
    (hmatches : c.tailMatches b = true) : c.closing b = c.verdict.closing := by
  have h : ¬(c.damaged || !c.tailMatches b) = true := by simp [hintact, hmatches]
  rw [RecordContext.closing, if_neg h]
  cases c.verdict <;> rfl

theorem State.closeContext_closed (s : State) (h : s.filter.context = none) : s.closeContext = s := by
  rw [State.closeContext, ← h]

/-- A record that has no room gives none back (R86). -/
theorem State.giveBack_unreserved (s : State) (c : RecordContext) (h : c.verdict ≠ .accepting) : s.giveBack c = s :=
  if_neg h

theorem State.giveBack_reserved (s : State) (c : RecordContext) (h : c.verdict = .accepting) :
    s.giveBack c = s.dropFilling :=
  if_pos h

@[simp] theorem State.beginDelivery_bypass (s : State) : s.beginDelivery.path.bypass = s.path.bypass := by
  obtain ⟨_, _, h⟩ := s.beginDelivery_frame
  rw [h]

/-- The input phase takes no part in the beginning of a delivery. -/
theorem State.beginDelivery_setPhase (s : State) (p : InputPhase) :
    (s.setPhase p).beginDelivery = s.beginDelivery.setPhase p := by
  obtain ⟨_, _, h⟩ := s.beginDelivery_frame
  rw [State.setPhase, State.beginDelivery_path, h, State.setPhase]

/-! ### TAIL_ARRIVES of another station (R16, R91) -/

theorem exec_tailArrives (o : Occasion) (b : TailBody) (s : State) :
    exec (.tailArrives o b) s = arrivalStep o (some 0) (·.byMode (.tail b) (·.activeTail b)) s := by
  rfl

theorem exec_tailArrives_active (o : Occasion) (b : TailBody) (s : State) (h : s.Receiving) (hmode : s.mode = .active)
    (hgood : (Frame.tail b).unusable = false) :
    exec (.tailArrives o b) s = withinBypass ((s.heard o).activeTail b) := by
  rw [exec_tailArrives, arrivalStep_receiving o _ s h]
  exact congrArg withinBypass (State.byMode_active _ _ _ hgood (by simpa using hmode))

section OtherTail
variable (s : State) (b : TailBody) (hother : s.member.number ≠ some b.source)
include hother

theorem State.activeTail_stray (h : s.path.phase = .clear ∨ s.path.phase = .returning) :
    s.activeTail b = s.countStray := by
  rcases h with h | h <;> rw [State.activeTail, if_neg (mt (s.isOwn_iff _).mp hother), h]

theorem State.activeTail_orphan (h : s.path.phase = .orphan) : s.activeTail b = s.setPhase .clear := by
  rw [State.activeTail, if_neg (mt (s.isOwn_iff _).mp hother), h]

variable (hphase : s.path.phase = .forwarding)
include hphase

/-- With the context CLOSED a TAIL ends the phase and goes on as it arrived (R94). -/
theorem State.activeTail_closed (h : s.filter.context = none) :
    s.activeTail b = (s.closeContext.setPhase .clear).forward (.tail b) := by
  rw [State.activeTail, if_neg (mt (s.isOwn_iff _).mp hother), hphase, s.closeContext_closed h]
  simp only [State.filterTail, State.markedTail, h]

/-- Under an open context a TAIL ends the phase, and the closing of the record writes its marks (R85, R91). -/
theorem State.activeTail_closes (c : RecordContext) (k : Closing) (h : s.filter.context = some c)
    (hclosing : c.closing b = k) :
    s.activeTail b = ((s.close c k).setPhase .clear).forward (.tail (k.mark b)) := by
  rw [State.activeTail, if_neg (mt (s.isOwn_iff _).mp hother), hphase]
  simp only [State.filterTail, State.markedTail, h, hclosing]

end OtherTail

/-- Settles O28: the input phase, then whether the record is intact, then its verdict. -/
theorem tailClosesTheRecord : Obligations.TailClosesTheRecord := by
  intro s o b hrec hmode hgood
  have hplace := s.heard_bypass_room o hrec
  rw [exec_tailArrives_active o b s hrec hmode hgood, ← s.heard_member_number o, ← s.heard_phase o,
    ← s.heard_counters o, ← s.heard_filter o, ← s.heard_delivery o]
  generalize s.heard o = t at *
  intro hother
  refine ⟨t, _, rfl, rfl, fun hphase => ?stray, fun hphase => ?orphan, fun hphase hcontext => ?closed,
    fun c hphase hcontext => ⟨fun hdamaged => ?damaged, fun hintact hsource hseq hattempt hnext => ?intact⟩⟩
  case stray =>
    rw [t.activeTail_stray b hother hphase]
    exact withinBypass_next hplace.le
  case orphan =>
    rw [t.activeTail_orphan b hother hphase]
    exact withinBypass_next hplace.le
  case closed =>
    rw [t.activeTail_closed b hother hphase hcontext]
    exact withinBypass_forward _ hplace
  case damaged =>
    have hclosing : c.closing b = .damaged := by
      refine c.closing_damaged b (hdamaged.imp_right fun hwrong hmatches => ?_)
      obtain ⟨hsource, hseq, hattempt, hnext⟩ := (c.tailMatches_iff b).mp hmatches
      rcases hwrong with hwrong | hwrong | hwrong | hwrong
      · exact hwrong hsource
      · exact hwrong hseq
      · exact hwrong hattempt
      · exact hwrong hnext
    rw [t.activeTail_closes b hother hphase c _ hcontext hclosing, State.close]
    refine ⟨fun hverdict => ?unreserved, fun older e hverdict hstore hfilling => ?reserved⟩
    case unreserved =>
      rw [t.giveBack_unreserved c hverdict]
      exact withinBypass_forward _ hplace
    case reserved =>
      rw [t.giveBack_reserved c hverdict, t.dropFilling_append older e hstore hfilling]
      exact withinBypass_forward _ hplace
  case intact =>
    have hclosing : c.closing b = c.verdict.closing :=
      c.closing_intact b hintact ((c.tailMatches_iff b).mpr ⟨hsource, hseq, hattempt, hnext⟩)
    rw [t.activeTail_closes b hother hphase c _ hcontext hclosing]
    refine ⟨fun older e hverdict hstore => ?committed, fun hverdict => ?held, fun hverdict => ?refused,
      fun hverdict => ?passed⟩
    case committed =>
      rw [hverdict, Verdict.closing, State.close, hstore, completeNewest_append, ← State.beginDelivery_setPhase]
      exact withinBypass_forward _ (by simpa using hplace)
    case held | refused | passed =>
      rw [hverdict]
      exact withinBypass_forward _ hplace

end Sys2Proof.Machine
end

section
/-! PROOF. TRIGGER, RELEASE and RESUME (R112 to R114, R123), the beginning of a delivery (R105, R106) and a failed burst
(R110, R144 to R146, R159): the answer of a command that stands ready, what the delivery engine does in each of its states,
what the end of a failed request does at its client, and the statements on the commands. -/

namespace Sys2Proof.Machine

/-! ### A command that stands ready (R152, R155) -/

/-- With no RESET and an empty collector a whole command record is judged at its moment. -/
theorem State.live_writeRecord (s : State) (o : Occasion) (c : HostCommand) (h : s.CommandReady) :
    s.live o (·.writeRecord c) = State.setStatus ((s.at o).judge c).2 ((s.at o).judge c).1 c.code c.words.length := by
  obtain ⟨hreset, hcollector⟩ := h
  rw [s.live_released o _ hreset, State.writeRecord_ready _ c (by simpa using hcollector)]

theorem exec_trigger_ready (o : Occasion) (g : BitVec 8) (s : State) (h : s.CommandReady) :
    exec (.trigger o g) s =
      .next (State.setStatus ((s.at o).judgeTrigger g).2 ((s.at o).judgeTrigger g).1 6 2) :=
  congrArg Host.Outcome.next (s.live_writeRecord o (.trigger g) h)

theorem exec_release_ready (o : Occasion) (ring n : BitVec 8) (s : State) (h : s.CommandReady) :
    exec (.release o ring n) s =
      .next (State.setStatus ((s.at o).judgeRelease ring n).2 ((s.at o).judgeRelease ring n).1 7 2) :=
  congrArg Host.Outcome.next (s.live_writeRecord o (.release ring n) h)

theorem exec_resume_ready (o : Occasion) (s : State) (h : s.CommandReady) :
    exec (.resume o) s =
      .next (State.setStatus ((s.at o).judgeResume false).2 ((s.at o).judgeResume false).1 8 2) :=
  congrArg Host.Outcome.next (s.live_writeRecord o (.resume false) h)

theorem exec_resumeWithSkip_ready (o : Occasion) (s : State) (h : s.CommandReady) :
    exec (.resumeWithSkip o) s =
      .next (State.setStatus ((s.at o).judgeResume true).2 ((s.at o).judgeResume true).1 8 2) :=
  congrArg Host.Outcome.next (s.live_writeRecord o (.resume true) h)

/-! ### TRIGGER (R123) -/

/-- The sending of an item moves the own trigger from WAITING to SENT at most (R124). -/
theorem State.sendItem_trigger_own (s : State) (i : Item) (h : s.nextItem = some i) :
    (s.sendItem i).trigger.own = .none ↔ s.trigger.own = .none := by
  cases i
  case trigger =>
    obtain ⟨-, -, -, -, hwaiting⟩ := s.nextItem_ready .trigger h
    simp [State.sendItem, hwaiting]
  case arriving => simp only [State.sendItem, State.sendWaiting]; split <;> rfl
  case buffered => simp only [State.sendItem, State.sendBypass]; split <;> rfl
  case census => simp only [State.sendItem, State.sendCensusFrame]; split <;> rfl
  case recordFrame =>
    simp only [State.sendItem, State.sendRecordFrame]
    split
    · split <;> rfl
    · rfl
  case announce => rfl
  case depart => rfl
  case record => simp only [State.sendItem, State.beginAttempt]; split <;> rfl

/-- The passing of time neither begins nor ends an own trigger. -/
theorem State.at_trigger_own_none (s : State) (o : Occasion) :
    (s.at o).trigger.own = .none ↔ s.trigger.own = .none :=
  State.reach_keeps (fun u => u.trigger.own = .none ↔ s.trigger.own = .none) s o.time
    (fun u i hkept hi _ => (u.sendItem_trigger_own i hi).trans hkept) (fun _ hkept _ => hkept) Iff.rfl

section JudgeTrigger
variable (s : State) (g : BitVec 8)

theorem State.judgeTrigger_state (h : s.member.station ≠ .run) : s.judgeTrigger g = (.state, s) := if_pos h

variable (hrun : s.member.station = .run)
include hrun

theorem State.judgeTrigger_range (h : 7 < g.toNat) : s.judgeTrigger g = (.range, s) := by
  rw [State.judgeTrigger, if_neg (not_not_intro hrun), if_pos h]

variable (hgroup : g.toNat ≤ 7)
include hgroup

theorem State.judgeTrigger_busy (h : s.trigger.own ≠ .none) : s.judgeTrigger g = (.busy, s) := by
  rw [State.judgeTrigger, if_neg (not_not_intro hrun), if_neg hgroup.not_gt, if_pos h]

theorem State.judgeTrigger_taken (h : s.trigger.own = .none) :
    s.judgeTrigger g = (.ok, s.raiseTrigger (g.setWidth 3)) := by
  rw [State.judgeTrigger, if_neg (not_not_intro hrun), if_neg hgroup.not_gt, if_neg (not_not_intro h)]

end JudgeTrigger

/-- The own trigger raised at the moment of a command: the moments that passed before it changed no other item of the
trigger unit. -/
theorem State.raiseTrigger_at (s : State) (o : Occasion) (g : BitVec 3) :
    (s.at o).raiseTrigger g = { s.at o with trigger := { s.trigger with
      own := .waiting, group := some g, returnTimer := some (max s.now o.time + 200000) } } := by
  simp [State.raiseTrigger, State.timer, triggerReturnSpan, micros]

/-! ### RELEASE (R114) -/

section JudgeRelease
variable (s : State)

theorem State.judgeRelease_noRing (ring n : BitVec 8) (h : 3 < ring.toNat) : s.judgeRelease ring n = (.range, s) :=
  if_pos (.inl h)

variable (r : BitVec 2) (n : BitVec 8)

/-- For a byte that names one of the four rings the checks are that the ring is used and has the slots. -/
theorem State.judgeRelease_ring : s.judgeRelease (r.setWidth 8) n =
    if (s.delivery.ring r).slots = 0 then (.range, s)
    else if (s.delivery.ring r).filled < n.toNat then (.range, s)
    else (.ok, s.releaseSlots r n.toNat) := by
  have hring : ¬3 < (r.setWidth 8).toNat := by simp; omega
  have hname : (r.setWidth 8).setWidth 2 = r := BitVec.setWidth_setWidth_of_le r (by decide)
  simp only [State.judgeRelease, hname, hring, false_or]

theorem State.judgeRelease_range (h : (s.delivery.ring r).slots = 0 ∨ (s.delivery.ring r).filled < n.toNat) :
    s.judgeRelease (r.setWidth 8) n = (.range, s) := by
  rw [s.judgeRelease_ring]
  rcases h with hunused | hfewer
  · exact if_pos hunused
  · rw [if_pos hfewer, ite_self]

theorem State.judgeRelease_taken (hused : (s.delivery.ring r).slots ≠ 0) (h : n.toNat ≤ (s.delivery.ring r).filled) :
    s.judgeRelease (r.setWidth 8) n = (.ok, s.releaseSlots r n.toNat) := by
  rw [s.judgeRelease_ring, if_neg hused, if_neg h.not_gt]

end JudgeRelease

/-- Settles O18: the checks of TRIGGER in their order, then the two checks of RELEASE. -/
theorem triggerAndReleaseAreTaken : Obligations.TriggerAndReleaseAreTaken := by
  refine ⟨fun s o g hready => ?trigger, fun s o ring n hready => ?release⟩
  case trigger =>
    rw [exec_trigger_ready o g s hready, ← s.at_member_station o, ← s.at_trigger_own_none o]
    refine ⟨fun hstation => ?state, fun hrun hgroup => ?range, fun hrun hgroup hown => ?busy,
      fun hrun hgroup hown => ?taken⟩
    case state => rw [State.judgeTrigger_state _ g hstation]
    case range => rw [State.judgeTrigger_range _ g hrun hgroup]
    case busy => rw [State.judgeTrigger_busy _ g hrun hgroup (mt (s.at_trigger_own_none o).mp hown)]
    case taken =>
      rw [State.judgeTrigger_taken _ g hrun hgroup hown, s.raiseTrigger_at o, ← s.at_host o]
      rfl
  case release =>
    rw [exec_release_ready o ring n s hready, ← s.at_delivery o]
    refine ⟨fun hring => ?noRing, ?_⟩
    case noRing => rw [State.judgeRelease_noRing _ ring n hring]
    rintro r rfl
    refine ⟨fun hrange => ?range, fun hused hfilled => ?taken⟩
    case range => rw [State.judgeRelease_range _ r n hrange]
    case taken =>
      rw [State.judgeRelease_taken _ r n hused hfilled]
      rfl

/-! ### How a delivery begins (R105, R106, R139) -/

/-- The oldest entry in delivery, from a phase of its own, into the slot of its ring's write index. -/
def Delivery.begun (d : Delivery) (e : StoreEntry) (rest : List StoreEntry) (phase : Phase) : Delivery :=
  { d with store := { e with state := .delivering } :: rest
           engine := .delivering phase e.ring (d.ring e.ring).writeIndex }

section BeginDelivery
variable (s : State)

/-- Without a COMPLETE oldest entry, or with the engine at work or HALTED, no delivery begins (R105). -/
theorem State.beginDelivery_none (h : s.delivery.engine ≠ .idle ∨ s.delivery.store = [] ∨
    ∃ e rest, s.delivery.store = e :: rest ∧ e.state ≠ .complete) : s.beginDelivery = s := by
  unfold State.beginDelivery
  split
  next e rest hidle hstore =>
    refine if_neg fun hcomplete => ?_
    rcases h with hengine | hempty | ⟨e', rest', hstore', hstate⟩
    · exact hengine hidle
    · simp [hstore] at hempty
    · rw [hstore, List.cons.injEq] at hstore'
      exact hstate (hstore'.1 ▸ hcomplete)
  · rfl

variable (e : StoreEntry) (rest : List StoreEntry) (hidle : s.delivery.engine = .idle)
  (hstore : s.delivery.store = e :: rest) (hcomplete : e.state = .complete)
include hidle hstore hcomplete

/-- A payload goes to the slot from its word 2 on (R106). -/
theorem State.beginDelivery_body (h : e.length ≠ 0) :
    s.beginDelivery = State.makeRequest { s with delivery := s.delivery.begun e rest .body } .delivery true
      ((s.delivery.ring e.ring).slotAddress (s.delivery.ring e.ring).writeIndex + 8) ((e.length.toNat + 1) / 2) := by
  simp only [State.beginDelivery, hidle, hstore, if_pos hcomplete, if_neg h]
  rfl

/-- An entry with no payload begins with word 1 (R106). -/
theorem State.beginDelivery_header (h : e.length = 0) :
    s.beginDelivery = State.makeRequest { s with delivery := s.delivery.begun e rest .header1 } .delivery true
      ((s.delivery.ring e.ring).slotAddress (s.delivery.ring e.ring).writeIndex + 4) 1 := by
  simp only [State.beginDelivery, hidle, hstore, if_pos hcomplete, if_pos h]
  rfl

end BeginDelivery

/-! ### RESUME (R112, R113) -/

section ResumeDelivery
variable (s : State) (e : StoreEntry) (rest : List StoreEntry) (hstore : s.delivery.store = e :: rest)
  (hcomplete : e.state = .complete)
include hstore hcomplete

theorem State.resumeDelivery_body (h : e.length ≠ 0) :
    s.resumeDelivery = State.makeRequest { s with delivery := s.delivery.begun e rest .body } .delivery true
      ((s.delivery.ring e.ring).slotAddress (s.delivery.ring e.ring).writeIndex + 8) ((e.length.toNat + 1) / 2) :=
  State.beginDelivery_body { s with delivery := { s.delivery with engine := .idle } } e rest rfl hstore hcomplete h

theorem State.resumeDelivery_header (h : e.length = 0) :
    s.resumeDelivery = State.makeRequest { s with delivery := s.delivery.begun e rest .header1 } .delivery true
      ((s.delivery.ring e.ring).slotAddress (s.delivery.ring e.ring).writeIndex + 4) 1 :=
  State.beginDelivery_header { s with delivery := { s.delivery with engine := .idle } } e rest rfl hstore hcomplete h

end ResumeDelivery

theorem State.judgeResume_state (s : State) (skip : Bool) (h : ∀ ring slot, s.delivery.engine ≠ .halted ring slot) :
    s.judgeResume skip = (.state, s) := by
  unfold State.judgeResume
  split
  next ring slot hhalted => exact absurd hhalted (h ring slot)
  · rfl
  · rfl

section Halted
variable (s : State) (ring : BitVec 2) (slot : Nat) (hhalted : s.delivery.engine = .halted ring slot)
include hhalted

theorem State.judgeResume_again : s.judgeResume false = (.ok, s.resumeDelivery) := by
  rw [State.judgeResume, hhalted]
  rfl

theorem State.judgeResume_skip : s.judgeResume true = (.ok, s.skipDelivery) := by
  rw [State.judgeResume, hhalted]
  rfl

/-- The skipped entry leaves the store and its ring loses the reservation (R113). -/
theorem State.skipDelivery_halted (e : StoreEntry) (rest : List StoreEntry) (hstore : s.delivery.store = e :: rest) :
    s.skipDelivery = (State.post { s with
      delivery := Delivery.setRing { s.delivery with store := rest, engine := .idle } e.ring
        { s.delivery.ring e.ring with reserved := (s.delivery.ring e.ring).reserved - 1 } }
      (.deliverySkipped ring slot e.source e.stream e.seq e.length)).beginDelivery := by
  rw [State.skipDelivery, hhalted, hstore]
  rfl

end Halted

/-- Settles O19: RESUME by the engine's state, and the beginning of a delivery by the length of the oldest entry. -/
theorem resumeAfterHalt : Obligations.ResumeAfterHalt := by
  refine ⟨fun s o hready => ?resume, fun s => ⟨fun e rest hidle hstore hcomplete => ?begins, s.beginDelivery_none⟩⟩
  case begins =>
    exact ⟨_, _, _, rfl, rfl, rfl, s.beginDelivery_body e rest hidle hstore hcomplete,
      s.beginDelivery_header e rest hidle hstore hcomplete⟩
  rw [exec_resume_ready o s hready, exec_resumeWithSkip_ready o s hready, ← s.at_delivery o]
  generalize s.at o = t
  refine ⟨fun hengine => ?refused, fun ring slot e rest hhalted hstore => ⟨fun hcomplete => ?again, ?skip⟩⟩
  case refused =>
    rw [t.judgeResume_state _ hengine, t.judgeResume_state _ hengine]
    exact ⟨rfl, rfl⟩
  case again =>
    rw [t.judgeResume_again ring slot hhalted]
    refine ⟨_, _, _, rfl, rfl, rfl, fun h => ?body, fun h => ?header⟩
    case body =>
      rw [t.resumeDelivery_body e rest hstore hcomplete h]
      rfl
    case header =>
      rw [t.resumeDelivery_header e rest hstore hcomplete h]
      rfl
  case skip =>
    rw [t.judgeResume_skip ring slot hhalted, t.skipDelivery_halted ring slot hhalted e rest hstore]

/-! ### A failed burst (R110, R144 to R146, R159) -/

@[simp] theorem State.expired_host (s : State) (o : Occasion) (t : Time) : (s.expired o t).host = s.host := by
  simp [State.expired]

@[simp] theorem State.expired_delivery (s : State) (o : Occasion) (t : Time) :
    (s.expired o t).delivery = s.delivery := by
  simp [State.expired]

theorem exec_busWordAnswered_error (o : Occasion) (s : State) (b : Burst) (r : Request) (hreset : s.resetPin = false)
    (hburst : (s.at o).bus.burst = some b) (hrequest : (s.at o).bus.request b.client = some r) :
    exec (.busWordAnswered o .error) s = .next ((s.at o).failBurst b .error) := by
  have hstep : exec (.busWordAnswered o .error) s = .next (s.live o (·.busAnswer .error)) := by rfl
  rw [hstep, s.live_released o _ hreset]
  simp only [State.busAnswer, hburst, hrequest]

theorem State.busTimedOut_current (s : State) (b : Burst) (h : s.bus.burst = some b) :
    s.busTimedOut = s.failBurst b .timeout := by
  rw [State.busTimedOut, h]

theorem exec_busTimeout_running (o : Occasion) (s : State) (t : Time) (b : Burst) (hreset : s.resetPin = false)
    (ht : (s.at o).bus.timeout = some t) (hburst : (s.expired o t).bus.burst = some b) :
    exec (.busTimeout o) s = .next ((s.expired o t).failBurst b .timeout) := by
  have hstep : exec (.busTimeout o) s = .next (s.live o (·.expiry (·.bus.timeout) State.busTimedOut)) := by rfl
  rw [hstep, s.live_released o _ hreset, State.expiry_running _ _ _ t ht]
  exact congrArg Host.Outcome.next (State.busTimedOut_current _ b hburst)

section FailBurst
variable (s : State) (b : Burst) (cause : BusCause)

/-- The state in which the client acts on the failure: the burst and its request have ended (R146). -/
def State.burstFailed (s : State) (b : Burst) : State :=
  { s with bus := BusMaster.setRequest { s.bus with burst := none, timeout := none } b.client none }

@[simp] theorem State.burstFailed_send : (s.burstFailed b).send = s.send := rfl
@[simp] theorem State.burstFailed_delivery : (s.burstFailed b).delivery = s.delivery := rfl

/-- The client acts on the failure, then the arbiter grants again (R146). -/
theorem State.failBurst_eq :
    s.failBurst b cause = ((s.burstFailed b).requestFailed b.client cause b.address).grant := rfl

/-- The status of an entry whose fetch has failed: that of its pending disposition, if it has one (R55). -/
def SendStatus.ofFailedFetch : Option Disposition → SendStatus
  | none => .fetchFault
  | some .cancelled => .cancelled
  | some .left => .left

theorem State.fetchFailed_eq (d : Option Disposition) (h : s.send.disposition = d) :
    s.fetchFailed = s.completeHead (.ofFailedFetch d) := by
  rw [State.fetchFailed, h]
  match d with
  | none => rfl
  | some .cancelled => rfl
  | some .left => rfl

theorem State.failDelivery_delivering (address : Word) (phase : Phase) (ring : BitVec 2) (slot : Nat) (e : StoreEntry)
    (rest : List StoreEntry) (hengine : s.delivery.engine = .delivering phase ring slot)
    (hstore : s.delivery.store = e :: rest) :
    s.failDelivery cause address = State.post
      { s with delivery := { s.delivery with store := { e with state := .complete } :: rest, engine := .halted ring slot } }
      (.deliveryFault ring slot address cause) := by
  simp only [State.failDelivery, hengine, hstore]

end FailBurst

/-- Settles O50: the two commands fail the burst alike, and the client acts on it. -/
theorem failedBurstEndsRequest : Obligations.FailedBurstEndsRequest := by
  intro s x o c cause b r hreset hcommand hburst hrequest
  have hfail : exec c s = .next (x.failBurst b cause) ∧ x.host = s.host ∧ x.delivery = s.delivery := by
    obtain ⟨rfl, rfl, rfl⟩ | ⟨rfl, rfl, t, ht, rfl⟩ := hcommand
    · exact ⟨exec_busWordAnswered_error o s b r hreset hburst hrequest, s.at_host o, s.at_delivery o⟩
    · exact ⟨exec_busTimeout_running o s t b hreset ht hburst, s.expired_host o t, s.expired_delivery o t⟩
  obtain ⟨hexec, hhost, hdelivery⟩ := hfail
  rw [hexec, x.failBurst_eq, ← hhost, ← hdelivery]
  refine ⟨x.burstFailed b, b.address, rfl, rfl, fun hclient => ?loader, fun hclient => ?fetch,
    fun phase ring slot e rest hclient hengine hstore => ?delivery⟩
  case loader =>
    rw [hclient]
    rfl
  case fetch =>
    rw [hclient, State.requestFailed, State.fetchFailed_eq _ _ rfl, x.burstFailed_send]
    exact ⟨fun h => by rw [h]; rfl, fun h => by rw [h]; rfl, fun h => by rw [h]; rfl⟩
  case delivery =>
    rw [hclient, State.requestFailed,
      State.failDelivery_delivering _ cause _ phase ring slot e rest (by rwa [x.burstFailed_delivery])
        (by rwa [x.burstFailed_delivery])]
    rfl

end Sys2Proof.Machine
end

section
/-! PROOF. The bus master (R138, R139, R141, R142): what the arbiter grants in each of its states, the address and the
length of the burst it issues, and the statement on them. -/

namespace Sys2Proof.Machine

/-! ### What the arbiter grants (R142) -/

theorem State.grant_of_burst (s : State) (h : s.bus.burst ≠ none) : s.grant = s := by
  obtain ⟨b, hburst⟩ := Option.ne_none_iff_exists'.mp h
  rw [State.grant, BusMaster.grant, hburst]

section BusFree
variable (s : State) (hfree : s.bus.burst = none)
include hfree

theorem State.grant_loader (r : Request) (hloader : s.bus.loader = some r) : s.grant = s.issue .loader r := by
  rw [State.grant, BusMaster.grant, hfree, hloader]
  rfl

variable (hloader : s.bus.loader = none)
include hloader

theorem State.grant_idle (hfetch : s.bus.fetch = none) (hdelivery : s.bus.delivery = none) : s.grant = s := by
  rw [State.grant, BusMaster.grant, hfree, hloader, hfetch, hdelivery]

theorem State.grant_fetch (f : Request) (hfetch : s.bus.fetch = some f) (hdelivery : s.bus.delivery = none) :
    s.grant = s.issue .fetch f := by
  rw [State.grant, BusMaster.grant, hfree, hloader, hfetch, hdelivery]
  rfl

theorem State.grant_delivery (d : Request) (hfetch : s.bus.fetch = none) (hdelivery : s.bus.delivery = some d) :
    s.grant = s.issue .delivery d := by
  rw [State.grant, BusMaster.grant, hfree, hloader, hfetch, hdelivery]
  rfl

/-- Fetch and delivery wait together: the turn is delivery's unless it was the last to be granted. -/
theorem State.grant_in_turn (f d : Request) (hfetch : s.bus.fetch = some f) (hdelivery : s.bus.delivery = some d) :
    s.grant = if s.bus.lastGrant = some .delivery then s.issue .fetch f else s.issue .delivery d := by
  rw [State.grant, BusMaster.grant, hfree, hloader, hfetch, hdelivery]
  exact apply_ite (fun bus : BusMaster => { s with bus := bus }) (s.bus.lastGrant = some .delivery) _ _

end BusFree

/-! ### The burst of a request (R138, R139, R141) -/

/-- Addresses advance modulo 2^32 (R139). -/
theorem addressAfter_toNat (start : Word) (words : Nat) :
    (addressAfter start words).toNat = (start.toNat + 4 * words) % 2 ^ 32 := by
  simp [addressAfter, BitVec.toNat_add]

theorem BusMaster.lengthFor_eq (b : BusMaster) (c : Client) :
    b.lengthFor c = if c = .loader then 1 else b.burstLength := by
  cases c <;> rfl

/-- A client's burst length is positive when the configured one is. -/
theorem BusMaster.one_le_lengthFor (b : BusMaster) (c : Client) (h : 1 ≤ b.burstLength) : 1 ≤ b.lengthFor c := by
  cases c with
  | loader => exact Nat.le_refl 1
  | fetch | delivery => exact h

theorem one_le_wordsToBoundary (a : Word) : 1 ≤ wordsToBoundary a := by
  unfold wordsToBoundary
  omega

/-- Each of the three numbers of R141 is positive when words are left, so every burst transfers a word. -/
theorem one_le_burstWords (length : Nat) (r : Request) (hleft : r.done < r.words) (hlength : 1 ≤ length) :
    1 ≤ burstWords length r :=
  Nat.le_min.mpr ⟨Nat.le_min.mpr ⟨hlength, Nat.sub_pos_of_lt hleft⟩, one_le_wordsToBoundary _⟩

/-- Settles O48: the arbiter by the bus and the requests that stand, a request as it is made, and the burst issued. -/
theorem arbiterAlternates : Obligations.ArbiterAlternates := by
  intro s
  refine ⟨s.grant_of_burst, fun hfree => ⟨s.grant_loader hfree, fun hloader => ⟨s.grant_idle hfree hloader,
    s.grant_fetch hfree hloader, s.grant_delivery hfree hloader, fun f d hfetch hdelivery => ?inTurn⟩⟩,
    fun c write start words => ⟨_, rfl, ?request⟩,
    fun c r hleft hlength => ⟨_, rfl, rfl, rfl, addressAfter_toNat _ _, rfl, ?positive, ?least⟩⟩
  case inTurn =>
    rw [s.grant_in_turn hfree hloader f d hfetch hdelivery]
    exact ⟨fun hlast => if_pos hlast, fun hlast => if_neg hlast⟩
  case request => cases c <;> rfl
  case positive => exact one_le_burstWords _ r hleft (s.bus.one_le_lengthFor c hlength)
  case least =>
    rw [← s.bus.lengthFor_eq c]
    rfl

end Sys2Proof.Machine
end

section
/-! PROOF. The host port (chapter 8): the command that a record spells (11.5), a write of the register window by its
register (R150, R153, R188), a word written to COMMAND by what the collector holds (R151, R152, R155), CONFIGURE by its
checks (R157, R158), and the statements on them. -/

namespace Sys2Proof

/-! ### The command that a record's words spell (11.5, R155) -/

/-- The codes with the counts of words of their records (8.3). -/
theorem codeCount_eq_some_iff (code : BitVec 8) (n : Nat) : codeCount code = some n ↔
    (code, n) ∈ [((1 : BitVec 8), 3), (2, 1), (3, 1), (4, 5), (5, 2), (6, 2), (7, 2), (8, 2), (9, 2)] := by
  simp only [List.mem_cons, Prod.mk.injEq, List.not_mem_nil, or_false]
  constructor
  · intro h
    unfold codeCount at h
    split at h
    all_goals cases h
    all_goals simp [BitVec.toNat_eq, *]
  · rintro (⟨rfl, rfl⟩ | ⟨rfl, rfl⟩ | ⟨rfl, rfl⟩ | ⟨rfl, rfl⟩ | ⟨rfl, rfl⟩ | ⟨rfl, rfl⟩ | ⟨rfl, rfl⟩ | ⟨rfl, rfl⟩ |
      ⟨rfl, rfl⟩)
    all_goals rfl

/-- A code, the number of words after the first, and the words by their positions, that spell a command (11.5). -/
def HostCommand.Spelled (code : BitVec 8) (further : Nat) (p : Nat → Halfword) : HostCommand → Prop
  | .configure a => code = 1 ∧ further = 2 ∧ a.extractLsb' 16 16 = p 1 ∧ a.extractLsb' 0 16 = p 2
  | .join | .leave => False
  | .send stream length a tag => code = 4 ∧ further = 4 ∧ stream = (p 1).extractLsb' 0 8 ∧
      length = (p 1).extractLsb' 8 8 ∧ a.extractLsb' 16 16 = p 2 ∧ a.extractLsb' 0 16 = p 3 ∧ tag = p 4
  | .cancel tag => code = 5 ∧ further = 1 ∧ tag = p 1
  | .trigger group => code = 6 ∧ further = 1 ∧ group = (p 1).extractLsb' 0 8
  | .release ring n => code = 7 ∧ further = 1 ∧ ring = (p 1).extractLsb' 0 8 ∧ n = (p 1).extractLsb' 8 8
  | .resume skip => code = 8 ∧ further = 1 ∧ skip = (p 1).getLsbD 0
  | .query subject => code = 9 ∧ further = 1 ∧ subject = (p 1).extractLsb' 0 8

theorem address_of_halves (a : Word) (high low : Halfword) (hhigh : a.extractLsb' 16 16 = high)
    (hlow : a.extractLsb' 0 16 = low) : high ++ low = a := by
  rw [← hhigh, ← hlow]
  exact BitVec.extractLsb'_append_extractLsb'

/-- The command is the one the whole record is read as, whatever its first word holds (R155). -/
theorem HostCommand.ofWords_of_spelled (c : HostCommand) (code : BitVec 8) (words : List Halfword) (w : Halfword)
    (h : c.Spelled code words.length ((words ++ [w]).getD · 0)) : ofWords code (words ++ [w]) = some c := by
  cases c with
  | join | leave => exact h.elim
  | configure a =>
    obtain ⟨rfl, hlength, hhigh, hlow⟩ := h
    obtain ⟨first, high, rfl⟩ := List.length_eq_two.mp hlength
    rw [← address_of_halves a high w hhigh hlow]
    rfl
  | send stream length a tag =>
    obtain ⟨rfl, hlength, rfl, rfl, hhigh, hlow, rfl⟩ := h
    obtain ⟨first, params, high, low, rfl⟩ := List.length_eq_four.mp hlength
    rw [← address_of_halves a high low hhigh hlow]
    rfl
  | cancel | trigger | resume | query =>
    obtain ⟨rfl, hlength, rfl⟩ := h
    obtain ⟨first, rfl⟩ := List.length_eq_one_iff.mp hlength
    rfl
  | release ring n =>
    obtain ⟨rfl, hlength, rfl, rfl⟩ := h
    obtain ⟨first, rfl⟩ := List.length_eq_one_iff.mp hlength
    rfl

end Sys2Proof

namespace Sys2Proof.Machine

/-! ### Writes of the register window (R150, R153, R175, R188) -/

/-- The register is the offset without its lowest bit (R188). -/
theorem registerNumber_eq (a : BitVec 5) : (a.extractLsb' 1 4).toNat = a.toNat / 2 := by
  rw [BitVec.extractLsb'_toNat, Nat.shiftRight_eq_div_pow]
  omega

/-- A write to any register but COMMAND, COMMAND CLEAR and INTERRUPT ENABLE is ignored (R150). -/
theorem State.windowWrite_ignored (s : State) (a : BitVec 5) (v : Halfword) (hcommand : a.toNat / 2 ≠ 0)
    (hclear : a.toNat / 2 ≠ 1) (henable : a.toNat / 2 ≠ 7) : s.windowWrite a v = s := by
  unfold State.windowWrite
  rw [registerNumber_eq]
  split
  next h => exact absurd h hcommand
  next h => exact absurd h hclear
  next h => exact absurd h henable
  · rfl

theorem exec_interruptEnableWrite_released (o : Occasion) (v : Halfword) (s : State) (h : s.resetPin = false) :
    exec (.interruptEnableWrite o v) s = .next ((s.at o).windowWrite 14 v) :=
  congrArg Host.Outcome.next (s.live_released o _ h)

theorem exec_commandClear_released (o : Occasion) (v : Halfword) (s : State) (h : s.resetPin = false) :
    exec (.commandClear o v) s = .next ((s.at o).windowWrite 2 v) :=
  congrArg Host.Outcome.next (s.live_released o _ h)

theorem exec_ignoredWrite_released (o : Occasion) (a : BitVec 5) (v : Halfword) (s : State) (h : s.resetPin = false) :
    exec (.ignoredWrite o a v) s = .next ((s.at o).windowWrite a v) :=
  congrArg Host.Outcome.next (s.live_released o _ h)

/-- Settles O10: the two registers that a write changes, and every other one. -/
theorem windowWrites : Obligations.WindowWrites := by
  intro s o v hreset
  refine ⟨?enable, ?clear, fun a hnotCommand hnotClear hnotEnable => ?ignored⟩
  case enable =>
    rw [exec_interruptEnableWrite_released o v s hreset, ← s.at_events o]
    rfl
  case clear =>
    rw [exec_commandClear_released o v s hreset, ← s.at_host o]
    rfl
  case ignored =>
    rw [exec_ignoredWrite_released o a v s hreset, State.windowWrite_ignored _ a v hnotCommand hnotClear hnotEnable]

/-! ### A word written to COMMAND (R151, R152) -/

section WriteCommand
variable (s : State) (w : Halfword)

/-- A first word opens a record only with the count of its code (R151). -/
theorem State.writeCommand_unknown (hempty : s.host.collector = none)
    (h : codeCount (wordCode w) ≠ some (wordCount w)) : s.writeCommand w = s.setStatus .unknown (wordCode w) 0 := by
  simp only [State.writeCommand, hempty, if_neg h]

theorem State.writeCommand_opens (hempty : s.host.collector = none) (h : codeCount (wordCode w) = some (wordCount w))
    (hmore : wordCount w ≠ 1) : s.writeCommand w = s.collect (wordCode w) (wordCount w) [w] := by
  simp only [State.writeCommand, hempty, if_pos h, if_neg hmore]

theorem State.writeCommand_single (hempty : s.host.collector = none) (h : codeCount (wordCode w) = some (wordCount w))
    (hsingle : wordCount w = 1) : s.writeCommand w = s.finishCommand (wordCode w) [w] := by
  simp only [State.writeCommand, hempty, if_pos h, if_pos hsingle]

variable (c : Collector) (hheld : s.host.collector = some c)
include hheld

theorem State.writeCommand_joins (h : c.words.length + 1 < c.count) :
    s.writeCommand w = s.collect c.code c.count (c.words ++ [w]) := by
  simp only [State.writeCommand, hheld, if_pos h]

theorem State.writeCommand_completes (h : c.count ≤ c.words.length + 1) :
    s.writeCommand w = s.finishCommand c.code (c.words ++ [w]) := by
  simp only [State.writeCommand, hheld, if_neg h.not_gt]

end WriteCommand

/-- The collector emptied. -/
def State.emptyCollector (s : State) : State := { s with host := { s.host with collector := none } }

theorem State.emptyCollector_of_none (s : State) (h : s.host.collector = none) : s.emptyCollector = s := by
  rw [State.emptyCollector, ← h]

/-- A whole record that spells a command is judged with the collector empty (R152, R155). -/
theorem State.finishCommand_spelled (s : State) (code : BitVec 8) (words : List Halfword) (c : HostCommand)
    (h : HostCommand.ofWords code words = some c) : s.finishCommand code words =
      State.setStatus (s.emptyCollector.judge c).2 (s.emptyCollector.judge c).1 code words.length := by
  simp only [State.finishCommand, h]
  rfl

theorem exec_unknownCommand_released (o : Occasion) (w : Halfword) (s : State) (h : s.resetPin = false) :
    exec (.unknownCommand o w) s = .next ((s.at o).writeCommand w) :=
  congrArg Host.Outcome.next (s.live_released o _ h)

theorem exec_commandWordCollected_released (o : Occasion) (w : Halfword) (s : State) (h : s.resetPin = false) :
    exec (.commandWordCollected o w) s = .next ((s.at o).writeCommand w) :=
  congrArg Host.Outcome.next (s.live_released o _ h)

/-- A word that is the whole record of its command is judged at once (R152). -/
theorem exec_commandWordCollected_single (s : State) (o : Occasion) (w : Halfword) (c : HostCommand)
    (h : s.CommandReady) (hcode : wordCode w = c.code) (hcount : wordCount w = 1) (hsingle : codeCount c.code = some 1)
    (hspelled : HostCommand.ofWords c.code [w] = some c) (hlength : c.words.length = 1) :
    exec (.commandWordCollected o w) s = .next (s.live o (·.writeRecord c)) := by
  obtain ⟨hreset, hcollector⟩ := h
  have hempty : (s.at o).host.collector = none := by simpa using hcollector
  have hvalid : codeCount (wordCode w) = some (wordCount w) := by rw [hcode, hcount, hsingle]
  rw [exec_commandWordCollected_released o w s hreset, State.writeCommand_single _ w hempty hvalid hcount, hcode,
    State.finishCommand_spelled _ _ _ c hspelled, State.emptyCollector_of_none _ hempty, s.live_writeRecord o c ⟨hreset, hcollector⟩,
    hlength]
  rfl

/-- Settles O11: the first word by its code and count, the words that join, the codes, and the last word. -/
theorem wordsAreCollected : Obligations.WordsAreCollected := by
  refine ⟨fun s o w hreset => ⟨fun hempty hcount => ?unknown, fun hempty hcount hmore => ?opens,
    fun c hheld hmore => ?joins, fun hempty hcount => ⟨fun hcode => ?join, fun hcode => ?leave⟩⟩,
    codeCount_eq_some_iff, fun s o c code w words p hreset hp hheld hspelled => ?last⟩
  case unknown =>
    rw [exec_unknownCommand_released o w s hreset,
      State.writeCommand_unknown _ w (by simpa using hempty) hcount, ← s.at_host o]
    rfl
  case opens =>
    rw [exec_commandWordCollected_released o w s hreset,
      State.writeCommand_opens _ w (by simpa using hempty) hcount (Nat.ne_of_gt hmore), ← s.at_host o]
    rfl
  case joins =>
    rw [exec_commandWordCollected_released o w s hreset,
      State.writeCommand_joins _ w c (by simpa using hheld) hmore, State.collect, List.length_append,
      ← s.at_host o]
    rfl
  case join =>
    have hone : wordCount w = 1 := congrArg BitVec.toNat hcount
    exact exec_commandWordCollected_single s o w .join ⟨hreset, hempty⟩ hcode hone rfl rfl rfl
  case leave =>
    have hone : wordCount w = 1 := congrArg BitVec.toNat hcount
    exact exec_commandWordCollected_single s o w .leave ⟨hreset, hempty⟩ hcode hone rfl rfl rfl
  case last =>
    obtain rfl : p = fun k => (words ++ [w]).getD k 0 := funext hp
    have hwhole := HostCommand.ofWords_of_spelled c code words w hspelled
    refine ⟨_, rfl, ?_⟩
    rw [exec_commandWordCollected_released o w s hreset,
      State.writeCommand_completes _ w _ (by simpa using hheld) (Nat.le_refl _),
      State.finishCommand_spelled _ _ _ c hwhole, List.length_append, ← s.at_host o]
    rfl

/-! ### CONFIGURE (R157, R158) -/

theorem exec_configure_ready (o : Occasion) (a : Word) (s : State) (h : s.CommandReady) :
    exec (.configure o a) s = .next (State.setStatus ((s.at o).judgeConfigure a).2 ((s.at o).judgeConfigure a).1 1 3) :=
  congrArg Host.Outcome.next (s.live_writeRecord o (.configure a) h)

section JudgeConfigure
variable (s : State) (a : Word)

theorem State.judgeConfigure_state (h : s.member.station ≠ .config) : s.judgeConfigure a = (.state, s) := if_pos h

variable (hconfig : s.member.station = .config)
include hconfig

theorem State.judgeConfigure_busy (h : s.host.loading = true) : s.judgeConfigure a = (.busy, s) := by
  rw [State.judgeConfigure, if_neg (not_not_intro hconfig), if_pos h]

variable (hidle : s.host.loading = false)
include hidle

theorem State.judgeConfigure_range (h : a.toNat % 4 ≠ 0) : s.judgeConfigure a = (.range, s) := by
  rw [State.judgeConfigure, if_neg (not_not_intro hconfig), if_neg (by simp [hidle]), if_pos h]

theorem State.judgeConfigure_taken (h : a.toNat % 4 = 0) : s.judgeConfigure a = (.ok, s.startLoad a) := by
  rw [State.judgeConfigure, if_neg (not_not_intro hconfig), if_neg (by simp [hidle]), if_neg (not_not_intro h)]

end JudgeConfigure

/-- The burst of a request of the loader, whose burst length is 1, is one word (R139, R141). -/
theorem burstWords_one (r : Request) (hleft : r.done < r.words) : burstWords 1 r = 1 :=
  Nat.le_antisymm ((Nat.min_le_left _ _).trans (Nat.min_le_left _ _)) (one_le_burstWords 1 r hleft (Nat.le_refl 1))

/-- On a free bus a request of the loader is granted as it is made, for a burst of one word (R139, R142). -/
theorem BusMaster.grant_setRequest_loader (b : BusMaster) (now : Time) (r : Request) (hfree : b.burst = none)
    (hleft : r.done < r.words) : (b.setRequest .loader (some r)).grant now = { b with
      loader := some r
      burst := some { client := .loader, write := r.write, first := r.nextAddress, words := 1, answered := 0 }
      timeout := some (now + 6400) } := by
  simp only [BusMaster.setRequest, BusMaster.grant, hfree, BusMaster.issue, BusMaster.lengthFor, burstWords_one r hleft,
    if_true, busTimeoutSpan, micros]

/-- With the bus free the load begins with the burst of the word at the load address (R142, R158). -/
theorem State.startLoad_free (s : State) (a : Word) (hfree : s.bus.burst = none) : s.startLoad a = { s with
    host := { s.host with loading := true, loadAddress := some a, loadBuffer := [] }
    bus := { s.bus with
      loader := some { write := false, start := a, words := 20, done := 0 }
      burst := some { client := .loader, write := false, first := a, words := 1, answered := 0 }
      timeout := some (s.now + 6400) } } := by
  have haddress : addressAfter a 0 = a := BitVec.add_zero a
  rw [State.startLoad, State.makeRequest_eq, BusMaster.grant_setRequest_loader s.bus _ _ hfree (Nat.succ_pos _),
    Request.nextAddress, haddress]

/-- Settles O13: the checks of CONFIGURE in their order, then the load. -/
theorem configureBeginsLoad : Obligations.ConfigureBeginsLoad := by
  intro s o a hready
  refine ⟨_, rfl, ?_⟩
  rw [exec_configure_ready o a s hready, ← s.at_member_station o, ← s.at_host o, ← s.at_now o]
  refine ⟨fun hstation => ?state, fun hconfig hloading => ?busy, fun hconfig hidle haddress => ?range,
    fun hconfig hidle haddress hfree => ?taken⟩
  case state => rw [State.judgeConfigure_state _ a hstation]
  case busy => rw [State.judgeConfigure_busy _ a hconfig hloading]
  case range => rw [State.judgeConfigure_range _ a hconfig hidle haddress]
  case taken =>
    rw [State.judgeConfigure_taken _ a hconfig hidle haddress, State.startLoad_free _ a hfree]
    rfl

end Sys2Proof.Machine
end

section
/-! PROOF. The event queue, the reads of the register window and QUERY (chapter 9, R150, R165, R166, 11.4 to 11.6): what a
posting and a read do to the queue, the turns of simultaneous postings, the fields of each word that software reads, the
reports, and the statements on them. -/

namespace Sys2Proof

/-! ### The fields of a word -/

/-- A field is kept with its unused high bits zero (R187). -/
theorem zero_append_eq_setWidth (n : Nat) {w : Nat} (x : BitVec w) : 0#n ++ x = x.setWidth (n + w) := by
  refine BitVec.eq_of_toNat_eq ?_
  have hwide : x.toNat < 2 ^ (n + w) := x.isLt.trans_le (Nat.pow_le_pow_right Nat.two_pos (Nat.le_add_left w n))
  simp [BitVec.toNat_append, Nat.mod_eq_of_lt hwide]

/-- A field above the lowest one is a field of what stands above it. -/
theorem extractLsb'_append_high {a b : Nat} (p : BitVec a) (q : BitVec b) (start len : Nat) :
    (p ++ q).extractLsb' (b + start) len = p.extractLsb' start len := by
  rw [BitVec.extractLsb'_append_eq_of_le (Nat.le_add_right b start), Nat.add_sub_cancel_left]

section Fields
variable {a b c d : Nat} (p : BitVec a) (q : BitVec b) (r : BitVec c) (t : BitVec d)

/-- Each field of a word of three stands behind those that follow it. -/
theorem fields_of_three : (p ++ q ++ r).extractLsb' 0 c = r ∧ (p ++ q ++ r).extractLsb' c b = q ∧
    (p ++ q ++ r).extractLsb' (c + b) a = p :=
  ⟨BitVec.extractLsb'_append_eq_right,
    (extractLsb'_append_high (p ++ q) r 0 b).trans BitVec.extractLsb'_append_eq_right,
    (extractLsb'_append_high (p ++ q) r b a).trans BitVec.extractLsb'_append_eq_left⟩

/-- Each field of a word of four stands behind those that follow it. -/
theorem fields_of_four : (p ++ q ++ r ++ t).extractLsb' 0 d = t ∧ (p ++ q ++ r ++ t).extractLsb' d c = r ∧
    (p ++ q ++ r ++ t).extractLsb' (d + c) b = q ∧ (p ++ q ++ r ++ t).extractLsb' (d + (c + b)) a = p := by
  obtain ⟨hthird, hsecond, hfirst⟩ := fields_of_three p q r
  exact ⟨BitVec.extractLsb'_append_eq_right, (extractLsb'_append_high _ t 0 c).trans hthird,
    (extractLsb'_append_high _ t c b).trans hsecond, (extractLsb'_append_high _ t (c + b) a).trans hfirst⟩

end Fields

/-- A field of one bit. -/
theorem getLsbD_of_extractLsb' {w : Nat} (x : BitVec w) (n : Nat) (v : Bool) (h : x.extractLsb' n 1 = BitVec.ofBool v) :
    x.getLsbD n = v := by
  have hbit := congrArg (·.getLsbD 0) h
  simpa using hbit

end Sys2Proof

namespace Sys2Proof.Machine

/-! ### The event queue (R167, R169, R170, R172) -/

/-- The lost count stops at 31 (R170). -/
theorem saturatingInc_lost (lost : BitVec 5) : saturatingInc lost = if lost = 31 then 31 else lost + 1 := by
  have hmax : BitVec.allOnes 5 = 31 := by decide
  rw [saturatingInc, hmax]
  split
  next h => exact h
  · rfl

section Post
variable (q : EventQueue) (e : Event)

theorem EventQueue.post_entered (h : e.length ≤ q.free) :
    q.post e = { q with whole := q.whole ++ [{ event := e, lostBefore := q.lost }], lost := 0 } := if_pos h

theorem EventQueue.post_dropped (h : q.free < e.length) : q.post e = { q with lost := saturatingInc q.lost } :=
  if_neg h.not_ge

/-- An entered record takes its whole length of the queue (R167, R169). -/
theorem EventQueue.post_entered_used (h : e.length ≤ q.free) : (q.post e).used = q.used + e.length := by
  simp [q.post_entered e h, EventQueue.used, Nat.add_assoc]

end Post

/-! ### Simultaneous postings (R171) -/

/-- Turns that name the blocks of a sequence of postings bring about that very sequence. -/
theorem takeTurns_of_postings (postings : List (Poster × Event)) :
    takeTurns (postings.map (·.1)) ((postings.filter (·.1 == .send)).map (·.2))
      ((postings.filter (·.1 == .trigger)).map (·.2)) ((postings.filter (·.1 == .member)).map (·.2)) =
      postings.map (·.2) := by
  induction postings with
  | nil => rfl
  | cons posting rest ih =>
    obtain ⟨block, e⟩ := posting
    cases block <;> exact congrArg (e :: ·) ih

/-- Whatever the turns, every posting is taken once, and those of one block in their order: a turn takes the next posting
of its block, or passes where that has none left. -/
theorem takeTurns_interleaves (turns : List Poster) (send trigger member : List Event) :
    (takeTurns turns send trigger member).Perm (send ++ trigger ++ member) ∧
      send.Sublist (takeTurns turns send trigger member) ∧ trigger.Sublist (takeTurns turns send trigger member) ∧
      member.Sublist (takeTurns turns send trigger member) := by
  fun_induction takeTurns turns send trigger member with
  | case1 turns e send trigger member ih =>
    obtain ⟨hperm, hsend, htrigger, hmember⟩ := ih
    exact ⟨hperm.cons e, hsend.cons_cons e, htrigger.cons e, hmember.cons e⟩
  | case2 turns trigger member ih => exact ih
  | case3 turns send e trigger member ih =>
    obtain ⟨hperm, hsend, htrigger, hmember⟩ := ih
    have hplace : (send ++ e :: trigger ++ member).Perm (e :: (send ++ trigger ++ member)) :=
      List.perm_middle.append_right member
    exact ⟨(hperm.cons e).trans hplace.symm, hsend.cons e, htrigger.cons_cons e, hmember.cons e⟩
  | case4 turns send member ih => exact ih
  | case5 turns send trigger e member ih =>
    obtain ⟨hperm, hsend, htrigger, hmember⟩ := ih
    exact ⟨(hperm.cons e).trans List.perm_middle.symm, hsend.cons e, htrigger.cons e, hmember.cons_cons e⟩
  | case6 turns send trigger ih => exact ih
  | case7 send trigger member =>
    exact ⟨.refl _, (List.sublist_append_left send trigger).trans (List.sublist_append_left _ member),
      (List.sublist_append_right send trigger).trans (List.sublist_append_left _ member),
      List.sublist_append_right _ member⟩

/-! ### The words of event records (R168, R187, 11.4) -/

/-- The first word of a record keeps kind, length and lost count apart, bit 11 zero. -/
theorem eventFirstWord_fields (kind : BitVec 4) (length : Nat) (lost : BitVec 5) :
    (eventFirstWord kind length lost).extractLsb' 12 4 = kind ∧ (eventFirstWord kind length lost).getLsbD 11 = false ∧
      (eventFirstWord kind length lost).extractLsb' 5 6 = BitVec.ofNat 6 length ∧
      (eventFirstWord kind length lost).extractLsb' 0 5 = lost := by
  obtain ⟨hlost, hlength, hzero, hkind⟩ := fields_of_four kind 0#1 (BitVec.ofNat 6 length) lost
  exact ⟨hkind, getLsbD_of_extractLsb' _ 11 false hzero, hlength, hlost⟩

/-- The NONE word shows nothing but the lost count (R172). -/
theorem eventFirstWord_none (lost : BitVec 5) : eventFirstWord 0 0 lost = 0#11 ++ lost := rfl

/-- A byte alone in a halfword stands in bits 7–0. -/
theorem bytes_zero (low : BitVec 8) : bytes 0 low = low.setWidth 16 := zero_append_eq_setWidth 8 low

/-- A code narrower than a byte, alone in a halfword. -/
theorem bytes_zero_byte (code : BitVec 4) : bytes 0 (byte code) = code.setWidth 16 := by
  rw [bytes_zero]
  exact BitVec.setWidth_setWidth (by decide)

/-- The ring of a DELIVERY_FAULT stands in four bits, the higher two zero (11.4). -/
theorem deliveryFault_word (cause : BusCause) (ring : BitVec 2) (slot : Nat) :
    (cause.code ++ (0#2 ++ ring) ++ BitVec.ofNat 8 slot : Halfword) =
      cause.code ++ ring.setWidth 4 ++ BitVec.ofNat 8 slot := by
  rw [zero_append_eq_setWidth]

/-- Settles O8: the posting by whether it fits, the turns by induction on them, the words kind by kind. -/
theorem postingEntersOrDrops : Obligations.PostingEntersOrDrops := by
  refine ⟨fun s e => ⟨fun hfits => ⟨?entered, s.events.post_entered_used e hfits⟩, fun hfull => ?dropped⟩,
    takeTurns_of_postings, takeTurns_interleaves, fun e lost => ?words, by decide⟩
  case entered => rw [State.post, s.events.post_entered e hfits]
  case dropped => rw [State.post, s.events.post_dropped e hfull, saturatingInc_lost]
  case words =>
    obtain ⟨hkind, hzero, hlength, hlost⟩ := eventFirstWord_fields e.kind e.length lost
    refine ⟨e.kind, _, e.fields, rfl, rfl, hkind, hzero, hlength, hlost, ?_⟩
    cases e
    case configFault cause address => exact ⟨rfl, congrArg (· :: _) (bytes_zero_byte cause.code)⟩
    case stateChange state cause ringSize number epoch =>
      exact ⟨rfl, congrArg (fun w => [_, _, w]) (bytes_zero epoch)⟩
    case deliveryFault ring slot address cause => exact ⟨rfl, congrArg (· :: _) (deliveryFault_word cause ring slot)⟩
    case report subject contents => exact ⟨rfl, congrArg (· :: contents) (bytes_zero subject.code)⟩
    all_goals exact ⟨rfl, rfl⟩

/-! ### The reads of the register window (R150, R165, R166, R172, R173) -/

section Read
variable (q : EventQueue)

/-- A read of EVENT goes on with the current event (R172). -/
theorem EventQueue.read_current (w : Halfword) (rest : List Halfword) (h : q.current = w :: rest) :
    q.nextWord = w ∧ q.afterRead = { q with current := rest } := by
  simp [EventQueue.nextWord, EventQueue.afterRead, h]

/-- With no current event the oldest whole one becomes the current one (R172). -/
theorem EventQueue.read_whole (r : EventRecord) (rest : List EventRecord) (hcurrent : q.current = [])
    (h : q.whole = r :: rest) :
    q.nextWord = r.words.headD 0 ∧ q.afterRead = { q with current := r.words.tail, whole := rest } := by
  simp [EventQueue.nextWord, EventQueue.afterRead, EventRecord.words, hcurrent, h]

/-- An empty queue shows its lost count and keeps it (R172). -/
theorem EventQueue.read_none (hcurrent : q.current = []) (h : q.whole = []) :
    q.nextWord = 0#11 ++ q.lost ∧ q.afterRead = q := by
  simp only [EventQueue.nextWord, EventQueue.afterRead, hcurrent, h, eventFirstWord_none, and_self]

end Read

section Taking
variable (s : State) (h : s.resetPin = false)
include h

theorem State.windowRead_event : s.windowRead 6 =
    { s with events := s.events.afterRead, host := { s.host with readData := s.events.nextWord } } := by
  simp [State.windowRead, State.windowValue, State.windowTake, h]

theorem State.windowRead_statusFirst : s.windowRead 10 =
    { s with host := { s.host with readData := s.statusFirst, capture := s.statusSecond } } := by
  simp [State.windowRead, State.windowValue, State.windowTake, h]

end Taking

/-- A read of any register but EVENT and the first halfword of STATION STATUS takes nothing (R150). -/
theorem State.windowTake_unchanged (s : State) (a : BitVec 5) (hevent : a.toNat / 2 ≠ 3) (hstatus : a.toNat / 2 ≠ 5) :
    s.windowTake a = s := by
  unfold State.windowTake
  rw [registerNumber_eq]
  split
  next h => exact absurd h hevent
  next h => exact absurd h hstatus
  · rfl

theorem State.windowRead_unchanged (s : State) (a : BitVec 5) (hevent : a.toNat / 2 ≠ 3) (hstatus : a.toNat / 2 ≠ 5) :
    s.windowRead a = { s with host := { s.host with readData := s.windowValue a } } := by
  rw [State.windowRead, s.windowTake_unchanged a hevent hstatus, ite_self]

theorem exec_eventRead (o : Occasion) (s : State) : exec (.eventRead o) s = .next ((s.at o).windowRead 6) := rfl

theorem exec_stationStatusFirstRead (o : Occasion) (s : State) :
    exec (.stationStatusFirstRead o) s = .next ((s.at o).windowRead 10) := rfl

theorem State.windowValue_asserted (s : State) (a : BitVec 5) (h : s.resetPin = true) : s.windowValue a = 0 := if_pos h

/-- The offsets that name no readable register (R150, R188). -/
theorem State.windowValue_unnamed (s : State) (a : BitVec 5) (h : a.toNat / 2 < 2 ∨ 8 < a.toNat / 2) :
    s.windowValue a = 0 := by
  unfold State.windowValue
  rw [registerNumber_eq]
  split
  · rfl
  · split
    case h_8 => rfl
    all_goals omega

/-- Both halves of a register's offset pair read the same. -/
theorem State.windowValue_congr (s : State) (a b : BitVec 5) (h : a.toNat / 2 = b.toNat / 2) :
    s.windowValue a = s.windowValue b := by
  rw [State.windowValue, registerNumber_eq, h, ← registerNumber_eq, ← State.windowValue]

/-- The content of the registers whose reads change nothing, at their offsets (R188). -/
theorem State.windowValue_registers (s : State) (h : s.resetPin = false) :
    s.windowValue 4 = s.host.status.word ∧ s.windowValue 8 = s.events.status ∧ s.windowValue 12 = s.host.capture ∧
      s.windowValue 14 = (if s.events.enable then 1 else 0) ∧ s.windowValue 16 = 0x2240 := by
  have henable : 0#15 ++ BitVec.ofBool s.events.enable = if s.events.enable then 1#16 else 0#16 := by
    cases s.events.enable <;> rfl
  simp [State.windowValue, h, henable, Config.ident]

/-! ### The fields of the status registers (11.5, 11.6) -/

theorem CommandStatus.word_fields (c : CommandStatus) :
    c.word.extractLsb' 0 4 = c.value.code ∧ c.word.extractLsb' 4 4 = BitVec.ofNat 4 c.words ∧
      c.word.extractLsb' 8 8 = c.code := fields_of_three _ _ _

theorem EventQueue.status_fields (q : EventQueue) :
    q.status.extractLsb' 0 6 = BitVec.ofNat 6 (min q.whole.length 63) ∧
      q.status.extractLsb' 6 5 = BitVec.ofNat 5 q.current.length ∧ q.status.extractLsb' 11 5 = q.lost :=
  fields_of_three _ _ _

theorem State.statusFirst_fields (s : State) :
    s.statusFirst.extractLsb' 0 3 = s.member.station.code.setWidth 3 ∧
      s.statusFirst.extractLsb' 3 3 = (subStateCode s.member.sub).setWidth 3 ∧
      s.statusFirst.extractLsb' 6 5 = s.member.ringSize ∧ s.statusFirst.extractLsb' 11 5 = s.member.number.getD 0 :=
  fields_of_four _ _ _ _

theorem State.statusSecond_fields (s : State) :
    s.statusSecond.extractLsb' 0 8 = s.member.epoch ∧ s.statusSecond.getLsbD 8 = s.host.loading ∧
      s.statusSecond.extractLsb' 9 2 = s.delivery.engine.code ∧
      s.statusSecond.extractLsb' 11 5 = BitVec.ofNat 5 s.send.queue.length := by
  obtain ⟨hepoch, hloading, hengine, hqueue⟩ := fields_of_four (BitVec.ofNat 5 s.send.queue.length)
    s.delivery.engine.code (BitVec.ofBool s.host.loading) s.member.epoch
  exact ⟨hepoch, getLsbD_of_extractLsb' _ 8 _ hloading, hengine, hqueue⟩

/-- The INT pin (R175). -/
theorem State.intPin_iff (s : State) :
    s.intPin = true ↔ s.events.enable = true ∧ s.events.whole ≠ [] ∧ s.resetPin = false := by
  have hpin : s.intPin = true ↔ s.resetPin = false ∧ s.events.enable = true ∧ s.events.whole ≠ [] := by
    simp [State.intPin, and_assoc]
  exact hpin.trans and_rotate

/-- The passing of time changes none of the items that STATION STATUS shows (R165). -/
theorem State.at_statusFirst (s : State) (o : Occasion) : (s.at o).statusFirst = s.statusFirst := by
  simp [State.statusFirst]

theorem State.at_statusSecond (s : State) (o : Occasion) : (s.at o).statusSecond = s.statusSecond := by
  simp [State.statusSecond]

/-- Settles O9: the two reads that change something, the others by the register, and the INT pin. -/
theorem windowReads : Obligations.WindowReads := by
  refine ⟨fun s o hreset => ?event, fun s o hreset => ⟨s.statusFirst, s.statusSecond, ?station⟩,
    fun s a hevent hstatus => ⟨s.windowValue a, s.windowRead_unchanged a hevent hstatus,
      s.windowValue_asserted a, fun hreset => ?register⟩,
    ⟨by decide, rfl, fun _ _ _ => rfl, fun _ _ => rfl⟩, State.intPin_iff⟩
  case event =>
    rw [exec_eventRead, State.windowRead_event _ (by simpa using hreset), s.at_events, ← s.at_host o]
    refine ⟨fun w rest hcurrent => ?current, fun r rest hcurrent hwhole => ?whole, fun hcurrent hwhole => ?none⟩
    case current =>
      obtain ⟨hword, hafter⟩ := s.events.read_current w rest hcurrent
      rw [hword, hafter]
    case whole =>
      obtain ⟨hword, hafter⟩ := s.events.read_whole r rest hcurrent hwhole
      rw [hword, hafter]
    case none =>
      obtain ⟨hword, hafter⟩ := s.events.read_none hcurrent hwhole
      rw [hword, hafter, ← s.at_events o]
  case station =>
    obtain ⟨hstation, hsub, hsize, hnumber⟩ := s.statusFirst_fields
    refine ⟨?_, hstation, hsub, hsize, hnumber, s.statusSecond_fields⟩
    rw [exec_stationStatusFirstRead, State.windowRead_statusFirst _ (by simpa using hreset), s.at_statusFirst,
      s.at_statusSecond, s.at_host]
  case register =>
    obtain ⟨hcommand, hevents, hcapture, henable, hident⟩ := s.windowValue_registers hreset
    refine ⟨fun ha => ?_, fun ha => ?_, (s.windowValue_congr a 12 · |>.trans hcapture),
      (s.windowValue_congr a 14 · |>.trans henable), (s.windowValue_congr a 16 · |>.trans hident),
      s.windowValue_unnamed a⟩
    · rw [s.windowValue_congr a 4 ha, hcommand]
      exact s.host.status.word_fields
    · rw [s.windowValue_congr a 8 ha, hevents]
      exact s.events.status_fields

/-! ### QUERY and its reports (R177 to R179) -/

/-- The length of a report in words: its first word, the subject and the contents (R178). -/
def Subject.reportLength : Subject → Nat
  | .counters => 13
  | .roster => 32
  | .ring => 6
  | .queues => 8

theorem length_report (subject : Subject) (s : State) :
    (Event.report subject (reportContents subject s)).length = subject.reportLength := by
  cases subject <;> simp [Event.length, Event.fields, reportContents, Counters.words, Subject.reportLength]

theorem Subject.ofByte_none (b : BitVec 8) (h : 3 < b.toNat) : Subject.ofByte b = none := by
  unfold Subject.ofByte
  split
  case h_5 => rfl
  all_goals omega

section JudgeQuery
variable (s : State) (b : BitVec 8)

theorem State.judgeQuery_range (h : 3 < b.toNat) : s.judgeQuery b = (.range, s) := by
  rw [State.judgeQuery, Subject.ofByte_none b h]

variable (subject : Subject) (hsubject : Subject.ofByte b = some subject)
include hsubject

theorem State.judgeQuery_full (h : s.events.free < subject.reportLength) : s.judgeQuery b = (.full, s) := by
  simp only [State.judgeQuery, hsubject, length_report, if_pos h]

theorem State.judgeQuery_taken (h : subject.reportLength ≤ s.events.free) :
    s.judgeQuery b = (.ok, s.enterReport subject) := by
  simp only [State.judgeQuery, hsubject, length_report, if_neg h.not_gt]

end JudgeQuery

section LiveQuery
variable (s : State) (o : Occasion) (hready : s.CommandReady) (b : BitVec 8)
include hready

theorem State.live_query_range (h : 3 < b.toNat) :
    s.live o (·.writeRecord (.query b)) = (s.at o).setStatus .range 9 2 := by
  rw [s.live_writeRecord o _ hready, State.judge, State.judgeQuery_range _ b h]
  rfl

variable (subject : Subject) (hsubject : Subject.ofByte b = some subject)
include hsubject

theorem State.live_query_full (h : 128 - s.events.used < subject.reportLength) :
    s.live o (·.writeRecord (.query b)) = (s.at o).setStatus .full 9 2 := by
  rw [← s.at_events o] at h
  rw [s.live_writeRecord o _ hready, State.judge, State.judgeQuery_full _ b subject hsubject h]
  rfl

theorem State.live_query_taken (h : subject.reportLength ≤ 128 - s.events.used) :
    s.live o (·.writeRecord (.query b)) = ((s.at o).enterReport subject).setStatus .ok 9 2 := by
  rw [← s.at_events o] at h
  rw [s.live_writeRecord o _ hready, State.judge, State.judgeQuery_taken _ b subject hsubject h]
  rfl

end LiveQuery

/-- The passing of time changes no report but that of the queues, which shows the head state. -/
theorem State.at_reportContents (s : State) (o : Occasion) (subject : Subject) (h : subject ≠ .queues) :
    reportContents subject (s.at o) = reportContents subject s := by
  cases subject
  case queues => exact absurd rfl h
  all_goals simp [reportContents]

/-- In the report of the queues the passing of time can change the head state alone (R178). -/
theorem State.at_reportContents_queues (s : State) (o : Occasion) : reportContents .queues (s.at o) =
    bytes (headStateCode (s.at o).send.head) (BitVec.ofNat 8 s.send.queue.length) ::
      BitVec.ofNat 16 (placesUsed s.delivery.store) ::
        s.delivery.rings.toList.map (fun r => bytes (BitVec.ofNat 8 r.reserved) (BitVec.ofNat 8 r.filled)) := by
  simp [reportContents]

/-- Settles O20: the subject, the room for the report, and the report of each of the four subjects. -/
theorem queryEntersReport : Obligations.QueryEntersReport := by
  intro s o hready
  have full := s.live_query_full o hready
  have taken := s.live_query_taken o hready
  refine ⟨fun b hb => congrArg Host.Outcome.next (s.live_query_range o hready b hb),
    fun hfits => congrArg Host.Outcome.next ((taken 0 .counters rfl hfits).trans ?counters),
    fun h => congrArg Host.Outcome.next (full 0 .counters rfl h),
    fun hfits => congrArg Host.Outcome.next ((taken 1 .roster rfl hfits).trans ?roster),
    fun h => congrArg Host.Outcome.next (full 1 .roster rfl h),
    fun hfits => congrArg Host.Outcome.next ((taken 2 .ring rfl hfits).trans ?ring),
    fun h => congrArg Host.Outcome.next (full 2 .ring rfl h),
    fun hfits => congrArg Host.Outcome.next ((taken 3 .queues rfl hfits).trans ?queues),
    fun h => congrArg Host.Outcome.next (full 3 .queues rfl h)⟩
  case counters =>
    rw [State.enterReport, s.at_reportContents o .counters (by decide)]
    rfl
  case roster =>
    rw [State.enterReport, s.at_reportContents o .roster (by decide)]
    rfl
  case ring =>
    rw [State.enterReport, s.at_reportContents o .ring (by decide)]
    rfl
  case queues =>
    rw [State.enterReport, s.at_reportContents_queues o]
    rfl

end Sys2Proof.Machine
end

section
/-! PROOF. What a step is (O1), RESET (O2, O3), and the one shape that every command's meaning has: while RESET is not asserted
it acts on the state of its moment. -/

namespace Sys2Proof.Machine

/-! ### The queue of commands -/

theorem step_cons (s : State) (c : Instr) (rest : List Instr) :
    step { s with pending := c :: rest } = exec c { s with pending := rest } := rfl

theorem step_empty (s : State) (h : s.pending = []) : step s = .next s := by
  unfold step; rw [h]

theorem step_front (s : State) (c : Instr) (rest : List Instr) (h : s.pending = c :: rest) :
    step s = exec c { s with pending := rest } := by
  unfold step; rw [h]

/-- Settles O1. -/
theorem stepRunsFrontCommand : Obligations.StepRunsFrontCommand := ⟨step_cons, step_empty⟩

/-! ### What each command does at its moment -/

/-- What a command does to the state of its moment while RESET is not asserted. -/
def actOf : Instr → State → State
  | .resetAsserted _ => State.assertReset
  | .resetReleased _ => fun s => { s with resetPin := false }
  | .linkUp _ => State.symbolArrives
  | .linkLoss _ truncationFirst => (·.expiry (·.receiver.lossTimer) (·.linkLost truncationFirst))
  | .fill _ => State.fillReported
  | .badFrameArrives _ r => (·.receive r.silence (·.badFrame (.raw r)))
  | .headArrives _ b => (·.receive (some 0) (·.byMode (.head b) (·.activeHead b)))
  | .dataArrives _ b => (·.receive (some 0) (·.byMode (.data b) (·.activeData b)))
  | .tailArrives _ b => (·.receive (some 0) (·.byMode (.tail b) (·.activeTail b)))
  | .claimArrives _ b => (·.receive (some 0) (·.censusFrame (.claim b) (·.censusClaim b) (·.censusClaim b)))
  | .numberArrives _ b => (·.receive (some 0) (·.censusFrame (.number b) (·.censusNumber b) id))
  | .ringUpArrives _ b => (·.receive (some 0) (·.censusFrame (.ringUp b) (·.censusRingUp b) id))
  | .announceArrives _ b => (·.receive (some 0) (·.byMode (.announce b) (·.activeAnnounce b)))
  | .triggerArrives _ b => (·.receive (some 0) (·.byMode (.trigger b) (·.activeTrigger b)))
  | .voidArrives _ b => (·.receive (some 0) (·.byMode (.void b) (·.activeVoid b)))
  | .departArrives _ b => (·.receive (some 0) (·.byMode (.depart b) (·.activeDepart b)))
  | .ownClaimSent _ => (·.sendCensusIf Frame.isClaim)
  | .ownNumberSent _ => (·.sendCensusIf Frame.isNumber)
  | .ownRingUpSent _ => (·.sendCensusIf Frame.isRingUp)
  | .ownAnnounceSent _ => (·.sendIfNext .announce)
  | .ownDepartSent _ => (·.sendIfNext .depart)
  | .attemptBegins _ => (·.sendIfNext .record)
  | .ownRecordFrameSent _ => (·.sendIfNext .recordFrame)
  | .ownTriggerSent _ => (·.sendIfNext .trigger)
  | .bypassBufferFrameSent _ => (·.sendIfNext .buffered)
  | .arrivingFrameForwarded _ => (·.sendIfNext .arriving)
  | .censusTimerExpires _ => (·.expiry (·.member.censusTimer) State.censusTimedOut)
  | .isolationIntervalExpires _ => (·.expiry (·.member.isolationTimer) (·.censusEntry none))
  | .departLimitTimerExpires _ => (·.expiry (·.member.departTimer) State.leaveRing)
  | .returnTimerExpires _ => (·.expiry (·.send.returnTimer) State.attemptLost)
  | .retryGapTimerExpires _ => (·.expiry (·.send.gapTimer) (fun s => { s with send := { s.send with gapTimer := none } }))
  | .triggerReturnTimerExpires _ => (·.expiry (·.trigger.returnTimer) (·.finishTrigger .lost))
  | .fireDue _ entry => (·.fireEntry entry)
  | .trigPulseTimerExpires _ => (·.expiry (·.trigger.pulseTimer)
      (fun s => { s with trigger := { s.trigger with pulseTimer := none, pin := false } }))
  | .busTimeout _ => (·.expiry (·.bus.timeout) State.busTimedOut)
  | .busWordAnswered _ answer => (·.busAnswer answer)
  | .configure _ address => (·.writeRecord (.configure address))
  | .join _ => (·.writeRecord .join)
  | .leave _ => (·.writeRecord .leave)
  | .send _ stream length address tag => (·.writeRecord (.send stream length address tag))
  | .cancel _ tag => (·.writeRecord (.cancel tag))
  | .trigger _ group => (·.writeRecord (.trigger group))
  | .release _ ring n => (·.writeRecord (.release ring n))
  | .resume _ => (·.writeRecord (.resume false))
  | .resumeWithSkip _ => (·.writeRecord (.resume true))
  | .queryCounters _ => (·.writeRecord (.query 0))
  | .queryRoster _ => (·.writeRecord (.query 1))
  | .queryRing _ => (·.writeRecord (.query 2))
  | .queryQueues _ => (·.writeRecord (.query 3))
  | .querySubjectOutOfRange _ subject => (·.writeRecord (.query subject))
  | .unknownCommand _ word => (·.writeCommand word)
  | .commandWordCollected _ word => (·.windowWrite 0 word)
  | .commandClear _ value => (·.windowWrite 2 value)
  | .interruptEnableWrite _ value => (·.windowWrite 14 value)
  | .ignoredWrite _ address value => (·.windowWrite address value)
  | .eventRead _ => (·.windowRead 6)
  | .stationStatusFirstRead _ => (·.windowRead 10)
  | .fillSymbolArrives _ => State.symbolArrives

/-- What a command answers with the state it leaves: an arriving frame must find room in the bypass buffer. -/
def answerOf (c : Instr) (s : State) : Host.Outcome State Fault Refusal := if c.isArrival then withinBypass s else .next s

/-- While RESET is not asserted a command acts on the state of its moment. -/
theorem exec_released (c : Instr) (s : State) (h : s.resetPin = false) :
    exec c s = answerOf c (actOf c (s.at c.occasion)) := by
  cases c
  case resetAsserted | resetReleased | eventRead | stationStatusFirstRead => rfl
  case badFrameArrives | headArrives | dataArrives | tailArrives | claimArrives | numberArrives | ringUpArrives
      | announceArrives | triggerArrives | voidArrives | departArrives =>
    exact congrArg withinBypass (s.live_released _ _ h)
  all_goals exact congrArg Host.Outcome.next (s.live_released _ _ h)

/-! ### RESET (R1) -/

/-- A command that is neither a change of the RESET pin nor one of the two reads. -/
def actsUnlessReset : Instr → Bool
  | .resetAsserted _ | .resetReleased _ | .eventRead _ | .stationStatusFirstRead _ => false
  | _ => true

/-- While RESET is asserted such a command leaves the state of its moment. -/
theorem exec_asserted (c : Instr) (s : State) (h : s.resetPin = true) (hc : actsUnlessReset c = true) :
    exec c s = answerOf c (s.at c.occasion) := by
  cases c
  case resetAsserted | resetReleased | eventRead | stationStatusFirstRead => cases hc
  case badFrameArrives | headArrives | dataArrives | tailArrives | claimArrives | numberArrives | ringUpArrives
      | announceArrives | triggerArrives | voidArrives | departArrives =>
    exact congrArg withinBypass (s.live_asserted _ _ h)
  all_goals exact congrArg Host.Outcome.next (s.live_asserted _ _ h)

theorem answerOf_next (c : Instr) (s : State) (h : s.path.bypass.length ≤ 72) : answerOf c s = .next s := by
  unfold answerOf
  split
  · exact withinBypass_next h
  · rfl

/-- A read of the window returns zero while RESET is asserted, and takes nothing. -/
theorem State.windowRead_asserted (s : State) (a : BitVec 5) (h : s.resetPin = true) :
    s.windowRead a = { s with host := { s.host with readData := 0 } } := by
  simp [State.windowRead, s.windowValue_asserted a h, h]

/-- Settles O3. -/
theorem nothingActsUnderReset : Obligations.NothingActsUnderReset := by
  intro s c h hbypass
  have acts : actsUnlessReset c = true →
      exec c s = .next { s with now := max s.now c.occasion.time, order := c.occasion.order } := by
    intro hc
    rw [exec_asserted c s h hc, s.at_asserted _ h]
    exact answerOf_next c _ hbypass
  cases c
  case resetAsserted | resetReleased => trivial
  case eventRead o => rw [exec_eventRead, s.at_asserted o h, State.windowRead_asserted _ _ (by exact h)]
  case stationStatusFirstRead o =>
    rw [exec_stationStatusFirstRead, s.at_asserted o h, State.windowRead_asserted _ _ (by exact h)]
  all_goals exact acts rfl

theorem exec_resetAsserted (s : State) (o : Occasion) : exec (.resetAsserted o) s = .next (s.at o).assertReset := rfl

theorem exec_resetReleased (s : State) (o : Occasion) :
    exec (.resetReleased o) s = .next { s.at o with resetPin := false } := rfl

/-- Settles O2. -/
theorem resetGivesResetValues : Obligations.ResetGivesResetValues := by
  refine ⟨fun s o o' => ⟨(s.at o).outside.sentBy (max s.now o.time), rfl, ?_, exec_resetReleased s o', ?_⟩, ?_⟩
  · rw [exec_resetAsserted]
    unfold State.assertReset
    simp
  · intro t ht
    rw [exec_resetAsserted] at ht
    cases ht
    rw [exec_resetReleased, State.at_asserted _ _ rfl]
    unfold State.assertReset
    simp
    rfl
  · refine ⟨rfl, rfl, rfl, rfl, rfl, rfl, rfl, rfl, rfl, rfl, rfl, rfl, ?_, rfl, rfl, rfl, rfl, rfl, rfl, rfl, rfl, rfl, rfl, rfl⟩
    intro i
    simp [State.reset, Delivery.atReset, DeliveryRing.atReset]

/-- Nothing is cut short of frames that have gone out whole. -/
theorem Outside.sentBy_gone (u : Outside) (t : Time) (h : ∀ f ∈ u.ringOut, f.start + 80 ≤ t) : u.sentBy t = u := by
  have hall : u.ringOut.filter (fun f => decide (f.start + frameTime ≤ t)) = u.ringOut :=
    List.filter_eq_self.mpr fun f hf => decide_eq_true (h f hf)
  unfold Outside.sentBy
  rw [hall]

/-- A state whose blocks stand at their reset values, whatever has left the controller before, has the invariant. -/
theorem State.inv_of_reset (s : State)
    (hblocks : s = { State.reset with
      resetPin := s.resetPin, outside := s.outside, now := s.now, order := s.order, pending := s.pending })
    (happart : s.outside.ringOut.Pairwise (fun f g => f.start + 80 ≤ g.start))
    (hgone : ∀ f ∈ s.outside.ringOut, f.start + 80 ≤ s.now) (hwritten : s.WrittenSound) : s.Inv := by
  obtain ⟨resetPin, outside, now, order, pending, rfl⟩ : ∃ resetPin outside now order pending, s = { State.reset with
      resetPin := resetPin, outside := outside, now := now, order := order, pending := pending } := ⟨_, _, _, _, _, hblocks⟩
  have hreset : State.assertReset { State.reset with
      resetPin := resetPin, outside := outside, now := now, order := order, pending := pending } = { State.reset with
      resetPin := true, outside := outside, now := now, order := order, pending := pending } := by
    unfold State.assertReset
    dsimp only
    rw [Outside.sentBy_gone outside now hgone]
  exact
    { events   := (by decide : State.reset.events.Sound)
      member   := (by decide : State.reset.MemberSound)
      roster   := ⟨fun i j _ hi => absurd (by simp [State.reset, Membership.atReset]) hi, nofun⟩
      send     := (by decide : State.reset.SendSound)
      store    := ⟨⟨Nat.zero_le _, nofun, nofun, nofun⟩,
        fun i => by simp [State.reset, Delivery.atReset, DeliveryRing.atReset], rfl, rfl, ⟨Nat.zero_le _, List.nodup_nil, nofun⟩, fun _ => ⟨rfl, rfl⟩⟩
      receiver := ⟨iff_of_false nofun nofun, nofun, nofun, nofun⟩
      path     := ⟨(by decide : State.reset.PathSound), ⟨fun k => absurd rfl k, nofun, Nat.zero_le _, Nat.zero_le _⟩, happart,
        fun f hf => Nat.le_trans (hgone f hf) (State.now_le_boundary _), nofun⟩
      trigger  := (by decide : State.reset.TriggerSound)
      bus      := (by decide : State.reset.BusSound)
      host     := (by decide : State.reset.host.Sound = true)
      reset    := fun k => by rw [hreset]; cases k; rfl
      written  := hwritten }

/-- Settles O54. -/
theorem invariantHoldsAtReset : Obligations.InvariantHoldsAtReset :=
  State.inv_of_reset State.reset rfl List.Pairwise.nil nofun List.Pairwise.nil

end Sys2Proof.Machine
end

section
/-! PROOF. The invariant of a station that is not under RESET, cut into the parts that one block's work can change, and the
bus master's part of it (R138 to R142, R145): a request is granted at once when the bus is free, and a burst stays within its
request and its 32-byte block. -/

namespace Sys2Proof.Machine

/-! ### The bus master's part (R138 to R146) -/

/-- A client's standing request, in the direction of its work, has words left. -/
def Request.Open (write : Bool) (r : Request) : Prop := r.done < r.words ∧ r.write = write

/-- The current burst is part of its client's standing request and stays within a 32-byte block (R138, R141). -/
def BusMaster.Carries (b : BusMaster) (u : Burst) : Prop :=
  u.answered < u.words ∧ u.words ≤ 8 ∧ u.words ≤ wordsToBoundary u.first ∧
    ∃ r ∈ b.request u.client, u.write = r.write ∧ u.first = r.nextAddress ∧ r.done + u.words ≤ r.words

/-- The bus master with each client's request standing exactly while the client is in the work that makes it. With `granted`
no request waits while the bus is free; without it the bus may just have become free, and the arbiter has still to grant. -/
structure BusMaster.Serves (granted : Prop) (b : BusMaster) (loading fetching delivering : Prop) : Prop where
  timed      : b.timeout.isSome ↔ b.burst.isSome
  lastGrant  : b.lastGrant ≠ some .loader
  lengths    : b.burstLength = 1 ∨ b.burstLength = 2 ∨ b.burstLength = 4 ∨ b.burstLength = 8
  readsLoad  : ∀ r ∈ b.loader, r.Open false
  readsFetch : ∀ r ∈ b.fetch, r.Open false
  writes     : ∀ r ∈ b.delivery, r.Open true
  free       : granted → b.burst = none → b.loader = none ∧ b.fetch = none ∧ b.delivery = none
  carries    : ∀ u ∈ b.burst, b.Carries u
  loader     : b.loader.isSome ↔ loading
  fetch      : b.fetch.isSome ↔ fetching
  delivery   : b.delivery.isSome ↔ delivering

/-- The bus master's part of the invariant; `granted` as in `BusMaster.Serves`. -/
def State.BusServes (granted : Prop) (s : State) : Prop :=
  s.bus.Serves granted (s.host.loading = true) (s.send.head = some .fetching) (s.delivery.engine.code = 1)

theorem State.busServes_iff (s : State) : s.BusServes True ↔ s.BusSound := by
  constructor
  · intro h
    exact ⟨⟨h.timed, h.lastGrant, h.lengths, h.readsLoad, h.readsFetch, h.writes, h.free trivial, h.carries⟩,
      h.loader, h.fetch, h.delivery⟩
  · rintro ⟨⟨timed, lastGrant, lengths, readsLoad, readsFetch, writes, free, carries⟩, loader, fetch, delivery⟩
    exact ⟨timed, lastGrant, lengths, readsLoad, readsFetch, writes, fun _ => free, carries, loader, fetch, delivery⟩

section Serves
variable {b : BusMaster} {granted loading fetching delivering : Prop}

/-- Whether every request has been granted may be left open. -/
theorem BusMaster.Serves.loosen (h : b.Serves True loading fetching delivering) :
    b.Serves granted loading fetching delivering := { h with free := fun _ => h.free trivial }

theorem BusMaster.Serves.of_work {loading' fetching' delivering' : Prop} (h : b.Serves granted loading fetching delivering)
    (hl : loading ↔ loading') (hf : fetching ↔ fetching') (hd : delivering ↔ delivering') :
    b.Serves granted loading' fetching' delivering' :=
  { h with loader := h.loader.trans hl, fetch := h.fetch.trans hf, delivery := h.delivery.trans hd }

theorem burstWords_le (n : Nat) (r : Request) :
    burstWords n r ≤ wordsToBoundary r.nextAddress ∧ r.done + burstWords n r ≤ max r.done r.words ∧ burstWords n r ≤ 8 := by
  have h8 : wordsToBoundary r.nextAddress ≤ 8 := Nat.sub_le _ _
  unfold burstWords
  omega

/-- The arbiter issues a burst of a standing request. -/
theorem BusMaster.Serves.issue (h : b.Serves granted loading fetching delivering) (now : Time) (c : Client) (r : Request)
    (hr : b.request c = some r) : (b.issue now c r).Serves True loading fetching delivering := by
  have hopen : r.done < r.words := by
    cases c
    · exact (h.readsLoad r hr).1
    · exact (h.readsFetch r hr).1
    · exact (h.writes r hr).1
  refine { h with timed := ⟨fun _ => rfl, fun _ => rfl⟩, lastGrant := ?_, free := fun _ hn => (nomatch hn), carries := ?_ }
  · have := h.lastGrant
    unfold BusMaster.issue
    split <;> simp_all
  · intro u hu
    obtain rfl : _ = u := Option.some.inj hu
    obtain ⟨hbound, hwords, h8⟩ := burstWords_le (b.lengthFor c) r
    have hone : 1 ≤ burstWords (b.lengthFor c) r :=
      one_le_burstWords _ r hopen (b.one_le_lengthFor c (by have := h.lengths; omega))
    exact ⟨hone, h8, hbound, r, by cases c <;> exact hr, rfl, rfl, by dsimp only; omega⟩

/-- After the arbiter's turn no request waits while the bus is free. -/
theorem BusMaster.Serves.grant (h : b.Serves granted loading fetching delivering) (now : Time) :
    (b.grant now).Serves True loading fetching delivering := by
  unfold BusMaster.grant
  split
  next u _ _ _ hb => exact { h with free := fun _ hn => by rw [hb] at hn; cases hn }
  · exact h.issue now .loader _ (by assumption)
  · exact h.issue now .fetch _ (by assumption)
  · exact h.issue now .delivery _ (by assumption)
  · split
    · exact h.issue now .fetch _ (by assumption)
    · exact h.issue now .delivery _ (by assumption)
  next hl hf hd => exact { h with free := fun _ _ => ⟨hl, hf, hd⟩ }

/-- A burst is carried on when another client's request changes. -/
theorem BusMaster.Carries.setRequest {u : Burst} (h : b.Carries u) (c : Client) (r : Option Request) (hc : u.client ≠ c) :
    (b.setRequest c r).Carries u := by
  obtain ⟨answered, short, block, q, hq, k⟩ := h
  exact ⟨answered, short, block, q, by rw [BusMaster.setRequest_request_ne _ _ _ _ hc]; exact hq, k⟩

/-- No burst is current of a client without a request. -/
theorem BusMaster.Serves.burst_client (h : b.Serves granted loading fetching delivering) {c : Client}
    (hc : b.request c = none) {u : Burst} (hu : b.burst = some u) : u.client ≠ c := by
  rintro rfl
  obtain ⟨_, _, _, r, hr, _⟩ := h.carries u hu
  rw [hc] at hr; cases hr

end Serves

/-- A client without a standing request makes one (R139), and it is granted when the bus is free (R142). -/
theorem BusMaster.Serves.requestFetch {b : BusMaster} {granted loading delivering : Prop}
    (h : b.Serves granted loading False delivering) (now : Time) (start : Word) (words : Nat) (hw : 0 < words) :
    ((b.setRequest .fetch (some { write := false, start := start, words := words, done := 0 })).grant now).Serves True
      loading True delivering := by
  have hnone : b.fetch = none := by simpa using h.fetch
  refine BusMaster.Serves.grant (b := b.setRequest .fetch (some ⟨false, start, words, 0⟩)) (granted := False) { h with
    readsFetch := ?_, free := False.elim, carries := ?_, fetch := ⟨fun _ => trivial, fun _ => rfl⟩ } now
  · rintro r ⟨⟩; exact ⟨hw, rfl⟩
  · intro u hu
    exact (h.carries u hu).setRequest _ _ (h.burst_client (c := .fetch) hnone hu)

theorem BusMaster.Serves.requestDelivery {b : BusMaster} {granted loading fetching : Prop}
    (h : b.Serves granted loading fetching False) (now : Time) (start : Word) (words : Nat) (hw : 0 < words) :
    ((b.setRequest .delivery (some { write := true, start := start, words := words, done := 0 })).grant now).Serves True
      loading fetching True := by
  have hnone : b.delivery = none := by simpa using h.delivery
  refine BusMaster.Serves.grant (b := b.setRequest .delivery (some ⟨true, start, words, 0⟩)) (granted := False) { h with
    writes := ?_, free := False.elim, carries := ?_, delivery := ⟨fun _ => trivial, fun _ => rfl⟩ } now
  · rintro r ⟨⟩; exact ⟨hw, rfl⟩
  · intro u hu
    exact (h.carries u hu).setRequest _ _ (h.burst_client (c := .delivery) hnone hu)

theorem BusMaster.Serves.requestLoader {b : BusMaster} {granted fetching delivering : Prop}
    (h : b.Serves granted False fetching delivering) (now : Time) (start : Word) (words : Nat) (hw : 0 < words) :
    ((b.setRequest .loader (some { write := false, start := start, words := words, done := 0 })).grant now).Serves True
      True fetching delivering := by
  have hnone : b.loader = none := by simpa using h.loader
  refine BusMaster.Serves.grant (b := b.setRequest .loader (some ⟨false, start, words, 0⟩)) (granted := False) { h with
    readsLoad := ?_, free := False.elim, carries := ?_, loader := ⟨fun _ => trivial, fun _ => rfl⟩ } now
  · rintro r ⟨⟩; exact ⟨hw, rfl⟩
  · intro u hu
    exact (h.carries u hu).setRequest _ _ (h.burst_client (c := .loader) hnone hu)

end Sys2Proof.Machine
end

section
/-! PROOF. The ring output's part of the invariant (R1, R18 to R22): what keeps its order and its lag, and the sending of a
frame; and the whole invariant of a station that is not under RESET, cut into one part for each block. -/

namespace Sys2Proof.Machine

theorem Path.backlog_eq_zero {p : Path} (hb : p.bypass = []) (hw : p.waiting = none) (hi : p.insertion = none) :
    p.backlog = 0 := by
  simp [Path.backlog, hb, hw, hi]

/-! ### The output's order and its lag (R1, R18 to R20) -/

/-- `t` has no more left to send than `s`: the same frames have gone out, at the same moment. -/
structure State.Eases (s t : State) : Prop where
  now       : t.now = s.now
  nextFrame : t.receiver.nextFrame = s.receiver.nextFrame
  output    : t.path.output = s.path.output
  waiting   : t.path.waiting = s.path.waiting
  ringOut   : t.outside.ringOut = s.outside.ringOut
  backlog   : t.path.backlog ≤ s.path.backlog

theorem State.Eases.refl (s : State) : s.Eases s := ⟨rfl, rfl, rfl, rfl, rfl, Nat.le_refl _⟩

theorem State.Eases.trans {s t u : State} (h : s.Eases t) (k : t.Eases u) : s.Eases u :=
  ⟨k.now.trans h.now, k.nextFrame.trans h.nextFrame, k.output.trans h.output, k.waiting.trans h.waiting,
   k.ringOut.trans h.ringOut, Nat.le_trans k.backlog h.backlog⟩

/-- The state in which an arriving frame has just been judged: no frame waits, the next one is a frame time away, and the
output is at most one frame and one own record behind. -/
structure State.Fresh (s : State) : Prop where
  waiting   : s.path.waiting = none
  nextFrame : s.receiver.nextFrame = s.now + 80
  free      : s.path.freeAt ≤ s.now + 80
  lag       : s.path.freeAt + 80 * s.path.backlog ≤ s.now + 5280

/-- The output of a fresh state that is not idle while frames stand ready. -/
theorem State.Fresh.backlogSound {s : State} (h : s.Fresh) (busy : s.path.backlog ≠ 0 → s.now ≤ s.path.freeAt) :
    s.BacklogSound := by
  obtain ⟨waiting, nextFrame, free, lag⟩ := h
  unfold State.BacklogSound
  rw [waiting, nextFrame]
  exact ⟨busy, nofun, by lia, by lia⟩

section Eases
variable {s t : State}

theorem State.Eases.freeAt (k : s.Eases t) : t.path.freeAt = s.path.freeAt := by simp only [Path.freeAt, k.output]

theorem State.Eases.backlogSound (k : s.Eases t) (h : s.BacklogSound) : t.BacklogSound := by
  obtain ⟨busy, waits, lag, total⟩ := h
  have hb := k.backlog
  refine ⟨fun hne => ?_, fun hw => ?_, ?_, ?_⟩
  · rw [k.now, k.freeAt]; exact busy (by lia)
  · rw [k.freeAt, k.nextFrame]; exact waits (by rw [← k.waiting]; exact hw)
  · rw [k.freeAt, k.now, k.nextFrame]; exact lag
  · rw [k.freeAt, k.now, k.nextFrame]; lia

theorem State.Eases.fresh (k : s.Eases t) (h : s.Fresh) : t.Fresh := by
  have hb := k.backlog
  have hl := h.lag
  exact ⟨k.waiting.trans h.waiting, by rw [k.nextFrame, k.now]; exact h.nextFrame,
    by rw [k.freeAt, k.now]; exact h.free, by rw [k.freeAt, k.now]; lia⟩

end Eases

/-- A frame started at the next boundary keeps the frames on the output apart. -/
theorem State.SentSound.started {s t : State} (h : s.SentSound) (f : Frame) (own : Bool)
    (hring : t.outside.ringOut = s.outside.ringOut ++ [{ frame := f, start := s.boundary }])
    (houtput : t.path.output = some { frame := f, own := own, ends := s.boundary + 80 }) (hnow : t.now ≤ s.boundary + 80) :
    t.SentSound := by
  obtain ⟨apart, before, -⟩ := h
  have hb : t.boundary = s.boundary + 80 := by
    simp only [State.boundary, Path.freeAt, houtput]; exact Nat.max_eq_right hnow
  unfold State.SentSound
  rw [hb, hring, houtput]
  refine ⟨?_, ?_, ?_⟩
  · refine List.pairwise_append.mpr ⟨apart, List.pairwise_singleton _ _, fun a ha b hb => ?_⟩
    rw [List.mem_singleton.mp hb]; exact before a ha
  · intro a ha
    rcases List.mem_append.mp ha with ha | ha
    · have := before a ha; lia
    · rw [List.mem_singleton.mp ha]
  · rintro g ⟨⟩
    exact ⟨Nat.le_add_left _ _, by simp⟩

theorem State.SentSound.sent {s : State} (h : s.SentSound) (f : Frame) (own : Bool) : (s.sent f own).SentSound :=
  h.started f own rfl rfl (Nat.le_add_right s.boundary 80)

/-- A frame has gone out at the next boundary: the output stays within its lag when there is one frame fewer left to send, or
no more than an own record. -/
theorem State.BacklogSound.sent {s t : State} (h : s.BacklogSound) (hnow : t.now = s.boundary)
    (hfree : t.path.freeAt = s.boundary + frameTime) (hnext : t.receiver.nextFrame = s.receiver.nextFrame)
    (hwaiting : t.path.waiting = none) (hb : t.path.backlog + 1 ≤ s.path.backlog ∨ t.path.backlog ≤ 65) :
    t.BacklogSound := by
  obtain ⟨busy, -, -, total⟩ := h
  simp only [frameTime] at hfree
  have hs : s.boundary = max s.now s.path.freeAt := rfl
  unfold State.BacklogSound
  rw [hnow, hfree, hnext, hwaiting]
  refine ⟨fun _ => by lia, fun hw => by simp at hw, by lia, ?_⟩
  rcases hb with hb | hb
  · have := busy (by lia)
    lia
  · lia

/-- The clock moves on to a moment before which nothing is left to send. -/
theorem State.SentSound.wait {s : State} (h : s.SentSound) (t : Time) :
    State.SentSound { s with now := max s.now t } := by
  obtain ⟨apart, before, last⟩ := h
  refine ⟨apart, fun f hf => Nat.le_trans (before f hf) ?_, last⟩
  show max s.now s.path.freeAt ≤ max (max s.now t) s.path.freeAt
  lia

/-! ### The parts of the invariant -/

/-- The send unit's part of the invariant, at a station in state `st` with this own record in progress (R51 to R74). -/
structure SendUnit.SoundIn (st : StationState) (insertion : Option Insertion) (u : SendUnit) : Prop where
  head       : u.HeadSound
  attempts   : u.AttemptsSound
  queue      : u.QueueSound
  attempting : u.head = some .inFlight ∨ u.head = some .retryWait → st = .run
  config     : st = .config → u.queue = []
  leaves     : st = .pass ∨ st = .leaving → u.Leaves
  incoming   : u.incoming ≠ [] → insertion.isSome ∧ (u.head = some .fetching ∨ u.head = some .staged)

/-- The trigger unit's part of the invariant, at a station in state `st` (R121, R123, R132, R134). -/
structure TriggerUnit.SoundIn (st : StationState) (u : TriggerUnit) : Prop where
  schedule    : u.schedule.length ≤ 4
  pin         : u.pin = true ↔ u.pulseTimer.isSome
  group       : u.group.isSome ↔ u.own ≠ .none
  returnTimer : u.returnTimer.isSome ↔ u.own ≠ .none
  own         : u.own ≠ .none → st = .run

/-- The invariant of a station that is not under RESET, less the event queue and the host port, with the send unit's and the
trigger unit's parts read for a station in state `st`: where the station leaves the ring, they act on it after the
membership unit. -/
structure State.SoundIn (st : StationState) (s : State) : Prop where
  released : s.resetPin = false
  member   : s.MemberSound
  roster   : s.RosterSound
  send     : s.send.SoundIn st s.path.insertion
  store    : s.StoreSound
  receiver : s.ReceiverSound
  path     : s.PathSound
  backlog  : s.BacklogSound
  sent     : s.SentSound
  trigger  : s.trigger.SoundIn st
  bus      : s.BusServes True
  written  : s.WrittenSound

/-- The same, read for the state the station is in. -/
abbrev State.Sound (s : State) : Prop := s.SoundIn s.member.station

theorem State.Inv.sound {s : State} (h : s.Inv) (hreset : s.resetPin = false) : s.Sound := by
  obtain ⟨head, attempts, queue, attempting, config, leaves, incoming⟩ := h.send
  obtain ⟨schedule, pin, group, returnTimer, own⟩ := h.trigger
  obtain ⟨path, backlog, sent⟩ := h.path
  exact ⟨hreset, h.member, h.roster, ⟨head, attempts, queue, attempting, config, leaves, incoming⟩, h.store, h.receiver,
    path, backlog, sent, ⟨schedule, pin, group, returnTimer, own⟩, s.busServes_iff.mpr h.bus, h.written⟩

end Sys2Proof.Machine
end

section
/-! PROOF. The passing of time keeps the invariant: the sending of each item, and the clock's moving on (R19 to R22). -/

namespace Sys2Proof.Machine

/-! ### What the sending of each item changes -/

section Equations
variable (s : State)

theorem State.sendItem_arriving (f : Frame) (h : s.path.waiting = some f) : s.sendItem .arriving =
    { s.sent f false with path := { (s.sent f false).path with waiting := none } } := by
  simp only [State.sendItem, State.sendWaiting, h]; rfl

theorem State.sendItem_buffered (f : Frame) (rest : List Frame) (h : s.path.bypass = f :: rest) : s.sendItem .buffered =
    { s.sent f false with path := { (s.sent f false).path with bypass := rest } } := by
  simp only [State.sendItem, State.sendBypass, h]; rfl

theorem State.sendItem_census (f : Frame) (h : s.path.ownCensus = some f) : s.sendItem .census =
    { s.sent f true with
      path := { (s.sent f true).path with ownCensus := none }, member := s.member.censusFrameBegun f s.boundary } := by
  simp only [State.sendItem, State.sendCensusFrame, h]; rfl

theorem State.sendItem_trigger : s.sendItem .trigger =
    { s.sent (.trigger s.ownTriggerBody) true with trigger := { s.trigger with own := .sent } } := rfl

theorem State.sendItem_announce : s.sendItem .announce =
    { s.sent (.announce s.announceBody) true with member := { s.member with announce := .sent } } := rfl

theorem State.sendItem_depart : s.sendItem .depart =
    { s.sent (.depart s.departBody) true with member := { s.member with depart := .sent } } := rfl

theorem State.sendItem_data (i : Insertion) (h : s.path.insertion = some i) (hnext : i.next < i.length.toNat) :
    s.sendItem .recordFrame = { s.sent i.frame true with
      path := { (s.sent i.frame true).path with insertion := some { i with next := i.next + 1 } } } := by
  simp only [State.sendItem, State.sendRecordFrame, h, hnext, if_true]; rfl

theorem State.sendItem_tail (i : Insertion) (h : s.path.insertion = some i) (hnext : i.length.toNat ≤ i.next) :
    s.sendItem .recordFrame = { s.sent i.frame true with
      path := { (s.sent i.frame true).path with insertion := none }
      send := { s.send with staging := s.send.staging ++ s.send.incoming, incoming := [] } } := by
  simp only [State.sendItem, State.sendRecordFrame, h, Nat.not_lt.mpr hnext, if_false]; rfl

theorem State.sendItem_record (e : SendEntry) (rest : List SendEntry) (h : s.send.queue = e :: rest) :
    s.sendItem .record = { s.sent (.head (s.ownHeadFrame e)) true with
      path := { (s.sent (.head (s.ownHeadFrame e)) true).path with
        insertion := some { source := s.member.number.getD 0, seq := s.send.seq, attempt := s.send.attempt,
                            length := e.length, payload := s.send.staging, next := 0 } }
      send := { s.send with head := some .inFlight, attempts := s.send.attempts + 1, gapTimer := none,
                            returnTimer := some (s.boundary + returnSpan) } } := by
  show s.beginAttempt = _
  unfold State.beginAttempt
  split
  next e' rest' h' => rw [h] at h'; cases h'; rfl
  next h' => rw [h] at h'; cases h'

end Equations

/-! ### What the send unit's part says of a HEAD that is offered -/

theorem State.offered_head {s : State} (h : s.offered = true) : s.member.station = .run ∧
    (s.send.head = some .staged ∨ s.send.head = some .retryWait ∧ s.send.gapTimer = none) := by
  simpa [State.offered] using h

/-- The halfwords that wait for the staging buffer are placed in it when no own record is in progress any more. -/
theorem SendUnit.SoundIn.staged {st : StationState} {insertion : Option Insertion} {u : SendUnit}
    (h : u.SoundIn st insertion) (insertion' : Option Insertion) :
    SendUnit.SoundIn st insertion' { u with staging := u.staging ++ u.incoming, incoming := [] } := by
  obtain ⟨length, buffer, entries⟩ := h.queue
  exact { h with queue := ⟨length, by simpa using buffer, entries⟩, incoming := fun k => absurd rfl k }

/-- An own record that stays in progress keeps what waits for the staging buffer. -/
theorem SendUnit.SoundIn.of_insertion {st : StationState} {insertion insertion' : Option Insertion} {u : SendUnit}
    (h : u.SoundIn st insertion) (k : insertion.isSome → insertion'.isSome) : u.SoundIn st insertion' :=
  { h with incoming := fun hi => ⟨k (h.incoming hi).1, (h.incoming hi).2⟩ }

/-- The send unit when the first bit of an offered HEAD is sent (R58). -/
theorem SendUnit.SoundIn.begun {st : StationState} {insertion : Option Insertion} {u : SendUnit}
    (h : u.SoundIn st insertion) (hrun : st = .run)
    (hhead : u.head = some .staged ∨ u.head = some .retryWait) (hfree : insertion = none) (i : Insertion) (t : Time) :
    SendUnit.SoundIn st (some i)
      { u with head := some .inFlight, attempts := u.attempts + 1, gapTimer := none, returnTimer := some t } := by
  subst hrun
  obtain ⟨none_iff, -, -, cancel, disposition, context⟩ := h.head
  obtain ⟨limit, start, -, retry⟩ := h.attempts
  have hin : u.incoming = [] := by
    by_contra hne
    have := (h.incoming hne).1
    simp [hfree] at this
  have hq : u.queue ≠ [] := fun k => by rcases hhead with e | e <;> simp [none_iff.mpr k] at e
  refine
    { head := ⟨by simpa using hq, by simp, nofun, ?_, ?_, fun _ => rfl⟩
      attempts := ⟨limit, by simp, fun _ => ?_, by simp⟩
      queue := h.queue, attempting := fun _ => rfl, config := nofun, leaves := by simp
      incoming := fun k => absurd hin k }
  · intro hc; have := cancel hc; rcases hhead with e | e <;> simp [e] at this
  · intro hd; have := disposition hd; rcases hhead with e | e <;> simp [e] at this
  · rcases hhead with e | e
    · have := start (.inr (.inr e)); dsimp only; lia
    · have := retry e; dsimp only; lia

/-! ### The sending of an item -/

theorem State.mode_eq_census {s : State} (h : s.mode = .census) : s.member.station = .census := by
  revert h; unfold State.mode; cases s.member.station <;> simp [StationState.mode]

/-- Off the ring no own record is in progress. -/
theorem State.PathSound.insertion_none {s : State} (h : s.PathSound) (hm : s.mode ≠ .active) : s.path.insertion = none := by
  obtain ⟨-, -, -, record, -⟩ := h
  by_contra hne
  have := record (Option.isSome_iff_ne_none.mpr hne)
  simp [State.onRing, hm] at this

/-- An own record in progress leaves no more than its frames to send, when no frame from upstream waits. -/
theorem State.PathSound.backlog_le {s : State} (h : s.PathSound) (hb : s.path.bypass = []) (hw : s.path.waiting = none) :
    s.path.backlog ≤ 65 := by
  obtain ⟨-, -, -, -, within⟩ := h
  unfold Path.backlog
  cases hi : s.path.insertion with
  | none => simp [hb, hw]
  | some i => have := (within i hi).2; simp [hb, hw]; lia

/-- Nothing but what the first bit of an own census frame is noted for changes, and the frame is ready no more. -/
theorem State.Sound.censusFrameBegun {s : State} (h : s.Sound) (f : Frame) (now : Time) :
    State.Sound
      { s with path := { s.path with ownCensus := none }, member := s.member.censusFrameBegun f now } := by
  obtain ⟨number, timers, counts, ⟨-, announce, depart⟩, config⟩ := h.member
  unfold Membership.censusFrameBegun
  split <;> exact { h with member := ⟨number, timers, counts, ⟨nofun, announce, depart⟩, config⟩ }

section SendItem
variable {s : State} (h : s.Sound) (i : Item) (hi : s.nextItem = some i)
include h hi

/-- One frame fewer is left to send, or no more than an own record; and none from upstream waits. -/
theorem State.Sound.sendItem_backlog : (s.sendItem i).path.waiting = none ∧
    ((s.sendItem i).path.backlog + 1 ≤ s.path.backlog ∨ (s.sendItem i).path.backlog ≤ 65) := by
  obtain ⟨-, k⟩ := s.nextItem_ready i hi
  cases i
  case arriving =>
    obtain ⟨f, hw⟩ := k
    rw [s.sendItem_arriving f hw]
    exact ⟨rfl, .inl (by simp [Path.backlog, State.sent, hw])⟩
  case buffered =>
    obtain ⟨hw, f, rest, hb⟩ := k
    rw [s.sendItem_buffered f rest hb]
    exact ⟨hw, .inl (by simp [Path.backlog, State.sent, hb])⟩
  case census =>
    obtain ⟨hw, hm, f, hc⟩ := k
    rw [s.sendItem_census f hc]
    exact ⟨hw, .inr (h.path.backlog_le (h.path.2.1 (State.mode_eq_census hm)) hw)⟩
  case recordFrame =>
    obtain ⟨hw, -, r, hr⟩ := k
    by_cases hn : r.next < r.length.toNat
    · rw [s.sendItem_data r hr hn]
      exact ⟨hw, .inl (by simp [Path.backlog, State.sent, hr]; lia)⟩
    · rw [s.sendItem_tail r hr (by lia)]
      exact ⟨hw, .inl (by simp [Path.backlog, State.sent, hr])⟩
  case record =>
    obtain ⟨hw, -, hb, -, -, -, e, rest, hq⟩ := k
    rw [s.sendItem_record e rest hq]
    have := (h.send.queue.2.2 e (by simp [hq])).1
    exact ⟨hw, .inr (by simp [Path.backlog, State.sent, hw, hb]; lia)⟩
  case trigger => exact ⟨k.1, .inr (h.path.backlog_le k.2.2.1 k.1)⟩
  case announce => exact ⟨k.1, .inr (h.path.backlog_le k.2.2.1 k.1)⟩
  case depart => exact ⟨k.1, .inr (h.path.backlog_le k.2.2.1 k.1)⟩

/-- The sending of the item that the arbiter chooses keeps the invariant. -/
theorem State.Sound.sendItem : (s.sendItem i).Sound := by
  obtain ⟨hwaiting, hb⟩ := h.sendItem_backlog i hi
  obtain ⟨hnow, hfree⟩ := s.sendItem_output i hi
  have hbacklog := h.backlog.sent hnow hfree (by rw [(s.sendItem_passes i).receiver]) hwaiting hb
  have hreceiver : (s.sendItem i).ReceiverSound := by
    obtain ⟨runs, within, down, past⟩ := h.receiver
    have := s.now_le_boundary
    unfold State.ReceiverSound
    rw [(s.sendItem_passes i).receiver, hnow]
    exact ⟨runs, fun t ht => by have := within t ht; lia, down, fun t ht => by have := past t ht; lia⟩
  obtain ⟨-, k⟩ := s.nextItem_ready i hi
  obtain ⟨short, census, open_, record, within⟩ := h.path
  obtain ⟨number, timers, counts, ⟨frames, announce, depart⟩, config⟩ := h.member
  cases i
  case arriving =>
    obtain ⟨f, hw⟩ := k
    rw [s.sendItem_arriving f hw] at hreceiver hbacklog ⊢
    exact { h with receiver := hreceiver, backlog := hbacklog, sent := h.sent.sent f false }
  case buffered =>
    obtain ⟨hw, f, rest, hq⟩ := k
    rw [s.sendItem_buffered f rest hq] at hreceiver hbacklog ⊢
    rw [hq] at short census
    exact { h with
      receiver := hreceiver, backlog := hbacklog, sent := h.sent.sent f false
      path := ⟨Nat.le_of_succ_le short, fun e => absurd (census e) (by simp), open_, record, within⟩ }
  case census =>
    obtain ⟨hw, hm, f, hc⟩ := k
    rw [s.sendItem_census f hc] at hreceiver hbacklog ⊢
    exact State.Sound.censusFrameBegun (s := s.sent f true)
      { h with receiver := hreceiver, backlog := hbacklog, sent := h.sent.sent f true } f s.boundary
  case recordFrame =>
    obtain ⟨hw, -, r, hr⟩ := k
    obtain ⟨hle, hlen⟩ := within r hr
    by_cases hn : r.next < r.length.toNat
    · rw [s.sendItem_data r hr hn] at hreceiver hbacklog ⊢
      exact { h with
        receiver := hreceiver, backlog := hbacklog, sent := h.sent.sent _ _
        send := h.send.of_insertion fun _ => rfl
        path := ⟨short, census, open_, fun _ => record (by simp [hr]), by rintro _ ⟨⟩; exact ⟨hn, hlen⟩⟩ }
    · rw [s.sendItem_tail r hr (by lia)] at hreceiver hbacklog ⊢
      exact { h with
        receiver := hreceiver, backlog := hbacklog, sent := h.sent.sent _ _
        send := h.send.staged _
        path := ⟨short, census, open_, nofun, nofun⟩ }
  case record =>
    obtain ⟨hw, hm, -, hfree, -, hoff, e, rest, hq⟩ := k
    obtain ⟨hrun, hhead⟩ := State.offered_head hoff
    have hfetch : s.send.head ≠ some .fetching := by rcases hhead with k | k <;> simp [k]
    rw [s.sendItem_record e rest hq] at hreceiver hbacklog ⊢
    exact { h with
      receiver := hreceiver, backlog := hbacklog, sent := h.sent.sent _ _
      send := h.send.begun hrun (hhead.imp_right And.left) hfree _ _
      path := ⟨short, census, open_, fun _ => by show (s.mode == _) = true; simp [hm], by
        rintro _ ⟨⟩; exact ⟨Nat.zero_le _, (h.send.queue.2.2 e (by simp [hq])).1⟩⟩
      bus := BusMaster.Serves.of_work h.bus Iff.rfl (iff_of_false hfetch (show some HeadState.inFlight ≠ some .fetching by simp)) Iff.rfl }
  case trigger =>
    obtain ⟨-, -, -, hown⟩ := k
    obtain ⟨schedule, pin, group, returnTimer, own⟩ := h.trigger
    have hne : s.trigger.own ≠ .none := by rw [hown]; nofun
    exact { h with
      receiver := hreceiver, backlog := hbacklog, sent := h.sent.sent _ _
      trigger := ⟨schedule, pin, group.trans (iff_of_true hne nofun), returnTimer.trans (iff_of_true hne nofun),
        fun _ => own hne⟩ }
  case announce =>
    exact { h with
      receiver := hreceiver, backlog := hbacklog, sent := h.sent.sent _ _
      member := ⟨number, timers, counts, ⟨frames, nofun, depart⟩, config⟩ }
  case depart =>
    exact { h with
      receiver := hreceiver, backlog := hbacklog, sent := h.sent.sent _ _
      member := ⟨number, timers, counts, ⟨frames, announce, nofun⟩, config⟩ }

end SendItem
/-! ### The clock's moving on -/

/-- While frames stand ready the arbiter chooses one. -/
theorem State.Sound.backlog_of_nextItem {s : State} (h : s.Sound) (hi : s.nextItem = none) : s.path.backlog = 0 := by
  obtain ⟨-, census, -, -, -⟩ := h.path
  unfold State.nextItem at hi
  rw [h.released] at hi
  have hw : s.path.waiting = none := by
    by_contra hne
    simp [Option.isSome_iff_ne_none.mpr hne] at hi
  cases hm : s.mode with
  | transparent =>
    have hb : s.path.bypass = [] := by simpa [hw, hm] using hi
    exact Path.backlog_eq_zero hb hw (h.path.insertion_none (by simp [hm]))
  | census => exact Path.backlog_eq_zero (census (State.mode_eq_census hm)) hw (h.path.insertion_none (by simp [hm]))
  | active =>
    have hins : s.path.insertion = none := by
      by_contra hne
      simp [hw, hm, Option.isSome_iff_ne_none.mpr hne] at hi
      split at hi <;> cases hi
    have hb : s.path.bypass = [] := by
      by_contra hne
      simp [hw, hm, hins, hne] at hi
    exact Path.backlog_eq_zero hb hw hins

/-- The clock moves on to a moment before which nothing is left to send. -/
theorem State.Sound.wait {s : State} (h : s.Sound) (t : Time) (hi : s.nextItem = none ∨ t ≤ s.boundary) :
    State.Sound { s with now := max s.now t } := by
  obtain ⟨runs, within, down, past⟩ := h.receiver
  obtain ⟨busy, waits, lag, total⟩ := h.backlog
  refine { h with receiver := ?_, backlog := ?_, sent := h.sent.wait t }
  · exact ⟨runs, fun u hu => by have := within u hu; dsimp only; lia, down, fun u hu => by have := past u hu; dsimp only; lia⟩
  · refine ⟨fun hne => ?_, waits, by dsimp only; lia, by dsimp only; lia⟩
    have hle := busy hne
    dsimp only
    rcases hi with hi | hi
    · exact absurd (h.backlog_of_nextItem hi) hne
    · have : s.boundary = max s.now s.path.freeAt := rfl
      lia

theorem State.Sound.reach {s : State} (h : s.Sound) (t : Time) : (s.reach t).Sound :=
  State.reach_keeps State.Sound s t (fun _ i hu hi _ => hu.sendItem i hi) (fun _ hu hi => hu.wait t hi) h

/-- The invariant holds at the moment of a command. -/
theorem State.Sound.at {s : State} (h : s.Sound) (o : Occasion) : (s.at o).Sound := { h.reach o.time with }

/-! ### An arriving frame is judged (R1, R4, R19) -/

/-- A receiver that the invariant allows at moment `now`. -/
def Receiver.SoundAt (now : Time) (r : Receiver) : Prop :=
  (r.lossTimer.isSome ↔ r.up = true) ∧ (∀ t ∈ r.lossTimer, t ≤ now + 3200) ∧ (r.lostAt.isSome → r.up = false) ∧
    ∀ t ∈ r.lostAt, t ≤ now

/-- The state in which a frame judged now is handled, whatever the receiver holds beside the moment of the next one: the
frame that waited has gone out, and the output is at most one frame and one own record behind. -/
theorem State.Sound.flushWaiting {s : State} (h : s.Sound) (hnow : s.receiver.nextFrame ≤ s.now) (r : Receiver)
    (hr : r.SoundAt s.now) (hnext : r.nextFrame = s.now + 80) :
    (State.flushWaiting { s with receiver := r }).Sound ∧ (State.flushWaiting { s with receiver := r }).Fresh := by
  obtain ⟨busy, waits, lag, total⟩ := h.backlog
  have hbound : s.boundary = max s.now s.path.freeAt := rfl
  unfold State.flushWaiting
  split
  next f hw =>
    replace hw : s.path.waiting = some f := hw
    have hfree : s.path.freeAt = s.now := by
      have := busy (by simp [Path.backlog, hw])
      have := waits (by simp [hw])
      lia
    have hb : s.path.backlog = s.path.bypass.length + 1 + s.path.insertion.elim 0 (fun i => i.length.toNat - i.next + 1) := by
      simp [Path.backlog, hw]
    rw [hfree, max_self] at hbound
    have hfresh : State.Fresh
        { s with
          receiver := r
          path := { s.path with output := some { frame := f, own := false, ends := s.boundary + frameTime }, waiting := none }
          outside := { s.outside with ringOut := s.outside.ringOut ++ [{ frame := f, start := s.boundary }] } } := by
      refine ⟨rfl, hnext, ?_, ?_⟩
      · show s.boundary + 80 ≤ s.now + 80; lia
      · show s.boundary + 80 + 80 * (s.path.bypass.length + 0 + _) ≤ s.now + 5280; lia
    refine ⟨{ h with receiver := hr, backlog := hfresh.backlogSound fun _ => ?_, sent := ?_ }, hfresh⟩
    · show s.now ≤ s.boundary + 80; lia
    · exact h.sent.started f false rfl rfl (by show s.now ≤ s.boundary + 80; lia)
  next hw =>
    have hfresh : State.Fresh { s with receiver := r } :=
      ⟨hw, hnext, by dsimp only; lia, by dsimp only; lia⟩
    exact ⟨{ h with receiver := hr, backlog := hfresh.backlogSound busy }, hfresh⟩

end Sys2Proof.Machine
end

section
/-! PROOF. The send unit's part of the invariant and its requests at the bus master (R51 to R74): the head entry's fetch, the
end of an attempt, its return, CANCEL, LEAVE and the census notice. -/

namespace Sys2Proof.Machine

/-- The send unit's part of the invariant, with its requests. -/
structure State.Sends (st : StationState) (granted : Prop) (s : State) : Prop where
  send : s.send.SoundIn st s.path.insertion
  bus  : s.BusServes granted

theorem State.SoundIn.sends {st : StationState} {s : State} (h : s.SoundIn st) : s.Sends st True := ⟨h.send, h.bus⟩

/-- What changes the send unit, the bus master, the event queue and the counters alone keeps the rest of the invariant. -/
theorem State.SoundIn.of_sends {st : StationState} {s t : State} (h : s.SoundIn st) (k : t.Sends st True)
    (hf : ∃ send bus events counters, t = { s with send := send, bus := bus, events := events, counters := counters }) :
    t.SoundIn st := by
  obtain ⟨_, _, _, _, rfl⟩ := hf
  exact { h with send := k.send, bus := k.bus }

theorem State.Sends.postAll {st : StationState} {granted : Prop} {s : State} (h : s.Sends st granted) (es : List Event) :
    (s.postAll es).Sends st granted := by
  obtain ⟨_, e⟩ := s.postAll_frame es
  rw [e]; exact ⟨h.send, h.bus⟩

/-- No attempt is made, and none awaits its retry. -/
def SendUnit.Calm (u : SendUnit) : Prop := u.head ≠ some .inFlight ∧ u.head ≠ some .retryWait

/-- No attempt is in flight and no part of one has returned: the head entry may leave the queue. -/
structure SendUnit.Idle (st : StationState) (u : SendUnit) : Prop where
  entries     : u.queue.length ≤ 16 ∧ ∀ e ∈ u.queue, e.length.toNat ≤ 64 ∧ e.address.toNat % 4 = 0
  limit       : u.retryLimit ≤ 15
  returnTimer : u.returnTimer = none
  context     : ¬(u.context = .openCurrent ∨ u.context = .openHeadless)
  config      : st = .config → u.queue = []
  leaves      : st = .pass ∨ st = .leaving → u.queue.length ≤ 1

section Unit
variable {st : StationState} {insertion : Option Insertion} {u : SendUnit} (h : u.SoundIn st insertion)
include h

theorem SendUnit.SoundIn.returnTimer_none (hhead : u.head ≠ some .inFlight) : u.returnTimer = none := by
  have := h.head.2.1.not.mpr hhead
  simpa using this

theorem SendUnit.SoundIn.leaves_length (hst : st = .pass ∨ st = .leaving) : u.queue.length ≤ 1 := by
  rcases h.leaves hst with hq | ⟨hq, -⟩ <;> simp [hq]

theorem SendUnit.SoundIn.idle (hhead : u.head ≠ some .inFlight) : u.Idle st where
  entries     := ⟨h.queue.1, h.queue.2.2⟩
  limit       := h.attempts.1
  returnTimer := h.returnTimer_none hhead
  context     := fun k => hhead (h.head.2.2.2.2.2 k)
  config      := h.config
  leaves      := h.leaves_length

theorem SendUnit.SoundIn.queue_ne_nil (x : HeadState) (hhead : u.head = some x) : u.queue ≠ [] :=
  fun k => by simp [h.head.1.mpr k] at hhead

/-- The items that an attempt in flight leaves at their starting values. -/
theorem SendUnit.SoundIn.inFlight (hhead : u.head = some .inFlight) :
    st = .run ∧ u.gapTimer = none ∧ u.disposition = none ∧ u.incoming = [] := by
  obtain ⟨-, -, gap, -, disposition, -⟩ := h.head
  refine ⟨h.attempting (.inl hhead), ?_, ?_, ?_⟩
  · by_contra hne; have := gap (Option.isSome_iff_ne_none.mpr hne); simp [hhead] at this
  · by_contra hne; have := disposition (Option.isSome_iff_ne_none.mpr hne); simp [hhead] at this
  · by_contra hne; have := (h.incoming hne).2; simp [hhead] at this

end Unit

/-- At another state of the station the send unit's part holds as well, when no attempt is made and the queue is what the state
asks for. -/
theorem SendUnit.SoundIn.of_calm {st st' : StationState} {insertion : Option Insertion} {u : SendUnit}
    (h : u.SoundIn st insertion) (hcalm : u.Calm) (hconfig : st' ≠ .config) (hleaves : st' = .pass ∨ st' = .leaving → u.Leaves) :
    u.SoundIn st' insertion :=
  { h with
    attempting := fun k => (k.elim hcalm.1 hcalm.2).elim, config := fun k => absurd k hconfig, leaves := hleaves }

/-- The queue that LEAVE has left has no attempt. -/
theorem SendUnit.SoundIn.calm_of_leaves {st : StationState} {insertion : Option Insertion} {u : SendUnit}
    (h : u.SoundIn st insertion) (hl : u.Leaves) : u.Calm := by
  rcases hl with hq | ⟨-, hhead, -⟩
  · have := h.head.1.mpr hq; simp [SendUnit.Calm, this]
  · simp [SendUnit.Calm, hhead]

theorem SendUnit.SoundIn.calm_off_run {st : StationState} {insertion : Option Insertion} {u : SendUnit}
    (h : u.SoundIn st insertion) (hst : st ≠ .run) : u.Calm :=
  ⟨fun k => hst (h.attempting (.inl k)), fun k => hst (h.attempting (.inr k))⟩

theorem payloadWords_pos (length : BitVec 7) (h : length ≠ 0) : 0 < payloadWords length := by
  have : length.toNat ≠ 0 := fun k => h (BitVec.eq_of_toNat_eq (by simpa using k))
  unfold payloadWords; lia

/-! ### The head entry (R54, R69) -/

/-- The send unit with its oldest entry newly made the head, in a state in which it is not attempted. -/
theorem SendUnit.Idle.adopted {st : StationState} {u : SendUnit} (h : u.Idle st) (hgap : u.gapTimer = none)
    (hl : st = .pass ∨ st = .leaving → u.queue = []) (insertion : Option Insertion) (x : Option HeadState)
    (hnone : x = none ↔ u.queue = []) (hx : x ≠ some .inFlight ∧ x ≠ some .retryWait) :
    SendUnit.SoundIn st insertion { u.fresh with head := x } where
  head       := ⟨hnone, iff_of_false (by simp [SendUnit.fresh, h.returnTimer]) hx.1, by simp [SendUnit.fresh, hgap], nofun, nofun,
    fun k => (h.context k).elim⟩
  attempts   := ⟨h.limit, fun _ => rfl, fun k => absurd k hx.1, fun k => absurd k hx.2⟩
  queue      := ⟨h.entries.1, Nat.zero_le _, h.entries.2⟩
  attempting := fun k => (k.elim hx.1 hx.2).elim
  config     := h.config
  leaves     := fun k => .inl (hl k)
  incoming   := fun k => absurd rfl k

section Head
variable {st : StationState} {granted : Prop} {s : State}

/-- The oldest entry becomes the head. -/
theorem State.adoptHead_sends (h : s.send.Idle st) (hgap : s.send.gapTimer = none)
    (hl : st = .pass ∨ st = .leaving → s.send.queue = [])
    (hb : s.bus.Serves granted (s.host.loading = true) False (s.delivery.engine.code = 1)) :
    s.adoptHead.Sends st granted ∧ s.adoptHead.send.Calm ∧ s.adoptHead.send.queue = s.send.queue := by
  have adopted := h.adopted hgap hl s.path.insertion
  unfold State.adoptHead
  split
  next hq =>
    exact ⟨⟨adopted none (by simp [hq]) (by simp), hb.of_work Iff.rfl (by simp) Iff.rfl⟩, ⟨nofun, nofun⟩, rfl⟩
  next e rest hq =>
    split
    · exact ⟨⟨adopted (some .staged) (by simp [hq]) (by simp), hb.of_work Iff.rfl (by simp) Iff.rfl⟩, ⟨nofun, nofun⟩, rfl⟩
    next hlen =>
      have hgranted := hb.requestFetch s.now e.address _ (payloadWords_pos _ hlen)
      exact ⟨⟨adopted (some .fetching) (by simp [hq]) (by simp),
        hgranted.loosen.of_work Iff.rfl (iff_of_true trivial rfl) Iff.rfl⟩, ⟨nofun, nofun⟩, rfl⟩

/-- The head entry leaves the queue. -/
theorem State.nextHead_sends (h : s.send.Idle st) (hq : s.send.queue ≠ [])
    (hb : s.bus.Serves granted (s.host.loading = true) False (s.delivery.engine.code = 1)) :
    s.nextHead.Sends st granted ∧ s.nextHead.send.Calm ∧ s.nextHead.send.queue = s.send.queue.tail := by
  obtain ⟨e, rest, hq⟩ := List.exists_cons_of_ne_nil hq
  have hd : s.send.dropHead = { s.send with
      queue := rest, head := none, gapTimer := none
      seq := if 1 ≤ s.send.attempts then s.send.seq + 1 else s.send.seq } := by
    simp only [SendUnit.dropHead, hq]
  have hleaves := h.leaves
  have hconfig := h.config
  obtain ⟨hshort, hentries⟩ := h.entries
  rw [hq] at hleaves hconfig hshort hentries
  unfold State.nextHead
  rw [hd, hq]
  exact State.adoptHead_sends (s := { s with send := _ })
    { h with
      entries := ⟨Nat.le_of_succ_le hshort, fun x hx => hentries x (List.mem_cons_of_mem _ hx)⟩
      config := fun k => nomatch hconfig k
      leaves := fun k => Nat.le_of_succ_le (hleaves k) }
    rfl (fun k => List.eq_nil_of_length_eq_zero (Nat.le_zero.mp (Nat.le_of_succ_le_succ (hleaves k)))) hb

theorem State.completeHead_sends (h : s.send.Idle st) (hq : s.send.queue ≠ [])
    (hb : s.bus.Serves granted (s.host.loading = true) False (s.delivery.engine.code = 1)) (status : SendStatus) :
    (s.completeHead status).Sends st granted := (State.nextHead_sends h hq hb).1.postAll _

end Head

/-! ### The end of an attempt (R55, R66, R67) -/

section Attempt
variable {st : StationState} {granted : Prop} {s : State} (h : s.Sends st granted)
include h

/-- No fetch is requested for a head that is not FETCHING. -/
theorem State.Sends.fetch_free (hhead : s.send.head ≠ some .fetching) :
    s.bus.Serves granted (s.host.loading = true) False (s.delivery.engine.code = 1) :=
  h.bus.of_work Iff.rfl (iff_of_false hhead id) Iff.rfl

/-- The attempt in flight ends with its return timer stopped and no part of it awaited. -/
theorem State.Sends.endWith (status : SendStatus) (accept held : BitVec 5)
    (hcontext : ¬(s.send.context = .openCurrent ∨ s.send.context = .openHeadless)) :
    (s.endWith status accept held).Sends st granted := by
  unfold State.endWith
  split
  next hhead =>
    obtain ⟨hrun, hgap, hdisposition, hincoming⟩ := h.send.inFlight hhead
    have hb := h.fetch_free (by simp [hhead])
    have hq := h.send.queue_ne_nil _ hhead
    obtain ⟨hlimit, -, hattempts, -⟩ := h.send.attempts
    have hidle : SendUnit.Idle st ((s.send.endAttempt).withMarks accept held) :=
      ⟨⟨h.send.queue.1, h.send.queue.2.2⟩, hlimit, rfl, hcontext, by simp [hrun], by simp [hrun]⟩
    have complete : ∀ x, State.Sends st granted
        (State.completeHead { s with send := (s.send.endAttempt).withMarks accept held } x) :=
      State.completeHead_sends (s := { s with send := (s.send.endAttempt).withMarks accept held }) hidle hq hb
    unfold State.afterOutcome
    split
    · exact complete _
    · split
      · exact complete _
      next hcancel =>
        split
        next hless =>
          refine ⟨⟨⟨?_, ?_, fun _ => rfl, fun k => absurd k hcancel, ?_, fun k => (hcontext k).elim⟩,
            ⟨hlimit, by simp, by simp, fun _ => ⟨(hattempts hhead).1, hless⟩⟩, h.send.queue, fun _ => hrun, by simp [hrun],
            by simp [hrun], fun k => absurd hincoming k⟩, h.bus.of_work Iff.rfl (by simp [hhead]) Iff.rfl⟩
          · exact iff_of_false nofun hq
          · exact iff_of_false nofun nofun
          · intro k; exact absurd k (by simp [SendUnit.withMarks, SendUnit.endAttempt, hdisposition])
        · exact complete _
  · exact h

theorem State.Sends.countStale : s.countStale.Sends st granted := ⟨h.send, h.bus⟩

/-- Another return context, with no attempt awaited in it. -/
theorem State.Sends.setContext (c : ReturnContext) (hc : ¬(c = .openCurrent ∨ c = .openHeadless)) :
    (s.setContext c).Sends st granted := by
  obtain ⟨none_iff, returnTimer, gap, cancel, disposition, -⟩ := h.send.head
  exact ⟨{ h.send with head := ⟨none_iff, returnTimer, gap, cancel, disposition, fun k => (hc k).elim⟩ }, h.bus⟩

theorem State.Sends.contextToStale : s.contextToStale.Sends st granted ∧
    ¬(s.contextToStale.send.context = .openCurrent ∨ s.contextToStale.send.context = .openHeadless) ∧
    s.contextToStale.send = { s.send with context := s.contextToStale.send.context } := by
  unfold State.contextToStale
  split
  · exact ⟨(h.setContext .openStale (by simp)).countStale, by simp [State.setContext, State.countStale], rfl⟩
  · exact ⟨(h.setContext .openStale (by simp)).countStale, by simp [State.setContext, State.countStale], rfl⟩
  next hc => exact ⟨h, by simp [hc], rfl⟩
  next hc => exact ⟨h, by simp [hc], rfl⟩

theorem State.Sends.attemptLost : s.attemptLost.Sends st granted := by
  unfold State.attemptLost
  split
  · obtain ⟨k, hc, -⟩ := h.contextToStale
    exact k.endWith _ _ _ hc
  next hhead =>
    obtain ⟨none_iff, -, gap, cancel, disposition, context⟩ := h.send.head
    exact ⟨{ h.send with head := ⟨none_iff, iff_of_false nofun hhead, gap, cancel, disposition, context⟩ }, h.bus⟩

theorem State.Sends.returnTruncated : s.returnTruncated.Sends st granted := by
  unfold State.returnTruncated
  split
  · exact (h.setContext .closed (by simp)).endWith _ _ _ (by simp [State.setContext])
  · exact h.setContext .closed (by simp)
  · exact h
  · exact h

theorem State.Sends.returnAbandoned : s.returnAbandoned.Sends st granted := by
  unfold State.returnAbandoned
  split
  · exact h.setContext .closed (by simp)
  · exact h.setContext .closed (by simp)
  · exact h
  · exact h

/-- The fault flag and the next index concern no part of the invariant. -/
theorem State.Sends.setFault (fault : Bool) (nextIndex : Nat) :
    State.Sends st granted { s with send := { s.send with fault := fault, nextIndex := nextIndex } } :=
  ⟨{ h.send with }, h.bus⟩

/-- A part of the attempt in flight has returned. -/
theorem State.Sends.openContext (c : ReturnContext) (hhead : s.send.head = some .inFlight) :
    (s.setContext c).Sends st granted := by
  obtain ⟨none_iff, returnTimer, gap, cancel, disposition, -⟩ := h.send.head
  exact ⟨{ h.send with head := ⟨none_iff, returnTimer, gap, cancel, disposition, fun _ => hhead⟩ }, h.bus⟩

theorem State.Sends.ownVoid : s.ownVoid.Sends st granted := by
  unfold State.ownVoid
  split
  · exact h.setFault true _
  · exact h

theorem State.Sends.ownHead (b : HeadBody) : (s.ownHead b).Sends st granted := by
  unfold State.ownHead
  have hfault : State.Sends st granted
      (match s.send.context with
      | .openHeadless => State.countStale { s with send := { s.send with fault := false } }
      | .closed | .openCurrent | .openStale => s) := by
    split
    · exact (h.setFault false _).countStale
    all_goals exact h
  dsimp only
  split
  next hb =>
    have hhead : s.send.head = some .inFlight := ((s.ownHeadBelongs_iff b).mp hb).2.1
    refine ((hfault.openContext .openCurrent ?_).setFault false 0)
    split <;> exact hhead
  · exact (hfault.setContext .openStale (by simp)).countStale

theorem State.Sends.ownData (d : DataBody) : (s.ownData d).Sends st granted := by
  unfold State.ownData
  split
  · exact h.setFault _ _
  · exact h
  · exact h
  · split
    next hhead => exact (h.openContext .openHeadless hhead).setFault true _
    · exact (h.setContext .openStale (by simp)).countStale

theorem State.Sends.ownTail (b : TailBody) : (s.ownTail b).Sends st granted := by
  have hclosed := h.setContext .closed (by simp)
  have hnot : ¬(ReturnContext.closed = .openCurrent ∨ ReturnContext.closed = .openHeadless) := by simp
  unfold State.ownTail
  dsimp only
  split
  · exact hclosed.endWith _ _ _ hnot
  · exact hclosed.endWith _ _ _ hnot
  · exact (hclosed.setFault true _).endWith _ _ _ hnot
  · exact (hclosed.setFault true _).endWith _ _ _ hnot
  · exact (hclosed.setFault false _).countStale
  · exact hclosed.countStale
  · exact hclosed

/-! ### The fetch (R55, R56) -/

/-- A word of the payload is placed in the staging buffer, or waits for it. -/
theorem State.Sends.stageWord (hhead : s.send.head = some .fetching) (w : Word) : (s.stageWord w).Sends st granted := by
  unfold State.stageWord
  split
  · exact h
  next e rest hq =>
    obtain ⟨short, buffer, entries⟩ := h.send.queue
    have hlen := (entries e (by simp [hq])).1
    unfold SendUnit.stage
    split
    next hbusy =>
      refine ⟨{ h.send with queue := ⟨short, ?_, entries⟩, incoming := fun _ => ⟨hbusy, .inl hhead⟩ }, h.bus⟩
      simp only [List.length_take]; lia
    next hbusy =>
      have hin : s.send.incoming = [] := by
        by_contra hne
        exact hbusy (h.send.incoming hne).1
      refine ⟨{ h.send with queue := ⟨short, ?_, entries⟩ }, h.bus⟩
      simp only [List.length_take, hin, List.length_nil]; lia

end Attempt

/-- The fetch of the head entry has ended, and its request with it. -/
structure State.FetchEnded (st : StationState) (granted : Prop) (s : State) : Prop where
  send : s.send.SoundIn st s.path.insertion
  head : s.send.head = some .fetching
  bus  : s.bus.Serves granted (s.host.loading = true) False (s.delivery.engine.code = 1)

section Fetch
variable {st : StationState} {granted : Prop} {s : State} (h : s.FetchEnded st granted)
include h

theorem State.FetchEnded.completeHead (status : SendStatus) : (s.completeHead status).Sends st granted :=
  State.completeHead_sends (h.send.idle (by simp [h.head])) (h.send.queue_ne_nil _ h.head) h.bus status

theorem State.FetchEnded.failed : s.fetchFailed.Sends st granted := by
  unfold State.fetchFailed
  split <;> exact h.completeHead _

theorem State.FetchEnded.completed : s.fetchCompleted.Sends st granted := by
  unfold State.fetchCompleted
  split
  next hd =>
    obtain ⟨none_iff, returnTimer, gap, cancel, -, context⟩ := h.send.head
    obtain ⟨limit, start, -, -⟩ := h.send.attempts
    have hhead := h.head
    rw [hhead] at none_iff returnTimer gap cancel context
    refine ⟨⟨⟨by simpa using none_iff, by simpa using returnTimer, fun k => by simpa using gap k, fun k => by simpa using cancel k,
      fun k => by simp [hd] at k, fun k => by simpa using context k⟩,
      ⟨limit, fun _ => start (.inr (.inl hhead)), by simp, by simp⟩, h.send.queue, by simp, h.send.config, ?_,
      fun k => ⟨(h.send.incoming k).1, .inr rfl⟩⟩, h.bus.of_work Iff.rfl (by simp) Iff.rfl⟩
    intro k
    rcases h.send.leaves k with hq | ⟨-, -, hsome⟩
    · exact .inl hq
    · simp [hd] at hsome
  · exact h.completeHead _
  · exact h.completeHead _

end Fetch
/-! ### CANCEL, LEAVE and the census notice (R70 to R73), SEND (R52) -/

/-- With the return timer stopped the end of an attempt is the attempt bit's flip and the last marks. -/
theorem SendUnit.abandonAttempt_stopped (u : SendUnit) (h : u.returnTimer = none) : ∃ attempt accept held,
    u.abandonAttempt = { u with attempt := attempt, accept := accept, held := held } := by
  unfold SendUnit.abandonAttempt
  split
  · exact ⟨!u.attempt, 0, 0, by simp only [SendUnit.endAttempt, SendUnit.withMarks, h]⟩
  · exact ⟨_, _, _, rfl⟩

section Queue
variable {st : StationState} {granted : Prop} {s : State} (h : s.Sends st granted)
include h

/-- Entries behind the head leave the queue. -/
theorem State.Sends.thin (e : SendEntry) (behind kept : List SendEntry) (hq : s.send.queue = e :: behind)
    (hkept : kept.Sublist behind) : State.Sends st granted { s with send := { s.send with queue := e :: kept } } := by
  obtain ⟨none_iff, returnTimer, gap, cancel, disposition, context⟩ := h.send.head
  obtain ⟨short, buffer, entries⟩ := h.send.queue
  have hsub : (e :: kept).Sublist s.send.queue := by rw [hq]; exact hkept.cons_cons e
  have hnone : s.send.head ≠ none := fun k => by simp [none_iff.mp k] at hq
  refine ⟨{ h.send with
    head := ⟨iff_of_false hnone nofun, returnTimer, gap, cancel, disposition, context⟩
    queue := ⟨Nat.le_trans hsub.length_le short, buffer, fun x hx => entries x (hsub.subset hx)⟩
    config := fun k => by rw [h.send.config k] at hq; cases hq
    leaves := fun k => ?_ }, h.bus⟩
  rcases h.send.leaves k with hnil | ⟨hone, hhead, hsome⟩
  · rw [hnil] at hq; cases hq
  · have hbehind : behind = [] := by simpa [hq] using hone
    subst hbehind
    rw [List.sublist_nil.mp hkept]
    exact .inr ⟨rfl, hhead, hsome⟩

/-- A head that is STAGED or awaits its retry may leave the queue at once. -/
theorem State.Sends.nextHead (hq : s.send.queue ≠ []) (hhead : s.send.head = some .staged ∨ s.send.head = some .retryWait) :
    s.nextHead.Sends st granted ∧ s.nextHead.send.Calm ∧ s.nextHead.send.queue = s.send.queue.tail :=
  State.nextHead_sends (h.send.idle (by rcases hhead with k | k <;> simp [k])) hq
    (h.fetch_free (by rcases hhead with k | k <;> simp [k]))

/-- A FETCHING head gets a pending disposition. -/
theorem State.Sends.dispose (d : Disposition) (hhead : s.send.head = some .fetching) :
    State.Sends st granted { s with send := { s.send with disposition := some d } } := by
  obtain ⟨none_iff, returnTimer, gap, cancel, -, context⟩ := h.send.head
  refine ⟨{ h.send with
    head := ⟨none_iff, returnTimer, gap, cancel, fun _ => hhead, context⟩, leaves := fun k => ?_ }, h.bus⟩
  exact (h.send.leaves k).imp_right fun ⟨hone, hf, _⟩ => ⟨hone, hf, rfl⟩

theorem State.Sends.cancelHead : State.Sends st granted { s with send := s.send.cancelHead } := by
  unfold SendUnit.cancelHead
  split
  next hhead => exact h.dispose _ hhead
  next hhead =>
    obtain ⟨none_iff, returnTimer, gap, -, disposition, context⟩ := h.send.head
    exact ⟨{ h.send with head := ⟨none_iff, returnTimer, gap, fun _ => hhead, disposition, context⟩ }, h.bus⟩
  · exact h

theorem State.Sends.cancelSends (tag : Halfword) : (s.cancelSends tag).Sends st granted := by
  unfold State.cancelSends
  split
  · exact h
  next e behind hq =>
    have hthin := h.thin e behind (behind.filter (fun x => x.tag != tag)) hq List.filter_sublist
    dsimp only
    split
    · split
      next hhead => exact (hthin.nextHead (by simp) hhead).1.postAll _
      · exact hthin.cancelHead.postAll _
    · exact hthin.postAll _

/-- An attempt in flight ends without a TAIL, and its entry leaves the queue. -/
theorem State.Sends.abandon (hhead : s.send.head = some .inFlight)
    (hcontext : ¬(s.send.context = .openCurrent ∨ s.send.context = .openHeadless)) :
    (State.nextHead { s with send := s.send.abandonAttempt }).Sends st granted ∧
    (State.nextHead { s with send := s.send.abandonAttempt }).send.Calm ∧
    (State.nextHead { s with send := s.send.abandonAttempt }).send.queue = s.send.queue.tail := by
  obtain ⟨hrun, -⟩ := h.send.inFlight hhead
  have hab : s.send.abandonAttempt = (s.send.endAttempt).withMarks 0 0 := by simp only [SendUnit.abandonAttempt, hhead]
  rw [hab]
  exact State.nextHead_sends (s := { s with send := (s.send.endAttempt).withMarks 0 0 })
    ⟨⟨h.send.queue.1, h.send.queue.2.2⟩, h.send.attempts.1, rfl, hcontext, by simp [hrun], by simp [hrun]⟩
    (h.send.queue_ne_nil _ hhead) (h.fetch_free (by simp [hhead]))

/-- LEAVE leaves no entry but a FETCHING head with its disposition (R72, R74). -/
theorem State.Sends.emptySends : s.emptySends.Sends st granted ∧ s.emptySends.send.Leaves := by
  unfold State.emptySends
  split
  next hq => exact ⟨h, .inl hq⟩
  next e behind hq =>
    have hthin := h.thin e behind [] hq (List.nil_sublist _)
    dsimp only
    split
    next hhead => exact ⟨hthin.dispose _ hhead, .inr ⟨rfl, hhead, rfl⟩⟩
    next hhead =>
      obtain ⟨hstale, hcontext, hsend⟩ := hthin.contextToStale
      obtain ⟨k, -, hnil⟩ := hstale.abandon (by rw [hsend]; exact hhead) hcontext
      exact ⟨k, .inl (by rw [hnil, hsend]; rfl)⟩
    next hf hi =>
      have hhead : s.send.head = some .staged ∨ s.send.head = some .retryWait := by
        have hne : s.send.head ≠ none := fun k => by simp [h.send.head.1.mp k] at hq
        revert hf hi hne
        rcases s.send.head with _ | (_ | _ | _ | _) <;> simp
      obtain ⟨k, -, hnil⟩ := hthin.nextHead (by simp) hhead
      exact ⟨k, .inl (by rw [hnil]; rfl)⟩

theorem State.Sends.leaveSends : s.leaveSends.Sends st granted ∧ s.leaveSends.send.Leaves := by
  obtain ⟨k, hl⟩ := h.emptySends
  refine ⟨k.postAll _, ?_⟩
  unfold State.leaveSends
  obtain ⟨_, e⟩ := s.emptySends.postAll_frame s.send.leftEvents
  rw [e]; exact hl

/-- The notice of a census entry or of a change to BARRED leaves no attempt (R73). -/
theorem State.Sends.ringLostSends : s.ringLostSends.Sends st granted ∧ s.ringLostSends.send.Calm := by
  have hnot : ¬(ReturnContext.closed = .openCurrent ∨ ReturnContext.closed = .openHeadless) := by simp
  have retire : ∀ u : SendUnit,
      u = { s.send with returnTimer := none, gapTimer := none, context := .closed } →
      s.send.head = some .inFlight ∨ s.send.head = some .retryWait →
      (State.nextHead { s with send := u.abandonAttempt }).Sends st granted ∧
      (State.nextHead { s with send := u.abandonAttempt }).send.Calm := by
    rintro u rfl hhead
    have hrun := h.send.attempting hhead
    obtain ⟨attempt, accept, held, e⟩ := SendUnit.abandonAttempt_stopped
      { s.send with returnTimer := none, gapTimer := none, context := .closed } rfl
    rw [e]
    obtain ⟨k, hcalm, -⟩ := State.nextHead_sends (st := st) (granted := granted)
      (s := { s with send := { s.send with
        returnTimer := none, gapTimer := none, context := .closed, attempt := attempt, accept := accept, held := held } })
      ⟨⟨h.send.queue.1, h.send.queue.2.2⟩, h.send.attempts.1, rfl, hnot, by simp [hrun], by simp [hrun]⟩
      (hhead.elim (h.send.queue_ne_nil _) (h.send.queue_ne_nil _))
      (h.fetch_free (by rcases hhead with k | k <;> simp [k]))
    exact ⟨k, hcalm⟩
  unfold State.ringLostSends
  dsimp only
  split
  next hhead => exact retire _ rfl (.inl hhead)
  next hhead => exact retire _ rfl (.inr hhead)
  next hi hr =>
    obtain ⟨none_iff, -, -, cancel, disposition, -⟩ := h.send.head
    exact ⟨⟨{ h.send with head := ⟨none_iff, iff_of_false nofun hi, nofun, cancel, disposition, fun k => (hnot k).elim⟩ }, h.bus⟩,
      hi, hr⟩

/-- An entry joins the queue of a station that may have one (R52, R54). -/
theorem State.Sends.enqueue (e : SendEntry) (hst : st ≠ .config ∧ st ≠ .pass ∧ st ≠ .leaving) (hlen : e.length.toNat ≤ 64)
    (haddr : e.address.toNat % 4 = 0) (hroom : s.send.queue.length < 16) : (s.enqueue e).Sends st granted := by
  obtain ⟨none_iff, returnTimer, gap, cancel, disposition, context⟩ := h.send.head
  obtain ⟨short, buffer, entries⟩ := h.send.queue
  have hentries : ∀ x ∈ s.send.queue ++ [e], x.length.toNat ≤ 64 ∧ x.address.toNat % 4 = 0 := by
    intro x hx
    rcases List.mem_append.mp hx with hx | hx
    · exact entries x hx
    · rw [List.mem_singleton.mp hx]; exact ⟨hlen, haddr⟩
  unfold State.enqueue
  dsimp only
  split
  next hempty =>
    have hnil : s.send.queue = [] := List.isEmpty_iff.mp hempty
    have hnone := none_iff.mpr hnil
    have hgap : s.send.gapTimer = none := by
      by_contra hne; have := gap (Option.isSome_iff_ne_none.mpr hne); simp [hnone] at this
    refine (State.adoptHead_sends (s := { s with send := { s.send with queue := s.send.queue ++ [e] } }) ?_ hgap ?_ ?_).1
    · have hidle := h.send.idle (by simp [hnone])
      exact { hidle with
        entries := ⟨by rw [hnil]; simp, hentries⟩, config := fun k => absurd k hst.1
        leaves := fun k => (k.elim hst.2.1 hst.2.2).elim }
    · exact fun k => (k.elim hst.2.1 hst.2.2).elim
    · exact h.fetch_free (by simp [hnone])
  next hne =>
    have hcons : s.send.queue ≠ [] := fun k => hne (List.isEmpty_iff.mpr k)
    exact ⟨{ h.send with
      head := ⟨iff_of_false (fun k => hcons (none_iff.mp k)) (by simp), returnTimer, gap, cancel, disposition, context⟩
      queue := ⟨by simp; lia, buffer, hentries⟩, config := fun k => absurd k hst.1
      leaves := fun k => (k.elim hst.2.1 hst.2.2).elim }, h.bus⟩

end Queue
end Sys2Proof.Machine
end

section
/-! PROOF. The invariant of the receive store, the delivery rings, the engine and the record filter (R75 to R113), and the
engine's requests at the bus master. -/

namespace Sys2Proof.Machine

/-! ### The parts of the invariant, case by case -/

/-- A ring's counts, with `n` entries of the store reserved in it (R96, R101, R102). -/
structure DeliveryRing.SoundFor (n : Nat) (x : DeliveryRing) : Prop where
  slots    : x.slots = 0 ∧ x.writeIndex = 0 ∨ 2 ≤ x.slots ∧ x.slots ≤ 128 ∧ x.writeIndex < x.slots
  counts   : x.filled + x.reserved ≤ x.slots
  reserved : x.reserved = n
  base     : x.base.toNat % 4 = 0

/-- The entries of the store whose target is ring `r`. -/
def Delivery.reservations (store : List StoreEntry) (r : BitVec 2) : Nat := store.countP (fun e => e.ring == r)

theorem Delivery.ringsSound_iff (d : Delivery) :
    d.RingsSound ↔ ∀ r : BitVec 2, (d.ring r).SoundFor (Delivery.reservations d.store r) := by
  have hcount : ∀ r : BitVec 2, d.store.countP (fun e => e.ring.toNat == r.toNat) = Delivery.reservations d.store r := by
    intro r
    refine List.countP_congr fun e _ => ?_
    simp [BitVec.toNat_eq]
  constructor
  · intro h r
    obtain ⟨slots, counts, reserved, base⟩ := h ⟨r.toNat, r.isLt⟩
    exact ⟨slots, counts, reserved.trans (hcount r), base⟩
  · intro h i
    have hi : (BitVec.ofNat 2 i.val).toNat = i.val := by simp
    obtain ⟨slots, counts, reserved, base⟩ := h (BitVec.ofNat 2 i.val)
    have hc := hcount (BitVec.ofNat 2 i.val)
    simp only [Delivery.ring, hi] at slots counts reserved base hc
    exact ⟨slots, counts, reserved.trans hc.symm, base⟩

/-- The engine is DELIVERING the oldest entry into the slot at its ring's write index. -/
def Delivery.Delivers (d : Delivery) (phase : Phase) (ring : BitVec 2) (slot : Nat) (e : StoreEntry)
    (rest : List StoreEntry) : Prop :=
  d.engine = .delivering phase ring slot ∧ d.store = e :: rest ∧ e.state = .delivering ∧ ring = e.ring ∧
    slot = (d.ring ring).writeIndex ∧ (phase ≠ .body ∨ e.length ≠ 0)

/-- The engine is HALTED at the oldest entry. -/
def Delivery.Halts (d : Delivery) (ring : BitVec 2) (slot : Nat) (e : StoreEntry) (rest : List StoreEntry) : Prop :=
  d.engine = .halted ring slot ∧ d.store = e :: rest ∧ e.state = .complete ∧ ring = e.ring ∧
    slot = (d.ring ring).writeIndex

theorem Delivery.engineSound_iff (d : Delivery) : d.EngineSound = true ↔
    d.engine = .idle ∧ (∀ e ∈ d.store.head?, e.state = .filling) ∨
    (∃ phase ring slot e rest, d.Delivers phase ring slot e rest) ∨ ∃ ring slot e rest, d.Halts ring slot e rest := by
  unfold Delivery.EngineSound Delivery.Delivers Delivery.Halts
  cases he : d.engine <;> cases hs : d.store <;> simp [Delivery.ring]
  all_goals grind

/-- The record of an open ACCEPTING context is the newest entry of the store, with every good halfword so far. -/
def RecordContext.Fills (c : RecordContext) (store : List StoreEntry) : Prop :=
  ∃ older e, store = older ++ [e] ∧ e.state = .filling ∧ e.source = c.source ∧ e.stream = c.stream ∧ e.seq = c.seq ∧
    e.length = c.expected ∧ some e.ring = c.target ∧ (c.damaged = false → e.payload.length = c.next)

/-- What an open context says of the store (R77, R80, R82). -/
structure RecordContext.SoundFor (store : List StoreEntry) (c : RecordContext) : Prop where
  next     : c.next ≤ c.expected.toNat
  expected : c.expected.toNat ≤ 64
  fills    : c.verdict = .accepting → c.Fills store
  others   : c.verdict ≠ .accepting → ∀ e ∈ store, e.state ≠ .filling

theorem State.contextSound_iff (s : State) : s.ContextSound = true ↔
    (s.filter.context = none → ∀ e ∈ s.delivery.store, e.state ≠ .filling) ∧
    ∀ c, s.filter.context = some c → s.path.phase = .forwarding ∧ c.SoundFor s.delivery.store := by
  unfold State.ContextSound
  cases hc : s.filter.context with
  | none => simp
  | some c =>
    by_cases hv : c.verdict = .accepting
    · rcases List.eq_nil_or_concat s.delivery.store with hs | ⟨older, e, hs⟩
      · simp only [hv, hs, if_true]
        constructor
        · simp
        · rintro ⟨-, h⟩
          obtain ⟨older, e, k, -⟩ := (h c rfl).2.fills hv
          simp at k
      · rw [List.concat_eq_append] at hs
        simp only [hv, hs, if_true, List.getLast?_concat, Bool.and_eq_true, decide_eq_true_eq]
        constructor
        · rintro ⟨⟨⟨hphase, hnext⟩, hexpected⟩, hfills⟩
          exact ⟨nofun, fun k hk => by
            cases hk; exact ⟨hphase, hnext, hexpected, fun _ => ⟨older, e, by simp, hfills⟩, fun hn => absurd hv hn⟩⟩
        · rintro ⟨-, h⟩
          obtain ⟨hphase, k⟩ := h c rfl
          obtain ⟨older', e', hs', hfills⟩ := k.fills hv
          obtain ⟨rfl, rfl⟩ : older = older' ∧ e = e' := by simpa using hs'
          exact ⟨⟨⟨hphase, k.next⟩, k.expected⟩, hfills⟩
    · simp only [hv, if_false, Bool.and_eq_true, decide_eq_true_eq, List.all_eq_true]
      constructor
      · rintro ⟨⟨⟨hphase, hnext⟩, hexpected⟩, hothers⟩
        exact ⟨nofun, fun k hk => by cases hk; exact ⟨hphase, hnext, hexpected, fun hn => absurd hn hv, fun _ => hothers⟩⟩
      · rintro ⟨-, h⟩
        obtain ⟨hphase, hs⟩ := h c rfl
        exact ⟨⟨⟨hphase, hs.next⟩, hs.expected⟩, hs.others hv⟩

end Sys2Proof.Machine
end

section
/-! PROOF. The record filter, the receive store and the delivery engine keep the invariant: the judgment at a HEAD, the checks
of the body, the closing at the TAIL, the beginning and the ends of a delivery (R77 to R114). -/

namespace Sys2Proof.Machine

/-- The engine's work and the oldest entry agree (R104, R105, R110 to R112). -/
def Delivery.Settled (d : Delivery) : Prop := d.EngineSound = true

/-- The same, but that a COMPLETE entry may be the oldest one with the engine IDLE: its delivery has still to begin. -/
def Delivery.Awaiting (d : Delivery) : Prop := d.Settled ∨ d.engine = .idle ∧ ∀ e ∈ d.store.head?, e.state ≠ .delivering

/-- The invariant of receive store, rings, engine and record filter, less that of the engine, which is `ready`, and less the
input phase. -/
structure State.Holds (ready : Delivery → Prop) (s : State) : Prop where
  places        : placesUsed s.delivery.store ≤ 384
  older         : ∀ e ∈ s.delivery.store.dropLast, e.state ≠ .filling
  younger       : ∀ e ∈ s.delivery.store.tail, e.state ≠ .delivering
  entries       : ∀ e ∈ s.delivery.store,
    e.length.toNat ≤ 64 ∧ (e.state ≠ .filling → e.payload.length = e.length.toNat)
  rings         : ∀ r, (s.delivery.ring r).SoundFor (Delivery.reservations s.delivery.store r)
  engine        : ready s.delivery
  closed        : s.filter.context = none → ∀ e ∈ s.delivery.store, e.state ≠ .filling
  opened        : ∀ c, s.filter.context = some c → c.SoundFor s.delivery.store
  subscriptions : s.SubscriptionsSound
  config        : s.member.station = .config → s.delivery.store = [] ∧ s.filter.subscriptions = []

theorem State.storeSound_iff (s : State) : s.StoreSound ↔
    s.Holds Delivery.Settled ∧ ∀ c, s.filter.context = some c → s.path.phase = .forwarding := by
  constructor
  · rintro ⟨⟨places, older, younger, entries⟩, rings, engine, context, subscriptions, config⟩
    rw [State.contextSound_iff] at context
    obtain ⟨closed, opened⟩ := context
    exact ⟨⟨places, older, younger, entries, (Delivery.ringsSound_iff _).mp rings, engine, closed, fun c hc => (opened c hc).2,
      subscriptions, config⟩, fun c hc => (opened c hc).1⟩
  · rintro ⟨h, phase⟩
    exact ⟨⟨h.places, h.older, h.younger, h.entries⟩, (Delivery.ringsSound_iff _).mpr h.rings, h.engine,
      s.contextSound_iff.mpr ⟨h.closed, fun c hc => ⟨phase c hc, h.opened c hc⟩⟩, h.subscriptions, h.config⟩

/-- The same with the requests at the bus master. -/
structure State.Stores (granted : Prop) (s : State) : Prop where
  store : s.Holds Delivery.Settled
  bus   : s.BusServes granted

/-- The items of a store entry that the engine's part of the invariant reads. -/
def StoreEntry.core (e : StoreEntry) : EntryState × BitVec 2 × BitVec 7 := (e.state, e.ring, e.length)

/-- The engine's part reads the oldest entry and the write indices alone. -/
theorem Delivery.Settled.congr {d d' : Delivery} (h : d.Settled) (he : d'.engine = d.engine)
    (hs : d'.store.head?.map StoreEntry.core = d.store.head?.map StoreEntry.core)
    (hr : ∀ r, (d'.ring r).writeIndex = (d.ring r).writeIndex) : d'.Settled := by
  unfold Delivery.Settled Delivery.EngineSound at *
  rw [he]
  rcases h1 : d.store with _ | ⟨e, rest⟩ <;> rcases h2 : d'.store with _ | ⟨e', rest'⟩ <;> rw [h1, h2] at hs
  · rw [h1] at h; cases hd : d.engine <;> simp [hd] at h ⊢
  · simp at hs
  · simp at hs
  · rw [h1] at h
    simp only [List.head?_cons, Option.map_some, Option.some.injEq, StoreEntry.core, Prod.mk.injEq] at hs
    obtain ⟨hstate, hring, hlen⟩ := hs
    cases hd : d.engine <;> simp only [hd] at h ⊢ <;> simpa [hstate, hring, hlen, hr] using h

/-- An IDLE engine has no COMPLETE entry before it. -/
theorem Delivery.Settled.filling {d : Delivery} (h : d.Settled) (e : StoreEntry) (he : e ∈ d.store.head?)
    (hf : e.state = .filling) : d.engine = .idle := by
  unfold Delivery.Settled at h
  rw [Delivery.engineSound_iff] at h
  rcases h with ⟨hi, -⟩ | ⟨_, _, _, e', _, _, hs, hd, -⟩ | ⟨_, _, e', _, _, hs, hd, -⟩
  · exact hi
  · rw [hs] at he; cases he; simp [hf] at hd
  · rw [hs] at he; cases he; simp [hf] at hd

theorem Delivery.settled_idle {d : Delivery} (hi : d.engine = .idle) (h : ∀ e ∈ d.store.head?, e.state = .filling) :
    d.Settled := d.engineSound_iff.mpr (.inl ⟨hi, h⟩)

/-! ### The room of an accepted record (R80, R86) -/

theorem Delivery.reservations_append (older : List StoreEntry) (e : StoreEntry) (r : BitVec 2) :
    Delivery.reservations (older ++ [e]) r = Delivery.reservations older r + if e.ring = r then 1 else 0 := by
  simp [Delivery.reservations, List.countP_append, List.countP_cons]

theorem Delivery.reservations_cons (e : StoreEntry) (rest : List StoreEntry) (r : BitVec 2) :
    Delivery.reservations (e :: rest) r = Delivery.reservations rest r + if e.ring = r then 1 else 0 := by
  simp [Delivery.reservations, List.countP_cons]

/-- Nothing but a ring's counts changes in its descriptor, for `n` entries before and `n'` after. -/
theorem DeliveryRing.SoundFor.counts_to {n n' : Nat} {x : DeliveryRing} (h : x.SoundFor n) (filled reserved : Nat)
    (hr : reserved = n') (hc : filled + reserved ≤ x.slots) :
    DeliveryRing.SoundFor n' { x with filled := filled, reserved := reserved } := ⟨h.slots, hc, hr, h.base⟩

/-- The rings after one ring's counts have changed with the store. -/
theorem State.Holds.rings_set {ready : Delivery → Prop} {s : State} (h : s.Holds ready) (d : Delivery)
    (hd : d.rings = s.delivery.rings) (r : BitVec 2) (x : DeliveryRing) (hx : x.SoundFor (Delivery.reservations d.store r))
    (hother : ∀ q, q ≠ r → Delivery.reservations d.store q = Delivery.reservations s.delivery.store q) (q : BitVec 2) :
    ((d.setRing r x).ring q).SoundFor (Delivery.reservations d.store q) := by
  by_cases hq : q = r
  · subst hq; rw [Delivery.setRing_ring_self]; exact hx
  · rw [Delivery.setRing_ring_ne _ _ _ _ hq, hother q hq]
    have : d.ring q = s.delivery.ring q := by simp [Delivery.ring, hd]
    rw [this]; exact h.rings q

theorem State.Holds.subscriptions_set {ready : Delivery → Prop} {s : State} (h : s.Holds ready) (d : Delivery)
    (hd : d.rings = s.delivery.rings) (r : BitVec 2) (x : DeliveryRing) (hx : x.slots = (s.delivery.ring r).slots) :
    ∀ y ∈ s.filter.subscriptions, 2 ≤ ((d.setRing r x).ring y.2).slots := by
  intro y hy
  have hs := h.subscriptions.2.2 y hy
  by_cases hq : y.2 = r
  · rw [hq, Delivery.setRing_ring_self, hx, ← hq]; exact hs
  · rw [Delivery.setRing_ring_ne _ _ _ _ hq]
    have : d.ring y.2 = s.delivery.ring y.2 := by simp [Delivery.ring, hd]
    rw [this]; exact hs

/-- The write indices stay where only counts change. -/
theorem Delivery.setRing_writeIndex (d d' : Delivery) (hd : d'.rings = d.rings) (r : BitVec 2) (x : DeliveryRing)
    (hx : x.writeIndex = (d.ring r).writeIndex) (q : BitVec 2) : ((d'.setRing r x).ring q).writeIndex = (d.ring q).writeIndex := by
  by_cases hq : q = r
  · rw [hq, Delivery.setRing_ring_self, hx]
  · rw [Delivery.setRing_ring_ne _ _ _ _ hq]; simp [Delivery.ring, hd]

section Filter
variable {granted : Prop} {s : State}

/-- The context becomes CLOSED where it has no entry of the store. -/
theorem State.Stores.closeContext (h : s.Stores granted) (c : RecordContext) (hc : s.filter.context = some c)
    (hv : c.verdict ≠ .accepting) (duplicates : Vector (Option (BitVec 8)) 30) :
    State.Stores granted { s with filter := { s.filter with context := none, duplicates := duplicates } } :=
  ⟨{ h.store with closed := fun _ => (h.store.opened c hc).others hv, opened := nofun }, h.bus⟩

/-- The room of the record is given back, and the context becomes CLOSED. -/
theorem State.Stores.giveBack (h : s.Stores granted) (c : RecordContext) (hc : s.filter.context = some c) :
    (s.giveBack c).closeContext.Stores granted := by
  unfold State.giveBack
  split
  next hv =>
    obtain ⟨older, e, hs, hf, -⟩ := (h.store.opened c hc).fills hv
    obtain ⟨places, hnotFilling, younger, entries, rings, engine, -, -, subscriptions, config⟩ := h.store
    rw [s.dropFilling_append older e hs hf]
    rw [hs] at places hnotFilling younger entries
    rw [List.dropLast_concat] at hnotFilling
    rw [placesUsed_append] at places
    have hres : ∀ q, Delivery.reservations s.delivery.store q =
        Delivery.reservations older q + if e.ring = q then 1 else 0 := fun q => by rw [hs, Delivery.reservations_append]
    have hring := rings e.ring
    rw [hres, if_pos rfl] at hring
    have hr := hring.reserved
    refine ⟨⟨by simp only [State.closeContext, Delivery.setRing_store]; lia,
      fun x hx => hnotFilling x (List.dropLast_subset _ hx), ?_, fun x hx => entries x (List.mem_append_left _ hx), ?_, ?_,
      fun _ => hnotFilling, nofun, ⟨subscriptions.1, subscriptions.2.1, ?_⟩, fun k => ?_⟩, h.bus⟩
    · intro x hx
      refine younger x ?_
      rw [List.tail_append]
      split
      · simp_all [State.closeContext]
      · exact List.mem_append_left _ hx
    · exact h.store.rings_set { s.delivery with store := older } rfl _ _
        (hring.counts_to _ _ (by lia) (by have := hring.counts; lia)) fun q hq => by rw [hres, if_neg (Ne.symm hq)]; rfl
    · have hwrite := Delivery.setRing_writeIndex s.delivery { s.delivery with store := older } rfl e.ring
        { s.delivery.ring e.ring with reserved := (s.delivery.ring e.ring).reserved - 1 } rfl
      rcases older with _ | ⟨o, older⟩
      · exact Delivery.settled_idle (engine.filling e (by simp [hs]) hf) nofun
      · exact engine.congr rfl (by simp [State.closeContext, hs]) hwrite
    · exact h.store.subscriptions_set { s.delivery with store := older } rfl _ _ rfl
    · have := (config k).1
      simp [hs] at this
  next hv => exact h.closeContext c hc hv _

theorem State.Stores.countDamaged (h : s.Stores granted) : s.countDamaged.Stores granted := ⟨{ h.store with }, h.bus⟩

theorem State.Stores.filterTruncated (h : s.Stores granted) : s.filterTruncated.Stores granted := by
  unfold State.filterTruncated
  split
  · exact h
  next c hc => exact (h.giveBack c hc).countDamaged

theorem State.Stores.filterDiscard (h : s.Stores granted) : s.filterDiscard.Stores granted := by
  unfold State.filterDiscard
  split
  · exact h
  next c hc => exact h.giveBack c hc

/-- The open context takes a mark or counts an index that no part of the store shows. -/
theorem State.Stores.markContext (h : s.Stores granted) (c : RecordContext) (hc : s.filter.context = some c) (next : Nat)
    (damaged : Bool) (hnext : next ≤ c.expected.toNat)
    (hd : c.verdict = .accepting → damaged = false → c.damaged = false ∧ next = c.next) :
    State.Stores granted
      { s with filter := { s.filter with context := some { c with next := next, damaged := damaged } } } := by
  have k := h.store.opened c hc
  refine ⟨{ h.store with closed := nofun, opened := ?_ }, h.bus⟩
  rintro _ ⟨⟩
  refine ⟨hnext, k.expected, fun hv => ?_, k.others⟩
  obtain ⟨older, e, hs, hf, hsource, hstream, hseq, hlen, htarget, hpayload⟩ := k.fills hv
  exact ⟨older, e, hs, hf, hsource, hstream, hseq, hlen, htarget, fun hno => by
    obtain ⟨hcd, hcn⟩ := hd hv hno; exact (hpayload hcd).trans hcn.symm⟩

theorem State.Stores.filterVoid (h : s.Stores granted) : s.filterVoid.Stores granted := by
  unfold State.filterVoid
  split
  · exact h
  next c hc => exact h.markContext c hc c.next true (h.store.opened c hc).next (fun _ => nofun)

/-- A good DATA's halfword is stored (R82). -/
theorem State.Stores.storeWord (h : s.Stores granted) (c : RecordContext) (hc : s.filter.context = some c)
    (hv : c.verdict = .accepting) (hnext : c.next + 1 ≤ c.expected.toNat) (w : Halfword) :
    State.Stores granted
      { s with filter := { s.filter with context := some { c with next := c.next + 1 } }
               delivery := { s.delivery with store := storeHalfword s.delivery.store w } } := by
  have k := h.store.opened c hc
  obtain ⟨older, e, hs, hf, hsource, hstream, hseq, hlen, htarget, hpayload⟩ := k.fills hv
  obtain ⟨places, hnotFilling, younger, entries, rings, engine, -, -, subscriptions, config⟩ := h.store
  have hres : ∀ q, Delivery.reservations (older ++ [{ e with payload := e.payload ++ [w] }]) q =
      Delivery.reservations s.delivery.store q := fun q => by rw [hs]; simp only [Delivery.reservations_append]
  rw [hs, storeHalfword_append]
  rw [hs] at places hnotFilling younger entries
  rw [placesUsed_append] at places
  refine ⟨⟨by rw [placesUsed_append]; exact places, by simpa using hnotFilling, ?_, ?_, fun q => by rw [hres]; exact rings q, ?_,
    nofun, ?_, subscriptions, fun k => ?_⟩, h.bus⟩
  · rcases older with _ | ⟨o, older⟩
    · simp
    · intro x hx
      rcases List.mem_append.mp hx with hx | hx
      · exact younger x (List.mem_append_left _ hx)
      · rw [List.mem_singleton.mp hx]; simp [hf]
  · intro x hx
    rcases List.mem_append.mp hx with hx | hx
    · exact entries x (List.mem_append_left _ hx)
    · rw [List.mem_singleton.mp hx]
      exact ⟨(entries e (by simp)).1, fun hne => absurd hf hne⟩
  · refine engine.congr rfl ?_ fun _ => rfl
    rcases older with _ | ⟨o, older⟩ <;> simp [hs, StoreEntry.core]
  · rintro _ ⟨⟩
    exact ⟨hnext, k.expected, fun _ => ⟨older, _, rfl, hf, hsource, hstream, hseq, hlen, htarget, fun hno => by
      simp [hpayload hno]⟩, fun hno => absurd hv hno⟩
  · have := (config k).1
    simp [hs] at this

theorem RecordContext.good_next {c : RecordContext} {d : DataBody} (h : c.good d = true) : c.next + 1 ≤ c.expected.toNat := by
  simp only [RecordContext.good, Bool.and_eq_true, beq_iff_eq, decide_eq_true_eq] at h
  lia

theorem State.Stores.filterData (h : s.Stores granted) (d : DataBody) : (s.filterData d).Stores granted := by
  unfold State.filterData
  split
  · exact h
  next c hc =>
    split
    next hgood =>
      have hnext := RecordContext.good_next hgood
      dsimp only
      split
      next hv => exact h.storeWord c hc hv.1 hnext _
      next hv => exact h.markContext c hc _ c.damaged hnext (fun ha hno => absurd ⟨ha, hno⟩ hv)
    · exact h.markContext c hc c.next true (h.store.opened c hc).next (fun _ => nofun)

/-- A HEAD opens the context, and an accepted record takes its room (R78 to R80). -/
theorem State.Stores.filterHead (h : s.Stores granted) (b : HeadBody) (hc : s.filter.context = none)
    (hlen : b.length.toNat ≤ 64) (hst : s.member.station ≠ .config) : (s.filterHead b).Stores granted := by
  obtain ⟨places, -, younger, entries, rings, engine, closed, -, subscriptions, config⟩ := h.store
  have hclosed := closed hc
  unfold State.filterHead
  dsimp only
  split
  next ring hv ht =>
    have hroom : placesUsed s.delivery.store + (b.length.toNat + 1) ≤ 384 ∧ 1 ≤ (s.delivery.ring ring).freeSlots := by
      unfold State.verdict at hv
      rw [ht] at hv
      dsimp only at hv
      split at hv
      · cases hv
      split at hv
      · cases hv
      split at hv
      · cases hv
      next hfree => simp only [Delivery.freePlaces] at hfree; lia
    obtain ⟨hplaces, hslots⟩ := hroom
    simp only [DeliveryRing.freeSlots] at hslots
    have hring := rings ring
    have hnew : ∀ q, Delivery.reservations (s.delivery.store ++
        [{ state := .filling, source := b.source, stream := b.stream, seq := b.seq, length := b.length, ring := ring,
           epoch := s.member.epoch, payload := [] }]) q =
        Delivery.reservations s.delivery.store q + if ring = q then 1 else 0 := fun q => Delivery.reservations_append _ _ q
    refine ⟨⟨?_, ?_, ?_, ?_, ?_, ?_, nofun, ?_, ⟨subscriptions.1, subscriptions.2.1, ?_⟩, fun k => absurd k hst⟩, ?_⟩
    · simp only [State.takeRoom, Delivery.setRing_store, placesUsed_append]
      exact hplaces
    · simpa [State.takeRoom] using hclosed
    · intro x hx
      simp only [State.takeRoom, Delivery.setRing_store] at hx
      rw [List.tail_append] at hx
      split at hx
      · cases hx
      · rcases List.mem_append.mp hx with hx | hx
        · exact younger x hx
        · rw [List.mem_singleton.mp hx]; simp
    · intro x hx
      rcases List.mem_append.mp hx with hx | hx
      · exact entries x hx
      · rw [List.mem_singleton.mp hx]; exact ⟨hlen, fun hne => absurd rfl hne⟩
    · exact State.Holds.rings_set h.store { s.delivery with store := s.delivery.store ++ _ } rfl _ _
        (hring.counts_to _ _ (by rw [hnew, if_pos rfl]; have := hring.reserved; dsimp only [Delivery.ring] at this ⊢; lia)
          (by have := hring.counts; dsimp only [Delivery.ring] at this hslots ⊢; lia))
        fun q hq => by rw [hnew, if_neg (Ne.symm hq)]; rfl
    · rcases hs : s.delivery.store with _ | ⟨o, older⟩
      · refine Delivery.settled_idle ?_ (by simp [State.takeRoom, hs])
        have := engine
        unfold Delivery.Settled at this
        rw [Delivery.engineSound_iff] at this
        rcases this with ⟨hi, -⟩ | ⟨_, _, _, _, _, _, hcons, -⟩ | ⟨_, _, _, _, _, hcons, -⟩
        · exact hi
        · simp [hs] at hcons
        · simp [hs] at hcons
      · exact engine.congr rfl (by simp [State.takeRoom, hs])
          (Delivery.setRing_writeIndex s.delivery _ rfl ring _ rfl)
    · rintro _ ⟨⟩
      exact ⟨Nat.zero_le _, hlen, fun _ => ⟨_, _, rfl, rfl, rfl, rfl, rfl, rfl, ht.symm, fun _ => rfl⟩, fun hno => absurd hv hno⟩
    · exact State.Holds.subscriptions_set h.store { s.delivery with store := s.delivery.store ++ _ } rfl _ _ rfl
    · exact h.bus
  next hother =>
    refine ⟨{ h.store with closed := nofun, opened := ?_ }, h.bus⟩
    rintro _ ⟨⟩
    refine ⟨Nat.zero_le _, hlen, fun hv => ?_, fun _ => hclosed⟩
    cases ht : s.filter.target b.stream with
    | some ring => exact (hother ring hv ht).elim
    | none =>
      dsimp only at hv
      unfold State.verdict at hv
      rw [ht] at hv
      split at hv <;> cases hv

end Filter

end Sys2Proof.Machine
end

section
/-! PROOF. The delivery engine keeps the invariant: the beginning of a delivery, its phases and its ends, and the closing of a
record, which may begin one (R85 to R91, R105 to R114). -/

namespace Sys2Proof.Machine

section Engine
variable {granted : Prop} {s : State}

/-- The engine's request of a phase stands and is granted when the bus is free. -/
theorem State.requestPhase_serves {loading fetching : Prop} (h : s.bus.Serves granted loading fetching False) (phase : Phase)
    (ring : BitVec 2) (slot : Nat) (length : BitVec 7) (hlen : phase = .body → length ≠ 0) :
    (s.requestPhase phase ring slot length).bus.Serves True loading fetching True := by
  cases phase
  case body => exact h.requestDelivery s.now _ _ (payloadWords_pos _ (hlen rfl))
  case header1 => exact h.requestDelivery s.now _ _ Nat.one_pos
  case header0 => exact h.requestDelivery s.now _ _ Nat.one_pos

/-- The open context's record is not the oldest entry when that is not FILLING. -/
theorem RecordContext.SoundFor.oldest {c : RecordContext} {e e' : StoreEntry} {rest : List StoreEntry}
    (h : c.SoundFor (e :: rest)) (he : e.state ≠ .filling) (he' : e'.state ≠ .filling) : c.SoundFor (e' :: rest) := by
  refine ⟨h.next, h.expected, fun hv => ?_, fun hv x hx => ?_⟩
  · obtain ⟨older, x, hs, hf, k⟩ := h.fills hv
    rcases older with _ | ⟨o, older⟩
    · simp only [List.nil_append, List.cons.injEq] at hs
      rw [hs.1] at he; exact absurd hf he
    · simp only [List.cons_append, List.cons.injEq] at hs
      exact ⟨e' :: older, x, by rw [hs.2]; rfl, hf, k⟩
  · rcases List.mem_cons.mp hx with rfl | hx
    · exact he'
    · exact h.others hv x (List.mem_cons_of_mem _ hx)

theorem RecordContext.SoundFor.tail {c : RecordContext} {e : StoreEntry} {rest : List StoreEntry}
    (h : c.SoundFor (e :: rest)) (he : e.state ≠ .filling) : c.SoundFor rest := by
  refine ⟨h.next, h.expected, fun hv => ?_, fun hv x hx => h.others hv x (List.mem_cons_of_mem _ hx)⟩
  obtain ⟨older, x, hs, hf, k⟩ := h.fills hv
  rcases older with _ | ⟨o, older⟩
  · simp only [List.nil_append, List.cons.injEq] at hs
    rw [hs.1] at he; exact absurd hf he
  · simp only [List.cons_append, List.cons.injEq] at hs
    exact ⟨older, x, hs.2, hf, k⟩

/-- The oldest entry, which is not FILLING, passes to another such state. -/
theorem State.Holds.oldest {ready ready' : Delivery → Prop} (h : s.Holds ready) (e : StoreEntry) (rest : List StoreEntry)
    (hs : s.delivery.store = e :: rest) (he : e.state ≠ .filling) (x : EntryState) (hx : x ≠ .filling) (engine : Engine)
    (hready : ready' { s.delivery with store := { e with state := x } :: rest, engine := engine }) :
    State.Holds ready'
      { s with delivery := { s.delivery with store := { e with state := x } :: rest, engine := engine } } := by
  obtain ⟨places, older, younger, entries, rings, -, closed, opened, subscriptions, config⟩ := h
  rw [hs] at places older younger entries closed opened config
  refine ⟨places, ?_, younger, ?_, fun q => ?_, hready, fun k y hy => ?_, fun c hc => (opened c hc).oldest he hx, subscriptions,
    fun k => nomatch (config k).1⟩
  · rcases rest with _ | ⟨o, rest⟩
    · simp
    · rintro y (_ | ⟨_, hy⟩)
      · exact hx
      · exact older y (List.mem_cons_of_mem _ hy)
  · rintro y (_ | ⟨_, hy⟩)
    · exact ⟨(entries e (by simp)).1, fun _ => (entries e (by simp)).2 he⟩
    · exact entries y (List.mem_cons_of_mem _ hy)
  · have := rings q
    rw [hs, Delivery.reservations_cons] at this
    rw [Delivery.reservations_cons]; exact this
  · rcases List.mem_cons.mp hy with rfl | hy
    · exact hx
    · exact closed k y (List.mem_cons_of_mem _ hy)

/-- The oldest entry, which is not FILLING, leaves the store with its reservation; its ring's other counts may change. -/
theorem State.Holds.dropOldest {ready ready' : Delivery → Prop} (h : s.Holds ready) (e : StoreEntry)
    (rest : List StoreEntry) (hs : s.delivery.store = e :: rest) (he : e.state ≠ .filling) (engine : Engine)
    (x : DeliveryRing) (hslots : x.slots = (s.delivery.ring e.ring).slots)
    (hx : x.SoundFor (Delivery.reservations rest e.ring))
    (hready : ready' (Delivery.setRing { s.delivery with store := rest, engine := engine } e.ring x)) :
    State.Holds ready'
      { s with delivery := Delivery.setRing { s.delivery with store := rest, engine := engine } e.ring x } := by
  have hother := h.rings_set { s.delivery with store := rest, engine := engine } rfl e.ring x hx
    (fun q hq => by rw [hs, Delivery.reservations_cons, if_neg (Ne.symm hq)]; rfl)
  have hsub := h.subscriptions_set { s.delivery with store := rest, engine := engine } rfl e.ring x hslots
  obtain ⟨places, older, younger, entries, -, -, closed, opened, subscriptions, config⟩ := h
  rw [hs] at places older younger entries closed opened config
  rw [placesUsed_cons] at places
  refine ⟨by simp only [Delivery.setRing_store]; lia, fun y hy => ?_, fun y hy => younger y (List.mem_of_mem_tail hy),
    fun y hy => entries y (List.mem_cons_of_mem _ hy), hother, hready, fun k y hy => closed k y (List.mem_cons_of_mem _ hy),
    fun c hc => (opened c hc).tail he, ⟨subscriptions.1, subscriptions.2.1, hsub⟩, fun k => nomatch (config k).1⟩
  rcases rest with _ | ⟨o, rest⟩
  · simp [Delivery.setRing] at hy
  · exact older y (List.mem_cons_of_mem _ hy)

/-- A delivery begins when the engine is IDLE and the oldest entry is COMPLETE (R105). -/
theorem State.beginDelivery_stores (h : s.Holds Delivery.Awaiting) (hb : s.BusServes granted) :
    s.beginDelivery.Stores granted := by
  have hready := h.engine
  unfold State.beginDelivery
  split
  next e rest hi hs =>
    have hdelivering : e.state ≠ .delivering := by
      rcases hready with k | ⟨-, k⟩
      · rw [Delivery.Settled, Delivery.engineSound_iff] at k
        rcases k with ⟨-, k⟩ | ⟨_, _, _, _, _, hd, -⟩ | ⟨_, _, _, _, hd, -⟩
        · have := k e (by simp [hs]); simp [this]
        · rw [hi] at hd; cases hd
        · rw [hi] at hd; cases hd
      · exact k e (by simp [hs])
    split
    next hc =>
      have hfree : s.bus.Serves granted (s.host.loading = true) (s.send.head = some .fetching) False :=
        hb.of_work Iff.rfl Iff.rfl (by simp [hi, Engine.code])
      have hphase : ∀ phase : Phase, phase = (if e.length = 0 then .header1 else .body) → phase = .body → e.length ≠ 0 := by
        rintro _ rfl hp hl
        rw [if_pos hl] at hp; cases hp
      dsimp only
      generalize hslot : (s.delivery.ring e.ring).writeIndex = slot
      generalize hp : (if e.length = 0 then Phase.header1 else Phase.body) = phase
      have hwork := State.requestPhase_serves
        (s := { s with delivery := { s.delivery with
          store := { e with state := .delivering } :: rest, engine := .delivering phase e.ring slot } })
        hfree phase e.ring slot e.length (hphase phase hp.symm)
      obtain ⟨bus, hbus⟩ := State.requestPhase_frame
        { s with delivery := { s.delivery with
          store := { e with state := .delivering } :: rest, engine := .delivering phase e.ring slot } }
        phase e.ring slot e.length
      rw [hbus] at hwork ⊢
      refine ⟨{ h.oldest (ready' := Delivery.Settled) e rest hs (by simp [hc]) .delivering (by simp) _ ?_ with },
        hwork.loosen.of_work Iff.rfl Iff.rfl (by simp [Engine.code])⟩
      refine (Delivery.engineSound_iff _).mpr (.inr (.inl ⟨_, _, _, _, _, rfl, rfl, rfl, rfl, hslot.symm, ?_⟩))
      by_cases hl : e.length = 0
      · exact .inl (by rw [← hp, if_pos hl]; nofun)
      · exact .inr hl
    next hc =>
      refine ⟨{ h with engine := Delivery.settled_idle hi fun x hx => ?_ }, hb⟩
      have : x = e := by simpa [hs, eq_comm] using hx
      subst this
      cases hstate : x.state <;> simp_all
  next hno =>
    refine ⟨{ h with engine := ?_ }, hb⟩
    rcases hready with k | ⟨hi, -⟩
    · exact k
    · rcases hs : s.delivery.store with _ | ⟨e, rest⟩
      · exact Delivery.settled_idle hi (by simp [hs])
      · exact (hno e rest hi hs).elim

/-- What a closing that neither damages nor commits says of the verdict. -/
theorem RecordContext.verdict_of_closing {c : RecordContext} {b : TailBody} (hd : c.closing b ≠ .damaged)
    (hk : c.closing b ≠ .committed) : c.verdict ≠ .accepting := by
  intro hv
  unfold RecordContext.closing at hd hk
  rw [hv] at hd hk
  split at hd <;> simp_all

theorem RecordContext.verdict_of_committed {c : RecordContext} {b : TailBody} (hk : c.closing b = .committed) :
    c.damaged = false ∧ c.tailMatches b = true ∧ c.verdict = .accepting := by
  unfold RecordContext.closing at hk
  split at hk
  · cases hk
  next hd => exact ⟨by simp_all, by simp_all, by cases hv : c.verdict <;> simp_all⟩

theorem State.Stores.setCounters (h : s.Stores granted) (counters : Counters) :
    State.Stores granted { s with counters := counters } := ⟨{ h.store with }, h.bus⟩

/-- A record is closed at its TAIL (R86 to R90). -/
theorem State.Stores.close (h : s.Stores granted) (c : RecordContext) (hc : s.filter.context = some c) (b : TailBody) :
    (s.close c (c.closing b)).Stores granted := by
  unfold State.close
  split
  · exact (h.giveBack c hc).countDamaged
  next hk =>
    obtain ⟨hdamaged, hmatch, hv⟩ := RecordContext.verdict_of_committed hk
    have hnext : c.next = c.expected.toNat := by
      simp only [RecordContext.tailMatches, Bool.and_eq_true, beq_iff_eq] at hmatch
      exact hmatch.2
    have k := h.store.opened c hc
    obtain ⟨older, e, hs, hf, -, -, -, hlen, -, hpayload⟩ := k.fills hv
    have hengine := h.store.engine
    obtain ⟨places, hnotFilling, younger, entries, rings, -, -, -, subscriptions, config⟩ := h.store
    have hres : ∀ q, Delivery.reservations (older ++ [{ e with state := .complete }]) q =
        Delivery.reservations s.delivery.store q := fun q => by rw [hs]; simp only [Delivery.reservations_append]
    rw [hs] at places hnotFilling younger entries
    rw [List.dropLast_concat] at hnotFilling
    rw [placesUsed_append] at places
    dsimp only
    rw [hs, completeNewest_append]
    refine State.beginDelivery_stores (s := State.countAccepted (State.closeContext (State.setDuplicate
      { s with delivery := { s.delivery with store := older ++ [{ e with state := .complete }] } } c.source (some c.seq)))) ?_ h.bus
    refine ⟨?_, ?_, ?_, ?_, fun q => ?_, ?_, ?_, nofun, subscriptions, fun k => ?_⟩
    · show placesUsed (older ++ _) ≤ 384
      rw [placesUsed_append]; exact places
    · intro x hx
      exact hnotFilling x (by simpa [State.countAccepted, State.closeContext, State.setDuplicate] using hx)
    · intro x (hx : x ∈ (older ++ _).tail)
      rcases older with _ | ⟨o, older⟩
      · simp at hx
      · rcases List.mem_append.mp hx with hx | hx
        · exact younger x (List.mem_append_left _ hx)
        · rw [List.mem_singleton.mp hx]; simp
    · intro x hx
      rcases List.mem_append.mp hx with hx | hx
      · exact entries x (List.mem_append_left _ hx)
      · rw [List.mem_singleton.mp hx]
        exact ⟨(entries e (by simp)).1, fun _ => (hpayload hdamaged).trans (by rw [hnext, hlen])⟩
    · show ((s.delivery.ring q)).SoundFor (Delivery.reservations (older ++ _) q)
      rw [hres]; exact rings q
    · rcases older with _ | ⟨o, older⟩
      · exact .inr ⟨hengine.filling e (by simp [hs]) hf, by simp [State.countAccepted, State.closeContext, State.setDuplicate]⟩
      · exact .inl (hengine.congr rfl (by simp [State.countAccepted, State.closeContext, State.setDuplicate, hs]) fun _ => rfl)
    · intro _ x hx
      rcases List.mem_append.mp hx with hx | hx
      · exact hnotFilling x hx
      · rw [List.mem_singleton.mp hx]; simp
    · have := (config k).1
      simp [hs] at this
  next hk => exact (h.closeContext c hc (RecordContext.verdict_of_closing (b := b) (by simp [hk]) (by simp [hk])) _).setCounters _
  next hk => exact (h.closeContext c hc (RecordContext.verdict_of_closing (b := b) (by simp [hk]) (by simp [hk])) _).setCounters _
  next hk => exact h.closeContext c hc (RecordContext.verdict_of_closing (b := b) (by simp [hk]) (by simp [hk])) _

theorem State.Stores.filterTail (h : s.Stores granted) (b : TailBody) : (s.filterTail b).Stores granted := by
  unfold State.filterTail
  split
  · exact h
  next c hc => exact h.close c hc b

/-! ### The ends of a delivery (R108, R110, R112, R113) -/

/-- The request of the delivery has ended; the engine has still to go on. -/
structure State.DeliveryEnded (granted : Prop) (s : State) : Prop where
  store : s.Holds Delivery.Settled
  bus   : s.bus.Serves granted (s.host.loading = true) (s.send.head = some .fetching) False

/-- The oldest entry leaves the store with its reservation, filling a slot or not, and the next delivery begins. -/
theorem State.beginNext_stores (h : s.Holds Delivery.Settled)
    (hb : s.bus.Serves granted (s.host.loading = true) (s.send.head = some .fetching) False) (e : StoreEntry)
    (rest : List StoreEntry) (hs : s.delivery.store = e :: rest) (he : e.state ≠ .filling) (x : DeliveryRing)
    (hslots : x.slots = (s.delivery.ring e.ring).slots) (hx : x.SoundFor (Delivery.reservations rest e.ring)) (event : Event) :
    (State.post { s with delivery := Delivery.setRing { s.delivery with store := rest, engine := .idle } e.ring x }
      event).beginDelivery.Stores granted := by
  have hyoung := h.younger
  rw [hs] at hyoung
  refine State.beginDelivery_stores (s := State.post
    { s with delivery := Delivery.setRing { s.delivery with store := rest, engine := .idle } e.ring x } event) ?_ ?_
  · refine { h.dropOldest (ready' := Delivery.Awaiting) e rest hs he .idle x hslots hx ?_ with }
    refine .inr ⟨rfl, fun y hy => hyoung y ?_⟩
    exact List.mem_of_mem_head? hy
  · exact hb.of_work Iff.rfl Iff.rfl (by simp [State.post, Delivery.setRing, Engine.code])

/-- What the engine's work says of the oldest entry. -/
theorem Delivery.Settled.delivers {d : Delivery} (h : d.Settled) {phase : Phase} {ring : BitVec 2} {slot : Nat}
    (hd : d.engine = .delivering phase ring slot) : ∃ e rest, d.Delivers phase ring slot e rest := by
  rw [Delivery.Settled, Delivery.engineSound_iff] at h
  rcases h with ⟨hi, -⟩ | ⟨_, _, _, e, rest, k⟩ | ⟨_, _, _, _, hh, -⟩
  · rw [hi] at hd; cases hd
  · have hk := k.1
    rw [hd] at hk; cases hk
    exact ⟨e, rest, k⟩
  · rw [hh] at hd; cases hd

theorem Delivery.Settled.halts {d : Delivery} (h : d.Settled) {ring : BitVec 2} {slot : Nat}
    (hd : d.engine = .halted ring slot) : ∃ e rest, d.Halts ring slot e rest := by
  rw [Delivery.Settled, Delivery.engineSound_iff] at h
  rcases h with ⟨hi, -⟩ | ⟨_, _, _, _, _, hh, -⟩ | ⟨_, _, e, rest, k⟩
  · rw [hi] at hd; cases hd
  · rw [hh] at hd; cases hd
  · have hk := k.1
    rw [hd] at hk; cases hk
    exact ⟨e, rest, k⟩

/-- An entry of the store has its reservation, and so its ring is used. -/
theorem State.Holds.reserved {ready : Delivery → Prop} (h : s.Holds ready) (e : StoreEntry) (rest : List StoreEntry)
    (hs : s.delivery.store = e :: rest) :
    (s.delivery.ring e.ring).reserved = Delivery.reservations rest e.ring + 1 ∧ (s.delivery.ring e.ring).writeIndex < (s.delivery.ring e.ring).slots ∧
      2 ≤ (s.delivery.ring e.ring).slots := by
  have hr := h.rings e.ring
  have hreserved := hr.reserved
  have hcounts := hr.counts
  rw [hs, Delivery.reservations_cons, if_pos rfl] at hreserved
  rcases hr.slots with hz | hn <;> lia

theorem State.DeliveryEnded.completeDelivery (h : s.DeliveryEnded granted) {phase : Phase} {ring : BitVec 2} {slot : Nat}
    (hd : s.delivery.engine = .delivering phase ring slot) : s.completeDelivery.Stores granted := by
  obtain ⟨e, rest, -, hs, hstate, rfl, rfl, -⟩ := Delivery.Settled.delivers h.store.engine hd
  obtain ⟨hreserved, hindex, hslots⟩ := h.store.reserved e rest hs
  have hr := h.store.rings e.ring
  unfold State.completeDelivery
  rw [hd, hs]
  refine State.beginNext_stores h.store h.bus e rest hs (by simp [hstate]) (s.delivery.ring e.ring).afterDelivery rfl ?_ _
  have hcounts := hr.counts
  refine ⟨.inr ⟨hslots, ?_, Nat.mod_lt _ (by lia)⟩, ?_, ?_, hr.base⟩
  · rcases hr.slots with hz | hn
    · lia
    · exact hn.2.1
  · simp only [DeliveryRing.afterDelivery]; lia
  · simp only [DeliveryRing.afterDelivery]; lia

theorem State.DeliveryEnded.completed (h : s.DeliveryEnded granted) (hcode : s.delivery.engine.code = 1) :
    s.deliveryRequestCompleted.Stores granted := by
  have next : ∀ (phase next : Phase) (ring : BitVec 2) (slot : Nat), next ≠ .body →
      s.delivery.engine = .delivering phase ring slot →
      (State.requestPhase { s with delivery := { s.delivery with engine := .delivering next ring slot } } next ring slot
        0).Stores granted := by
    intro phase next ring slot hnext hd
    obtain ⟨e, rest, -, hs, hstate, hring, hslot, -⟩ := Delivery.Settled.delivers h.store.engine hd
    have hwork := State.requestPhase_serves
      (s := { s with delivery := { s.delivery with engine := .delivering next ring slot } }) h.bus next ring slot 0
      (fun k => absurd k hnext)
    obtain ⟨bus, hbus⟩ := State.requestPhase_frame
      { s with delivery := { s.delivery with engine := .delivering next ring slot } } next ring slot 0
    rw [hbus] at hwork ⊢
    refine ⟨{ h.store with engine := ?_ }, hwork.loosen.of_work Iff.rfl Iff.rfl (by simp [Engine.code])⟩
    exact (Delivery.engineSound_iff _).mpr (.inr (.inl ⟨_, _, _, _, _, rfl, hs, hstate, hring, hslot, .inl hnext⟩))
  unfold State.deliveryRequestCompleted
  split
  next ring slot hd => exact next _ .header1 ring slot nofun hd
  next ring slot hd => exact next _ .header0 ring slot nofun hd
  next hd => exact h.completeDelivery hd
  next h1 h2 h3 =>
    cases hd : s.delivery.engine with
    | idle => simp [hd, Engine.code] at hcode
    | halted ring slot => simp [hd, Engine.code] at hcode
    | delivering phase ring slot =>
      cases phase
      · exact (h1 _ _ hd).elim
      · exact (h2 _ _ hd).elim
      · exact (h3 _ _ hd).elim

theorem State.DeliveryEnded.failed (h : s.DeliveryEnded granted) (hcode : s.delivery.engine.code = 1) (cause : BusCause)
    (address : Word) : (s.failDelivery cause address).Stores granted := by
  cases hd : s.delivery.engine with
  | idle => simp [hd, Engine.code] at hcode
  | halted ring slot => simp [hd, Engine.code] at hcode
  | delivering phase ring slot =>
    obtain ⟨e, rest, -, hs, hstate, hring, hslot, -⟩ := Delivery.Settled.delivers h.store.engine hd
    unfold State.failDelivery
    rw [hd, hs]
    refine ⟨{ h.store.oldest (ready' := Delivery.Settled) e rest hs (by simp [hstate]) .complete (by simp) (.halted ring slot) ?_ with },
      h.bus.of_work Iff.rfl Iff.rfl (by simp [State.post, Engine.code])⟩
    exact (Delivery.engineSound_iff _).mpr (.inr (.inr ⟨_, _, _, _, rfl, rfl, rfl, hring, hslot⟩))

theorem State.Stores.resumeDelivery (h : s.Stores granted) {ring : BitVec 2} {slot : Nat}
    (hd : s.delivery.engine = .halted ring slot) : s.resumeDelivery.Stores granted := by
  obtain ⟨e, rest, -, hs, hstate, -⟩ := Delivery.Settled.halts h.store.engine hd
  refine State.beginDelivery_stores (s := { s with delivery := { s.delivery with engine := .idle } }) ?_ ?_
  · exact { h.store with engine := .inr ⟨rfl, by simp [hs, hstate]⟩ }
  · exact h.bus.of_work Iff.rfl Iff.rfl (by simp [hd, Engine.code])

theorem State.Stores.skipDelivery (h : s.Stores granted) {ring : BitVec 2} {slot : Nat}
    (hd : s.delivery.engine = .halted ring slot) : s.skipDelivery.Stores granted := by
  obtain ⟨e, rest, -, hs, hstate, -⟩ := Delivery.Settled.halts h.store.engine hd
  obtain ⟨hreserved, -, -⟩ := h.store.reserved e rest hs
  have hr := h.store.rings e.ring
  have hcounts := hr.counts
  unfold State.skipDelivery
  rw [hd, hs]
  refine State.beginNext_stores h.store (h.bus.of_work Iff.rfl Iff.rfl (by simp [hd, Engine.code])) e rest hs (by simp [hstate])
    (s.delivery.ring e.ring).unreserve rfl ?_ _
  exact hr.counts_to _ _ (by lia) (by lia)

/-- Filled slots pass back to the controller (R114). -/
theorem State.Stores.releaseSlots (h : s.Stores granted) (ring : BitVec 2) (n : Nat) : (s.releaseSlots ring n).Stores granted := by
  have hr := h.store.rings ring
  have hcounts := hr.counts
  have hsubs := h.store.subscriptions
  refine ⟨{ h.store with
    rings := h.store.rings_set s.delivery rfl ring _ (hr.counts_to _ _ hr.reserved (by lia)) fun _ _ => rfl
    engine := Delivery.Settled.congr h.store.engine rfl rfl (Delivery.setRing_writeIndex s.delivery s.delivery rfl ring _ rfl)
    subscriptions := ⟨hsubs.1, hsubs.2.1, h.store.subscriptions_set s.delivery rfl ring _ rfl⟩ }, h.bus⟩

end Engine
end Sys2Proof.Machine
end

section
/-! PROOF. Frames from upstream keep the invariant of the forwarding path and the ring output (R18 to R21): cut-through, the
bypass buffer, which never holds more than 66 frames, and a TRIGGER that goes ahead. -/

namespace Sys2Proof.Machine

/-! ### Operations that touch the record filter, the store and the input phase alone -/

theorem State.SoundIn.stores {st : StationState} {s : State} (h : s.SoundIn st) : s.Stores True :=
  ⟨(s.storeSound_iff.mp h.store).1, h.bus⟩

/-- What changes the record filter, the delivery, the bus master, the event queue and the counters alone keeps the rest of the
invariant. -/
theorem State.SoundIn.of_stores {st : StationState} {s t : State} (h : s.SoundIn st) (k : t.Stores True)
    (hf : ∃ filter delivery bus events counters,
      t = { s with filter := filter, delivery := delivery, bus := bus, events := events, counters := counters })
    (hc : ∀ c, t.filter.context = some c → s.path.phase = .forwarding) : t.SoundIn st := by
  obtain ⟨_, _, _, _, _, rfl⟩ := hf
  exact { h with store := (State.storeSound_iff _).mpr ⟨k.store, hc⟩, bus := k.bus }

/-- The input phase where no record context is open. -/
theorem State.SoundIn.setPhase {st : StationState} {s : State} (h : s.SoundIn st) (p : InputPhase)
    (hc : s.filter.context = none ∨ p = .forwarding) (hring : p ≠ .clear → s.onRing = true) : (s.setPhase p).SoundIn st := by
  obtain ⟨short, census, -, record, within⟩ := h.path
  exact { h with
    store := (State.storeSound_iff _).mpr
      ⟨{ (s.storeSound_iff.mp h.store).1 with }, fun c k => by
        rcases hc with hc | hc
        · rw [State.setPhase, hc] at k; cases k
        · exact hc⟩
    path := ⟨short, census, hring, record, within⟩ }

/-! ### Cut-through and the bypass buffer (R18, R19) -/

section Forward
variable {st : StationState} {s : State} (h : s.SoundIn st) (k : s.Fresh)
include h k

theorem State.SoundIn.cutThrough (f : Frame) : (s.cutThrough f).SoundIn st := by
  obtain ⟨busy, waits, lag, total⟩ := h.backlog
  obtain ⟨waiting, nextFrame, free, ahead⟩ := k
  unfold State.cutThrough
  split
  next hfree =>
    have hb : s.boundary = s.now := Nat.max_eq_left hfree
    refine { h with backlog := ⟨fun _ => ?_, fun hw => ?_, ?_, ?_⟩, sent := ?_ }
    · show s.now ≤ s.now + 80; lia
    · simp [State.startAt, waiting] at hw
    · show s.now + 80 ≤ max s.now s.receiver.nextFrame + 80; lia
    · show s.now + 80 + 80 * s.path.backlog ≤ max s.now s.receiver.nextFrame + 5280
      by_cases hz : s.path.backlog = 0
      · rw [hz]; lia
      · have := busy hz; lia
    · exact h.sent.started f false (by rw [hb]; rfl) (by rw [hb]; rfl) (by rw [hb]; exact Nat.le_add_right _ _)
  next hfree =>
    have hb : s.path.backlog = s.path.bypass.length + 0 + s.path.insertion.elim 0 (fun i => i.length.toNat - i.next + 1) := by
      simp [Path.backlog, waiting]
    refine { h with backlog := ⟨fun _ => ?_, fun _ => ?_, ?_, ?_⟩ }
    · show s.now ≤ s.path.freeAt; lia
    · show s.path.freeAt ≤ s.receiver.nextFrame; lia
    · exact lag
    · show s.path.freeAt + 80 * (s.path.bypass.length + 1 + _) ≤ max s.now s.receiver.nextFrame + 5280
      lia

/-- The oldest frame of the bypass buffer has gone out where its boundary has come: what is left to send still goes out as
soon as the state says. -/
theorem State.SoundIn.drainAtBoundary (hst : st = s.member.station) :
    s.drainAtBoundary.SoundIn st ∧ s.drainAtBoundary.Fresh ∧
      (s.drainAtBoundary.path.freeAt ≤ s.drainAtBoundary.now → s.drainAtBoundary.nextItem ≠ some .buffered) := by
  unfold State.drainAtBoundary
  split
  next hd =>
    obtain ⟨hi, hfree⟩ := hd
    subst hst
    have hsound := State.Sound.sendItem h .buffered hi
    obtain ⟨hnow, hnext⟩ := s.sendItem_output .buffered hi
    obtain ⟨-, hw, f, rest, hq⟩ := s.nextItem_ready .buffered hi
    have hb : s.boundary = s.now := Nat.max_eq_left hfree
    have hlen : s.path.backlog = (s.sendItem .buffered).path.backlog + 1 := by
      rw [s.sendItem_buffered f rest hq]; simp [Path.backlog, State.sent, hq]; lia
    have hbusy := h.backlog.1 (by lia)
    have hlag := k.lag
    have hst' : (s.sendItem .buffered).member.station = s.member.station := by
      rw [s.sendItem_buffered f rest hq]; rfl
    show (s.sendItem .buffered).SoundIn _ ∧ (s.sendItem .buffered).Fresh ∧
      ((s.sendItem .buffered).path.freeAt ≤ (s.sendItem .buffered).now → _)
    rw [hnow, hnext, hb]
    simp only [frameTime] at hnext ⊢
    refine ⟨by rw [← hst']; exact hsound, ⟨?_, ?_, ?_, ?_⟩, fun hle => by lia⟩
    · rw [s.sendItem_buffered f rest hq]; exact hw
    · rw [(s.sendItem_passes .buffered).receiver, hnow, hb]; exact k.nextFrame
    · rw [hnow, hnext, hb]
    · rw [hnow, hnext, hb]; lia
  next hd => exact ⟨h, k, fun hle hi => hd ⟨hi, hle⟩⟩

/-- Where the oldest frame of the bypass buffer cannot go out now, there is room for one more (R18). -/
theorem State.SoundIn.bypass_room (hst : st = s.member.station)
    (hdrained : s.path.freeAt ≤ s.now → s.nextItem ≠ some .buffered) : s.path.bypass.length ≤ 65 := by
  subst hst
  obtain ⟨busy, -, -, -⟩ := h.backlog
  have hlag := k.lag
  have hb : s.path.backlog = s.path.bypass.length + 0 + s.path.insertion.elim 0 (fun i => i.length.toNat - i.next + 1) := by
    simp [Path.backlog, k.waiting]
  by_cases hfree : s.path.freeAt ≤ s.now
  · by_cases hq : s.path.bypass = []
    · simp [hq]
    · have hpos : 0 < s.path.bypass.length := List.length_pos_iff.mpr hq
      have hfree' := busy (by lia)
      have hins : s.path.insertion ≠ none := by
        intro hi
        have hm : s.mode ≠ .census := fun hm => hq (h.path.2.1 (State.mode_eq_census hm))
        refine hdrained hfree ?_
        unfold State.nextItem
        cases hmode : s.mode <;> simp_all [h.released, k.waiting]
      obtain ⟨i, hi⟩ := Option.ne_none_iff_exists'.mp hins
      rw [hi] at hb
      dsimp only [Option.elim] at hb
      lia
  · lia

/-- A frame joins the bypass buffer at its newest end while frames stand ready (R18). -/
theorem State.SoundIn.buffer (f : Frame) (hroom : s.path.bypass.length ≤ 65) (hcensus : s.member.station ≠ .census)
    (hbusy : s.path.bypass ≠ [] ∨ s.path.insertion.isSome ∨ s.carriesOwn = true) :
    State.SoundIn st { s with path := { s.path with bypass := s.path.bypass ++ [f] } } := by
  obtain ⟨busy, waits, lag, total⟩ := h.backlog
  obtain ⟨waiting, nextFrame, free, ahead⟩ := k
  obtain ⟨-, -, open_, record, within⟩ := h.path
  have hb : s.path.backlog = s.path.bypass.length + 0 + s.path.insertion.elim 0 (fun i => i.length.toNat - i.next + 1) := by
    simp [Path.backlog, waiting]
  have hnow : s.now ≤ s.path.freeAt := by
    rcases hbusy with hq | hi | hown
    · exact busy (by have := List.length_pos_iff.mpr hq; lia)
    · obtain ⟨i, hi⟩ := Option.isSome_iff_exists.mp hi
      rw [hi] at hb
      exact busy (by dsimp only [Option.elim] at hb; lia)
    · unfold State.carriesOwn at hown
      split at hown
      next g hg =>
        simp only [Bool.and_eq_true, decide_eq_true_eq] at hown
        unfold Path.freeAt
        rw [hg]; exact Nat.le_of_lt hown.2
      · cases hown
  refine { h with
    path := ⟨by simp; lia, fun hc => absurd hc hcensus, open_, record, within⟩
    backlog := ⟨fun _ => hnow, fun hw => ?_, lag, ?_⟩ }
  · simp [waiting] at hw
  · show s.path.freeAt + 80 * ((s.path.bypass ++ [f]).length + s.path.waiting.toList.length + _) ≤ _
    rw [waiting, List.length_append]
    simp only [List.length_singleton, Option.toList_none, List.length_nil]
    lia

theorem State.SoundIn.forward (hst : st = s.member.station) (f : Frame) (hcensus : s.member.station ≠ .census) :
    (s.forward f).SoundIn st := by
  obtain ⟨h', k', hdrained⟩ := h.drainAtBoundary k hst
  have hst' : s.drainAtBoundary.member.station = s.member.station := by
    obtain ⟨_, _, e⟩ := s.drainAtBoundary_frame
    rw [e]
  unfold State.forward
  dsimp only
  split
  next hbusy =>
    refine h'.buffer k' f (h'.bypass_room k' (hst.trans hst'.symm) hdrained) (by rw [hst']; exact hcensus) ?_
    simpa [List.isEmpty_iff, or_assoc] using hbusy
  · exact h'.cutThrough k' f

end Forward

/-! ### A TRIGGER that goes ahead (R19, R21) -/

/-- The frame on the output is another one, or one more follows it: the last start stays, or moves a frame time on. -/
theorem State.SentSound.replaced {s t : State} (h : s.SentSound) (g : OutputFrame) (hg : s.path.output = some g)
    (hends : g.ends = s.now + 80) (f : Frame) (hnow : t.now = s.now)
    (hring : t.outside.ringOut = s.outside.ringOut.dropLast ++ [{ frame := f, start := s.now }])
    (houtput : t.path.output = some { frame := f, own := false, ends := s.now + 80 }) : t.SentSound := by
  obtain ⟨apart, before, last⟩ := h
  have hlast := (last g hg).2
  rw [hends, Nat.add_sub_cancel] at hlast
  obtain ⟨init, hinit⟩ := List.getLast?_eq_some_iff.mp hlast
  have hb : s.boundary = s.now + 80 := by
    simp only [State.boundary, Path.freeAt, hg, hends]; lia
  have hb' : t.boundary = s.now + 80 := by
    simp only [State.boundary, Path.freeAt, houtput, hnow]; lia
  rw [hinit] at apart before hring
  rw [List.dropLast_concat] at hring
  rw [hb] at before
  unfold State.SentSound
  rw [hring, houtput, hb']
  obtain ⟨hinner, -, hcross⟩ := List.pairwise_append.mp apart
  refine ⟨List.pairwise_append.mpr ⟨hinner, List.pairwise_singleton _ _, fun a ha b hb => ?_⟩, fun a ha => ?_, ?_⟩
  · rw [List.mem_singleton.mp hb]; exact hcross a ha (SentFrame.mk g.frame s.now) (List.mem_singleton_self (SentFrame.mk g.frame s.now))
  · rcases List.mem_append.mp ha with ha | ha
    · exact before a (List.mem_append_left _ ha)
    · rw [List.mem_singleton.mp ha]
  · rintro _ ⟨⟩
    exact ⟨Nat.le_add_left _ _, by simp⟩

section Overtake
variable {st : StationState} {s : State} (h : s.SoundIn st)
include h

/-- A head that is not sent after all is offered again (R21, R58). -/
theorem State.SoundIn.takeBackHead (hhead : s.send.head = some .inFlight)
    (hcancel : s.send.cancelRequested = false) (hcontext : s.send.context = .closed ∨ s.send.context = .openStale) :
    State.Sends st True { s with
      path := { s.path with insertion := none }
      send := { s.send with head := some (if s.send.attempts ≤ 1 then .staged else .retryWait),
                            attempts := s.send.attempts - 1, returnTimer := none } } := by
  obtain ⟨hrun, hgap, hdisposition, hincoming⟩ := h.send.inFlight hhead
  obtain ⟨hlimit, -, hattempts, -⟩ := h.send.attempts
  have hq := h.send.queue_ne_nil _ hhead
  have hbound := hattempts hhead
  have hnot : ∀ x : HeadState, x = (if s.send.attempts ≤ 1 then .staged else .retryWait) →
      x ≠ .inFlight ∧ x ≠ .fetching := by
    rintro x rfl; split <;> simp
  refine ⟨⟨⟨iff_of_false nofun hq, iff_of_false nofun ?_, by simp [hgap], by simp [hcancel], by simp [hdisposition], ?_⟩,
    ⟨hlimit, ?_, ?_, ?_⟩, h.send.queue, fun _ => hrun, by simp [hrun], by simp [hrun], fun k => absurd hincoming k⟩,
    h.bus.of_work Iff.rfl (iff_of_false (by simp [hhead]) ?_) Iff.rfl⟩
  · simpa using (hnot _ rfl).1
  · rintro (k | k) <;> rcases hcontext with e | e <;> simp [e] at k
  · intro k
    dsimp only at k ⊢
    split at k
    · lia
    · simp at k
  · intro k; exact absurd (Option.some.inj k) (hnot _ rfl).1
  · intro k
    dsimp only at k ⊢
    split at k
    · simp at k
    · lia
  · simpa using (hnot _ rfl).2

/-- The staging buffer is an earlier record's again (R59). -/
theorem State.SoundIn.resumeTail (hfree : s.path.insertion = none) (i : Insertion) :
    SendUnit.SoundIn st (some i) s.send.unstage := by
  unfold SendUnit.unstage
  split
  next hhead =>
    obtain ⟨short, buffer, entries⟩ := h.send.queue
    exact { h.send with queue := ⟨short, by simpa using buffer, entries⟩, incoming := fun _ => ⟨rfl, hhead⟩ }
  · exact h.send.of_insertion fun k => by simp [hfree] at k

/-- An own frame that is not sent after all leaves one frame more to send at the most. -/
theorem State.SoundIn.takeBack (hring : s.onRing = true) (u : State) (own : Frame) (hu : s.takeBack own = some u) (k : s.Fresh)
    (hnow : s.now ≤ s.path.freeAt) : u.SoundIn st ∧ u.path.output = s.path.output ∧ u.path.waiting = s.path.waiting ∧
      u.path.backlog ≤ s.path.backlog + 1 := by
  obtain ⟨short, census, open_, record, within⟩ := h.path
  obtain ⟨number, timers, counts, ⟨frames, announce, depart⟩, config⟩ := h.member
  have hlag : ∀ t : State, t.path.output = s.path.output → t.path.waiting = s.path.waiting → t.now = s.now →
      t.receiver = s.receiver → t.path.backlog ≤ s.path.backlog + 1 → t.BacklogSound := by
    intro t ho hw ht hr hb
    have hfree : t.path.freeAt = s.path.freeAt := by simp only [Path.freeAt, ho]
    obtain ⟨waiting, nextFrame, free, lag⟩ := k
    unfold State.BacklogSound
    rw [hfree, hw, ht, hr, waiting, nextFrame]
    exact ⟨fun _ => hnow, nofun, by lia, by lia⟩
  have htrigger : s.trigger.own = .sent → ∀ own', own' ≠ OwnState.none →
      TriggerUnit.SoundIn st { s.trigger with own := own' } := by
    intro hown own' hne
    obtain ⟨schedule, pin, group, returnTimer, own⟩ := h.trigger
    have hne' : s.trigger.own ≠ .none := by rw [hown]; nofun
    exact ⟨schedule, pin, group.trans (iff_of_true hne' hne), returnTimer.trans (iff_of_true hne' hne), fun _ => own hne'⟩
  unfold State.takeBack at hu
  split at hu
  · split at hu <;> cases hu
    next hown => exact ⟨{ h with trigger := htrigger hown _ nofun }, rfl, rfl, Nat.le_succ _⟩
  · split at hu <;> cases hu
    next hown => exact ⟨{ h with member := ⟨number, timers, counts, ⟨frames, fun _ => hown.2, depart⟩, config⟩ }, rfl, rfl,
      Nat.le_succ _⟩
  · split at hu <;> cases hu
    next hown => exact ⟨{ h with member := ⟨number, timers, counts, ⟨frames, announce, fun _ => hown.2⟩, config⟩ }, rfl, rfl,
      Nat.le_succ _⟩
  · split at hu <;> cases hu
    next hown =>
      obtain ⟨-, hhead, hcancel, hcontext⟩ := hown
      have hsends := h.takeBackHead hhead hcancel hcontext
      have hb : Path.backlog { s.path with insertion := none } ≤ s.path.backlog + 1 := by simp [Path.backlog]; lia
      exact ⟨{ h with
        send := hsends.send, bus := hsends.bus, path := ⟨short, census, open_, nofun, nofun⟩
        backlog := hlag _ rfl rfl rfl rfl hb }, rfl, rfl, hb⟩
  · split at hu
    next i hi =>
      split at hu <;> cases hu
      next hnext =>
        obtain ⟨hle, hlen⟩ := within i hi
        have hb : Path.backlog { s.path with insertion := some { i with next := i.next - 1 } } ≤ s.path.backlog + 1 := by
          simp [Path.backlog, hi]; lia
        exact ⟨{ h with
          send := h.send.of_insertion fun _ => rfl
          path := ⟨short, census, open_, fun _ => hring, by rintro _ ⟨⟩; exact ⟨by dsimp only; lia, hlen⟩⟩
          backlog := hlag _ rfl rfl rfl rfl hb }, rfl, rfl, hb⟩
    · cases hu
  · split at hu <;> cases hu
    next b hfree =>
      have hb : (s.resumeTail b).path.backlog ≤ s.path.backlog + 1 := by
        simp [State.resumeTail, Path.backlog, hfree]
      have hhead : s.send.unstage.head = s.send.head := by unfold SendUnit.unstage; split <;> rfl
      exact ⟨{ h with
        send := h.resumeTail hfree _
        path := ⟨short, census, open_, fun _ => hring, by rintro _ ⟨⟩; exact ⟨Nat.zero_le _, Nat.zero_le _⟩⟩
        backlog := hlag _ rfl rfl rfl rfl hb
        bus := h.bus.of_work Iff.rfl (by rw [State.resumeTail, hhead]) Iff.rfl }, rfl, rfl, hb⟩
  · cases hu

/-- A TRIGGER takes the place of the own frame that began at this very moment (R21). -/
theorem State.SoundIn.displace (hring : s.onRing = true) (k : s.Fresh) (g : OutputFrame) (hg : s.path.output = some g)
    (hends : g.ends = s.now + 80) (f : Frame) : (s.displace g.frame f).SoundIn st := by
  have hfree : s.path.freeAt = s.now + 80 := by simp only [Path.freeAt, hg, hends]
  have hlag := k.lag
  unfold State.displace
  dsimp only
  split
  next u hu =>
    obtain ⟨h', ho, hw, hb⟩ := h.takeBack hring u g.frame hu k (by rw [hfree]; exact Nat.le_add_right _ _)
    obtain ⟨insertion, send, trigger, announce, depart, rfl⟩ := s.takeBack_frame u g.frame hu
    have hnext := k.nextFrame
    refine { h' with backlog := ⟨fun _ => ?_, fun hwait => ?_, ?_, ?_⟩, sent := h.sent.replaced g hg hends f rfl rfl rfl }
    · show s.now ≤ s.now + 80; lia
    · simp [k.waiting] at hwait
    · show s.now + 80 ≤ max s.now s.receiver.nextFrame + 80; lia
    · show s.now + 80 + 80 * Path.backlog { s.path with insertion := insertion } ≤ max s.now s.receiver.nextFrame + 5280
      dsimp only at hb
      lia
  next hu =>
    have hnext := k.nextFrame
    have hring' := h.sent.replaced (t := { s with
      path := { s.path with output := some { frame := f, own := false, ends := s.now + 80 } }
      outside := { s.outside with ringOut := s.outside.ringOut.dropLast ++ [{ frame := f, start := s.now }] } })
      g hg hends f rfl rfl rfl
    have hbound : State.boundary { s with
      path := { s.path with output := some { frame := f, own := false, ends := s.now + 80 } }
      outside := { s.outside with ringOut := s.outside.ringOut.dropLast ++ [{ frame := f, start := s.now }] } } =
        s.now + 80 := by simp only [State.boundary, Path.freeAt]; lia
    refine { h with
      send := ?_, backlog := ⟨fun _ => ?_, fun hwait => ?_, ?_, ?_⟩
      sent := hring'.started g.frame true (by rw [hbound]; rfl) (by rw [hbound]; rfl) (by rw [hbound]; show s.now ≤ s.now + 80 + 80; lia)
      bus := h.bus.of_work Iff.rfl (by dsimp only; split <;> rfl) Iff.rfl }
    · dsimp only
      split
      · obtain ⟨none_iff, returnTimer, gap, cancel, disposition, context⟩ := h.send.head
        exact { h.send with head := ⟨none_iff, by simpa using returnTimer, gap, cancel, disposition, context⟩ }
      · exact h.send
    · show s.now ≤ s.now + 80 + 80; lia
    · simp [k.waiting] at hwait
    · show s.now + 80 + 80 ≤ max s.now s.receiver.nextFrame + 80; lia
    · show s.now + 80 + 80 + 80 * s.path.backlog ≤ max s.now s.receiver.nextFrame + 5280; lia

/-- A forwarded TRIGGER goes ahead of the bypass buffer and of own insertions. -/
theorem State.SoundIn.overtake (hring : s.onRing = true) (k : s.Fresh) (f : Frame) : (s.overtake f).SoundIn st := by
  unfold State.overtake
  split
  next g hg =>
    split
    next hown => exact h.displace hring k g hg hown.2 f
    · exact h.cutThrough k f
  · exact h.cutThrough k f

end Overtake

end Sys2Proof.Machine
end

section
/-! PROOF. The membership unit keeps the invariant: the changes of forwarding mode (R10), census entry (R29 to R31), BARRED
(R43), and what they end in the send unit and the trigger unit (R30, R73, R127). -/

namespace Sys2Proof.Machine

/-! ### What stands ready for the output is no more than it was -/

theorem Path.backlog_empty_le (p : Path) (phase : InputPhase) (own : Option Frame) :
    Path.backlog { p with phase := phase, bypass := [], insertion := none, ownCensus := own } ≤ p.backlog := by
  simp [Path.backlog]; lia

theorem Path.backlog_closed_le (p : Path) (phase : InputPhase) (own : Option Frame) :
    Path.backlog { p with phase := phase, insertion := none, ownCensus := own } ≤ p.backlog := by
  simp [Path.backlog]

theorem State.enterCensus_eases (s : State) (cause : StateCause) : s.Eases (s.enterCensus cause) := by
  unfold State.enterCensus State.censusEntryLeaving State.censusEntry
  obtain ⟨p, f, d, u, m, c, _, hp, e⟩ := s.openCensus_frame
  rw [e]
  split
  · obtain ⟨u', b, ev, t, e'⟩ := State.ringLeft_frame _ s.onRing (some cause)
    rw [e']
    exact ⟨rfl, rfl, by rw [hp], by rw [hp], rfl, by rw [hp]; exact s.path.backlog_empty_le _ _⟩
  · obtain ⟨u', b, ev, t, e'⟩ := State.ringLeft_frame _ s.onRing (some cause)
    rw [e']
    exact ⟨rfl, rfl, by rw [hp]; rfl, by rw [hp]; rfl, rfl, by rw [hp]; exact s.path.backlog_empty_le _ _⟩

theorem State.censusEntry_eases (s : State) (cause : Option StateCause) : s.Eases (s.censusEntry cause) := by
  unfold State.censusEntry
  obtain ⟨p, f, d, u, m, c, _, hp, e⟩ := s.openCensus_frame
  rw [e]
  obtain ⟨u', b, ev, t, e'⟩ := State.ringLeft_frame _ s.onRing cause
  rw [e']
  exact ⟨rfl, rfl, by rw [hp]; rfl, by rw [hp]; rfl, rfl, by rw [hp]; exact s.path.backlog_empty_le _ _⟩

theorem State.enterBarred_eases (s : State) : s.Eases s.enterBarred := by
  unfold State.enterBarred
  dsimp only
  obtain ⟨u', b, ev, t, e'⟩ := State.ringLeft_frame _ s.onRing (some .markClash)
  rw [e']
  split
  · obtain ⟨f, d, u, e⟩ := s.leaveMode_frame
    rw [e]
    obtain ⟨f', d', _, e''⟩ := State.filterDiscard_frame
      { s with path := { s.path with phase := .clear, insertion := none }, filter := f, delivery := d, send := u }
    rw [e'']
    exact ⟨rfl, rfl, rfl, rfl, rfl, s.path.backlog_closed_le _ _⟩
  · exact ⟨rfl, rfl, rfl, rfl, rfl, Nat.le_refl _⟩

theorem State.truncate_eases (s : State) : s.Eases s.truncate := by
  obtain ⟨p, _, _, _, _, _, _, hp, e⟩ := s.truncate_frame
  rw [e, hp]
  exact ⟨rfl, rfl, rfl, rfl, rfl, Nat.le_refl _⟩

/-! ### Another station state -/

/-- The membership unit's items and its census frame are replaced; the send unit and the trigger unit fit the station state
`st'`. -/
theorem State.SoundIn.setMember {st st' : StationState} {s : State} (h : s.SoundIn st) (m : Membership) (own : Option Frame)
    (hmember : State.MemberSound { s with member := m, path := { s.path with ownCensus := own } })
    (hroster : State.RosterSound { s with member := m }) (hsend : s.send.SoundIn st' s.path.insertion)
    (htrigger : s.trigger.SoundIn st') (hconfig : m.station ≠ .config)
    (hring : s.path.phase = .clear ∧ s.path.insertion = none ∨ m.station.mode = .active)
    (hbypass : m.station = .census → s.path.bypass = []) :
    State.SoundIn st' { s with member := m, path := { s.path with ownCensus := own } } := by
  obtain ⟨short, -, open_, record, within⟩ := h.path
  obtain ⟨hstore, hphase⟩ := s.storeSound_iff.mp h.store
  refine { h with
    member := hmember, roster := hroster, send := hsend, trigger := htrigger
    store := (State.storeSound_iff _).mpr ⟨{ hstore with config := fun k => absurd k hconfig }, hphase⟩
    path := ⟨short, hbypass, fun k => ?_, fun k => ?_, within⟩ }
  · rcases hring with ⟨hp, -⟩ | hm
    · exact absurd hp k
    · simpa [State.onRing, State.mode] using hm
  · rcases hring with ⟨-, hi⟩ | hm
    · simp [hi] at k
    · simpa [State.onRing, State.mode] using hm

/-- A station off the ring has no record open, none of its own in progress, no number and no own trigger. -/
theorem State.Sound.off_ring {s : State} (h : s.Sound) (hring : s.onRing = false) :
    s.path.phase = .clear ∧ s.path.insertion = none ∧ s.member.number = none ∧ s.member.station ≠ .run := by
  obtain ⟨-, -, open_, record, -⟩ := h.path
  obtain ⟨⟨hnumber, -⟩, -⟩ := h.member
  refine ⟨?_, ?_, ?_, ?_⟩
  · by_contra hne; simp [open_ hne] at hring
  · by_contra hne; simp [record (Option.isSome_iff_ne_none.mpr hne)] at hring
  · by_contra hne; simp [hnumber.mp (Option.isSome_iff_ne_none.mpr hne)] at hring
  · intro hst; simp [State.onRing, State.mode, hst, StationState.mode] at hring

/-- Where no own trigger is pending the trigger unit fits every station state. -/
theorem TriggerUnit.SoundIn.of_none {st : StationState} {u : TriggerUnit} (h : u.SoundIn st) (hown : u.own = .none)
    (st' : StationState) : u.SoundIn st' := { h with own := fun k => absurd hown k }

theorem TriggerUnit.SoundIn.off_run {st : StationState} {u : TriggerUnit} (h : u.SoundIn st) (hst : st ≠ .run)
    (st' : StationState) : u.SoundIn st' := h.of_none (by by_contra hne; exact hst (h.own hne)) st'

/-- A pending own trigger ends. -/
theorem State.dropTrigger_soundIn {st : StationState} {s : State} (h : s.trigger.SoundIn st) (st' : StationState) :
    s.dropTrigger.trigger.SoundIn st' := by
  unfold State.dropTrigger
  split
  next hown => exact h.of_none hown st'
  next hown =>
    obtain ⟨schedule, pin, -, -, -⟩ := h
    exact ⟨schedule, pin, iff_of_false nofun (by simp), iff_of_false nofun (by simp), fun k => absurd rfl k⟩

/-- A send unit without an attempt fits CENSUS, ISOLATED, EXCLUDED and BARRED as it is. -/
theorem SendUnit.SoundIn.kept {st st' : StationState} {insertion : Option Insertion} {u : SendUnit}
    (h : u.SoundIn st insertion) (hst : st ≠ .run) (hconfig : st' ≠ .config) (hpass : st' ≠ .pass ∧ st' ≠ .leaving) :
    u.SoundIn st' insertion := h.of_calm (h.calm_off_run hst) hconfig (fun k => (k.elim hpass.1 hpass.2).elim)

/-! ### Notices on a change of mode (R10) -/

section Mode
variable {st : StationState} {s : State} (h : s.SoundIn st)
include h

theorem State.SoundIn.filterDiscard : s.filterDiscard.SoundIn st ∧ s.filterDiscard.filter.context = none := by
  have k := h.stores.filterDiscard
  obtain ⟨f, d, hc, e⟩ := s.filterDiscard_frame
  rw [e] at k ⊢
  exact ⟨h.of_stores k ⟨f, d, s.bus, s.events, s.counters, rfl⟩ (by simp [hc]), hc⟩

/-- No own record is in progress any more (R59). -/
theorem State.SoundIn.endInsertion : s.endInsertion.SoundIn st := by
  obtain ⟨short, census, open_, -, -⟩ := h.path
  have heases : s.Eases s.endInsertion := ⟨rfl, rfl, rfl, rfl, rfl, s.path.backlog_closed_le _ _⟩
  exact { h with
    send := h.send.staged none, path := ⟨short, census, open_, nofun, nofun⟩, backlog := heases.backlogSound h.backlog }

theorem State.SoundIn.context_phase (hp : s.path.phase ≠ .forwarding) : s.filter.context = none := by
  by_contra hne
  obtain ⟨c, hc⟩ := Option.ne_none_iff_exists'.mp hne
  exact hp ((s.storeSound_iff.mp h.store).2 c hc)

theorem State.SoundIn.returnAbandoned : s.returnAbandoned.SoundIn st := by
  obtain ⟨u, e⟩ := s.returnAbandoned_frame
  exact h.of_sends h.sends.returnAbandoned ⟨u, s.bus, s.events, s.counters, e⟩

theorem State.SoundIn.leaveMode : s.leaveMode.SoundIn st ∧ s.leaveMode.filter.context = none := by
  have close : ∀ t : State, t.SoundIn st → t.filter.context = none →
      (State.endInsertion (t.setPhase .clear)).SoundIn st ∧ (State.endInsertion (t.setPhase .clear)).filter.context = none :=
    fun t k hc => ⟨(k.setPhase .clear (.inl hc) (fun hne => absurd rfl hne)).endInsertion, hc⟩
  unfold State.leaveMode
  dsimp only
  split
  · exact close _ h.filterDiscard.1 h.filterDiscard.2
  next hp =>
    refine close _ h.returnAbandoned ?_
    obtain ⟨u, e⟩ := s.returnAbandoned_frame
    rw [e]; exact h.context_phase (by simp [hp])
  next hp => exact close _ h (h.context_phase (by simp [hp]))
  next hp => exact close _ h (h.context_phase (by simp [hp]))

theorem State.SoundIn.setFilter (duplicates : Vector (Option (BitVec 8)) 30) (counters : Counters) :
    State.SoundIn st { s with filter := { s.filter with duplicates := duplicates }, counters := counters } := { h with }

/-- Census mode is entered: everything but the membership unit's own items (R10, R29). -/
theorem State.SoundIn.toCensusMode : s.toCensusMode.SoundIn st ∧ s.toCensusMode.filter.context = none := by
  obtain ⟨k, hc⟩ := h.leaveMode
  obtain ⟨-, -, open_, record, within⟩ := k.path
  have heases : s.leaveMode.Eases s.toCensusMode :=
    ⟨rfl, rfl, rfl, rfl, rfl, by simp [State.toCensusMode, Path.backlog]⟩
  exact ⟨{ k with path := ⟨Nat.zero_le _, fun _ => rfl, open_, record, within⟩, backlog := heases.backlogSound k.backlog }, hc⟩

end Mode

theorem State.filterDiscard_closed (s : State) (h : s.filter.context = none) : s.filterDiscard = s := by
  unfold State.filterDiscard; rw [h]

/-- What a census entry does before the start of an attempt, from a sound state. -/
theorem State.SoundIn.openCensus_eq {st : StationState} {s : State} (h : s.SoundIn st) : s.openCensus = State.countCensusEntry
    { s.toCensusMode.clearDuplicates with
      member := { s.member with station := .census, attempts := 0, roster := Vector.replicate 30 none, number := none,
                                provisional := none, announce := .none, depart := .none, departTimer := none,
                                isolationTimer := none } } := by
  unfold State.openCensus
  rw [State.filterDiscard_closed _ h.toCensusMode.2, ite_self]
  obtain ⟨f, d, u, e⟩ := s.leaveMode_frame
  unfold State.toCensusMode
  rw [e]

/-- The membership unit right after a census entry. -/
theorem State.memberSound_entered (t : State) (hs : t.member.station = .census)
    (hsub : t.member.sub = some .claiming ∨ t.member.sub = some .deferred)
    (hleave : t.member.leavePending = true → t.member.sub = some .deferred) (hnumber : t.member.number = none)
    (htimer : t.member.censusTimer.isSome) (hisolation : t.member.isolationTimer = none) (hdepart : t.member.departTimer = none)
    (hattempts : t.member.attempts ≤ 7) (hown : ∀ f ∈ t.path.ownCensus, t.readyFrame f = true)
    (hannounce : t.member.announce ≠ .waiting) (hdeparts : t.member.depart ≠ .waiting) (hmark : t.member.mark ≠ 0)
    (hloading : t.host.loading = false) : t.MemberSound := by
  have hring : t.onRing = false := t.onRing_census hs
  refine ⟨⟨by simp [hnumber, hring], by simp [hnumber]⟩,
    ⟨iff_of_true (by rcases hsub with e | e <;> simp [e]) hs, iff_of_true htimer hs, by simp [hisolation, hs], by simp [hdepart, hs]⟩,
    ⟨?_, ?_, ?_, hleave, by lia, fun _ => hattempts⟩, ⟨hown, fun k => absurd k hannounce, fun k => absurd k hdeparts⟩,
    fun _ => hmark, by simp [hloading]⟩
  · rcases hsub with e | e <;> simp [e]
  · rcases hsub with e | e <;> simp [e]
  · rcases hsub with e | e <;> simp [e]

theorem rosterSound_empty (t : State) (h : t.member.roster = Vector.replicate 30 none) : t.RosterSound := by
  refine ⟨fun i j _ hi => absurd ?_ hi, fun _ => h⟩
  rw [h]; simp

/-- What every configured station off the census has of the membership unit's part. -/
theorem State.SoundIn.configured {st : StationState} {s : State} (h : s.SoundIn st) (hconfig : s.member.station ≠ .config) :
    s.member.mark ≠ 0 ∧ s.host.loading = false := by
  obtain ⟨-, -, -, -, hmark, hload⟩ := h.member
  exact ⟨hmark hconfig, by by_contra hne; exact hconfig (hload (by simpa using hne))⟩

theorem State.SoundIn.no_leave {st : StationState} {s : State} (h : s.SoundIn st) (hcensus : s.member.station ≠ .census) :
    s.member.sub = none ∧ s.member.leavePending = false := by
  obtain ⟨-, ⟨hsub, -⟩, ⟨-, -, -, hleave, -⟩, -⟩ := h.member
  have hnone : s.member.sub = none := by by_contra hne; exact hcensus (hsub.mp (Option.isSome_iff_ne_none.mpr hne))
  exact ⟨hnone, by by_contra hne; have := hleave (by simpa using hne); simp [hnone] at this⟩

section Enter
variable {st : StationState} {s : State} (h : s.SoundIn st)
include h

/-- The state of a census entry before the send unit and the trigger unit act on it. -/
theorem State.SoundIn.censusEntered (m : Membership) (own : Option Frame) (hs : m.station = .census)
    (hmember : State.MemberSound { s.toCensusMode with member := m, path := { s.toCensusMode.path with ownCensus := own } })
    (hroster : m.roster = Vector.replicate 30 none) (duplicates : Vector (Option (BitVec 8)) 30) (counters : Counters) :
    State.SoundIn st { s.toCensusMode with
      member := m, path := { s.toCensusMode.path with ownCensus := own }
      filter := { s.toCensusMode.filter with duplicates := duplicates }, counters := counters } := by
  obtain ⟨k, hc⟩ := h.toCensusMode
  obtain ⟨f, d, u, e⟩ := s.leaveMode_frame
  have hpath : s.toCensusMode.path.phase = .clear ∧ s.toCensusMode.path.insertion = none := by
    unfold State.toCensusMode; rw [e]; exact ⟨rfl, rfl⟩
  exact (k.setMember m own hmember (rosterSound_empty _ hroster) k.send k.trigger (by simp [hs]) (.inl hpath)
    fun _ => rfl).setFilter duplicates counters

/-- The send unit and the trigger unit act on the notice (R30, R73, R127). -/
theorem State.SoundIn.ringLeft (onRing : Bool) (cause : Option StateCause) (hring : onRing = false → st ≠ .run)
    (hst : s.member.station = .census ∨ s.member.station = .barred) : (s.ringLeft onRing cause).Sound := by
  have hstation : (s.ringLeft onRing cause).member.station = s.member.station := by
    obtain ⟨_, _, _, _, e⟩ := s.ringLeft_frame onRing cause
    rw [e]
  have hconfig : s.member.station ≠ .config := by rcases hst with e | e <;> simp [e]
  have hpass : s.member.station ≠ .pass ∧ s.member.station ≠ .leaving := by rcases hst with e | e <;> simp [e]
  unfold State.Sound
  rw [hstation]
  unfold State.ringLeft
  split
  · obtain ⟨hsends, hcalm⟩ := h.sends.ringLostSends
    obtain ⟨u, b, e⟩ := s.ringLostSends_frame
    rw [e] at hsends hcalm ⊢
    have htrigger := State.dropTrigger_soundIn (s := { s with send := u, bus := b }) h.trigger s.member.station
    obtain ⟨t, e'⟩ := State.dropTrigger_frame { s with send := u, bus := b }
    rw [e'] at htrigger ⊢
    obtain ⟨ev, e''⟩ := State.postAll_frame { s with send := u, bus := b, trigger := t } (takeTurns s.order s.send.ringLostEvents
      (s.trigger.abandonEvents .ringLost) (s.entryEvents cause))
    rw [e'']
    exact { h with
      send := hsends.send.of_calm hcalm hconfig (fun k => (k.elim hpass.1 hpass.2).elim)
      bus := hsends.bus, trigger := htrigger }
  next hoff =>
    have hrun := hring (by simpa using hoff)
    obtain ⟨ev, e⟩ := s.postAll_frame (s.entryEvents cause)
    rw [e]
    exact { h with send := h.send.kept hrun hconfig hpass, trigger := h.trigger.off_run hrun _ }

end Enter

section Entry
variable {s : State} (h : s.Sound) (hcensus : s.member.station ≠ .census) (hconfig : s.member.station ≠ .config)
include h hcensus hconfig

/-- A census entry with attempt 0 in CLAIMING (R29 to R31). -/
theorem State.Sound.censusEntry (cause : Option StateCause) : (s.censusEntry cause).Sound := by
  obtain ⟨hmark, hload⟩ := h.configured hconfig
  obtain ⟨hsub, hleave⟩ := h.no_leave hcensus
  obtain ⟨f, d, u, e⟩ := s.leaveMode_frame
  have hsame : s.toCensusMode.host = s.host := by unfold State.toCensusMode; rw [e]
  unfold State.censusEntry
  rw [h.openCensus_eq]
  refine State.SoundIn.ringLeft (st := s.member.station) ?_ _ _ (fun hr => (h.off_ring hr).2.2.2) (.inl rfl)
  refine h.censusEntered _ _ rfl ?_ rfl _ _
  refine State.memberSound_entered _ rfl (.inl rfl) (fun k => ?_) rfl rfl rfl rfl (Nat.zero_le _) ?_
    (by simp [State.countCensusEntry]) (by simp [State.countCensusEntry]) hmark ?_
  · exact absurd (show s.member.leavePending = true from k) (by simp [hleave])
  · rintro _ ⟨⟩
    simp [State.readyFrame, State.countCensusEntry]
  · show s.toCensusMode.host.loading = false
    rw [hsame]; exact hload

/-- A census entry from LEAVING (R44). -/
theorem State.Sound.censusEntryLeaving (cause : StateCause) : (s.censusEntryLeaving cause).Sound := by
  obtain ⟨hmark, hload⟩ := h.configured hconfig
  obtain ⟨hsub, hleave⟩ := h.no_leave hcensus
  obtain ⟨f, d, u, e⟩ := s.leaveMode_frame
  have hsame : s.toCensusMode.host = s.host := by unfold State.toCensusMode; rw [e]
  have hown : s.toCensusMode.path.ownCensus = s.path.ownCensus := by unfold State.toCensusMode; rw [e]
  unfold State.censusEntryLeaving
  rw [h.openCensus_eq]
  refine State.SoundIn.ringLeft (st := s.member.station) ?_ _ _ (fun hr => (h.off_ring hr).2.2.2) (.inl rfl)
  refine h.censusEntered _ s.toCensusMode.path.ownCensus rfl ?_ rfl _ _
  refine State.memberSound_entered _ rfl (.inr rfl) (fun k => rfl) rfl rfl rfl rfl (Nat.zero_le _) ?_
    (by simp [State.countCensusEntry]) (by simp [State.countCensusEntry]) hmark ?_
  · intro g hg
    have := h.member.2.2.2.1.1 g (by rw [← hown]; exact hg)
    unfold State.readyFrame at this
    rw [hsub] at this
    cases g <;> simp at this
  · show s.toCensusMode.host.loading = false
    rw [hsame]; exact hload

theorem State.Sound.enterCensus (cause : StateCause) : (s.enterCensus cause).Sound := by
  unfold State.enterCensus
  split
  · exact h.censusEntryLeaving hcensus hconfig cause
  · exact h.censusEntry hcensus hconfig _

end Entry

/-- BARRED entry (R43). -/
theorem State.Sound.enterBarred {s : State} (h : s.Sound) (hconfig : s.member.station ≠ .config) : s.enterBarred.Sound := by
  obtain ⟨hmark, hload⟩ := h.configured hconfig
  obtain ⟨-, -, ⟨-, -, -, -, hattempts, -⟩, -⟩ := h.member
  have barred : ∀ t : State, t.SoundIn s.member.station → t.member = s.member → t.host = s.host → t.path.phase = .clear →
      t.path.insertion = none → (State.ringLeft
        { t.withdrawCensusFrame with member := { t.member with
          station := .barred, sub := none, censusTimer := none, departTimer := none, isolationTimer := none,
          announce := t.member.announce.withdraw, depart := t.member.depart.withdraw, leavePending := false,
          provisional := none, number := none } } s.onRing (some .markClash)).Sound := by
    intro t k hm hh hp hi
    have hwithdraw : ∀ o : OwnState, o.withdraw ≠ .waiting := by rintro (_ | _ | _) <;> simp [OwnState.withdraw]
    refine State.SoundIn.ringLeft (st := s.member.station) ?_ _ _ (fun hr => (h.off_ring hr).2.2.2) (.inr rfl)
    refine k.setMember _ none ?_ ⟨by rw [hm]; exact h.roster.1, nofun⟩ k.send k.trigger (by simp) (.inl ⟨hp, hi⟩) nofun
    have hatt : t.member.attempts ≤ 8 := by rw [hm]; exact hattempts
    refine ⟨⟨by simp [State.onRing, State.mode, StationState.mode], nofun⟩, ⟨by simp, by simp, by simp, by simp⟩,
      ⟨nofun, by simp, nofun, nofun, hatt, nofun⟩, ⟨nofun, fun k => absurd k (hwithdraw _), fun k => absurd k (hwithdraw _)⟩,
      fun _ => by rw [hm]; exact hmark, fun k => ?_⟩
    exact absurd (show t.host.loading = true from k) (by simp [hh, hload])
  unfold State.enterBarred
  dsimp only
  split
  · obtain ⟨k, hc⟩ := h.leaveMode
    rw [State.filterDiscard_closed _ hc]
    obtain ⟨f, d, u, e⟩ := s.leaveMode_frame
    refine barred s.leaveMode.clearDuplicates (k.setFilter _ _) ?_ ?_ ?_ ?_ <;> rw [e] <;> rfl
  next hoff =>
    have hring : s.onRing = false := by simpa using hoff
    obtain ⟨hp, hi, -, -⟩ := h.off_ring hring
    exact barred s h rfl rfl hp hi

end Sys2Proof.Machine
end

section
/-! PROOF. The membership unit keeps the invariant in CENSUS, at the ends of a census and where the station leaves the ring
(R24 to R27, R31 to R44), and at an ANNOUNCE and a DEPART (R27, R46, R47). -/

namespace Sys2Proof.Machine

/-! ### Frames sent on -/

theorem State.Sound.cutThrough {s : State} (h : s.Sound) (k : s.Fresh) (f : Frame) : (s.cutThrough f).Sound := by
  have hs := State.SoundIn.cutThrough h k f
  obtain ⟨_, _, e⟩ := s.cutThrough_frame f
  rw [e] at hs ⊢; exact hs

theorem State.Sound.forward {s : State} (h : s.Sound) (k : s.Fresh) (f : Frame) (hcensus : s.member.station ≠ .census) :
    (s.forward f).Sound := by
  have hs := State.SoundIn.forward h k rfl f hcensus
  obtain ⟨_, _, e⟩ := s.forward_frame f
  rw [e] at hs ⊢; exact hs

theorem State.Sound.overtake {s : State} (h : s.Sound) (hring : s.onRing = true) (k : s.Fresh) (f : Frame) :
    (s.overtake f).Sound := by
  have hs := State.SoundIn.overtake h hring k f
  obtain ⟨_, _, _, _, _, _, e, -⟩ := s.overtake_frame f
  rw [e] at hs ⊢; exact hs

/-! ### BARRED (R33, R43) -/

@[simp] theorem State.enterBarred_station (s : State) : s.enterBarred.member.station = .barred := by
  unfold State.enterBarred
  dsimp only
  obtain ⟨_, _, _, _, e⟩ := State.ringLeft_frame _ s.onRing (some .markClash)
  rw [e]

theorem State.Sound.barredForward {s : State} (h : s.Sound) (k : s.Fresh) (hconfig : s.member.station ≠ .config) (f : Frame) :
    (s.enterBarred.forward f).Sound :=
  (h.enterBarred hconfig).forward (s.enterBarred_eases.fresh k) f (by simp)

/-- The NUMBER send time concerns no part of the invariant. -/
theorem State.Sound.setNumberSent {s : State} (h : s.Sound) (t : Option Time) :
    State.Sound { s with member := { s.member with numberSent := t } } := { h with }

theorem State.Sound.clashForward {s : State} (h : s.Sound) (k : s.Fresh) (hconfig : s.member.station ≠ .config) (f : Frame) :
    (s.markClash.forward f).Sound :=
  (h.setNumberSent none).barredForward { k with } hconfig f

/-! ### In CENSUS (R31 to R37) -/

theorem returnedSize_bounds (b : NumberBody) (hcount : b.count ≠ 0) (h : ¬(b.count = 1 ∧ b.overfull = false)) :
    1 ≤ (returnedSize b).toNat ∧ (returnedSize b).toNat ≤ 30 := by
  unfold returnedSize
  split
  · decide
  next hover =>
    have h1 : b.count ≠ 1 := fun k => h ⟨k, by simpa using hover⟩
    bv_omega

section Census
variable {s : State} (h : s.Sound) (hs : s.member.station = .census)
include h hs

/-- The membership unit's items in CENSUS are replaced. -/
theorem State.Sound.inCensus (m : Membership) (own : Option Frame) (hm : m.station = .census)
    (hmember : State.MemberSound { s with member := m, path := { s.path with ownCensus := own } })
    (hroster : m.roster = s.member.roster) : State.Sound { s with member := m, path := { s.path with ownCensus := own } } := by
  have hst : m.station = s.member.station := hm.trans hs.symm
  obtain ⟨hp, hi, -, -⟩ := State.Sound.off_ring h (s.onRing_census hs)
  exact State.SoundIn.setMember (st' := m.station) h m own hmember (rosterSound_empty _ (hroster.trans (h.roster.2 hs))) (by rw [hst]; exact h.send)
    (by rw [hst]; exact h.trigger) (by simp [hm]) (.inl ⟨hp, hi⟩) (fun _ => h.path.2.1 hs)

theorem State.Sound.startAttempt (hleave : s.member.leavePending = false) : s.startAttempt.Sound := by
  obtain ⟨number, ⟨-, -, isolation, departs⟩, ⟨-, -, -, -, most, fewer⟩, ⟨-, announce, depart⟩, config⟩ := h.member
  refine h.inCensus hs _ _ hs ⟨number, ⟨iff_of_true rfl hs, iff_of_true rfl hs, isolation, departs⟩,
    ⟨nofun, by simp, nofun, fun k => absurd k (by simp [hleave]), most, fewer⟩, ⟨?_, announce, depart⟩, config⟩ rfl
  rintro _ ⟨⟩
  simp [State.readyFrame]

/-- The census frame is withdrawn and the sub-state DEFERRED. -/
theorem State.Sound.defer :
    State.Sound { s.withdrawCensusFrame with member := { s.member with sub := some .deferred } } := by
  obtain ⟨number, ⟨-, timer, isolation, departs⟩, ⟨-, -, -, -, most, fewer⟩, ⟨-, announce, depart⟩, config⟩ := h.member
  exact h.inCensus hs _ none hs ⟨number, ⟨iff_of_true rfl hs, timer, isolation, departs⟩,
    ⟨nofun, by simp, nofun, fun _ => rfl, most, fewer⟩, ⟨nofun, announce, depart⟩, config⟩ rfl

theorem State.Sound.becomeOriginator (hleave : s.member.leavePending = false) : s.becomeOriginator.Sound := by
  obtain ⟨number, ⟨-, timer, isolation, departs⟩, ⟨-, -, -, -, most, fewer⟩, ⟨-, announce, depart⟩, config⟩ := h.member
  refine h.inCensus hs _ _ hs ⟨number, ⟨iff_of_true rfl hs, timer, isolation, departs⟩,
    ⟨nofun, fun _ => rfl, nofun, fun k => absurd k (by simp [hleave]), most, fewer⟩, ⟨?_, announce, depart⟩, config⟩ rfl
  rintro _ ⟨⟩
  simp [State.readyFrame]

/-- A NUMBER gives the station its provisional number (R36). -/
theorem State.Sound.takeNumber (hleave : s.member.leavePending = false) (n : BitVec 5) (hn : 1 ≤ n.toNat ∧ n.toNat ≤ 30) :
    State.Sound { s.withdrawCensusFrame with member := { s.member with provisional := some n, sub := some .numbered } } := by
  obtain ⟨number, ⟨-, timer, isolation, departs⟩, ⟨-, -, -, -, most, fewer⟩, ⟨-, announce, depart⟩, config⟩ := h.member
  exact h.inCensus hs _ none hs ⟨number, ⟨iff_of_true rfl hs, timer, isolation, departs⟩,
    ⟨fun _ => ⟨n, rfl, hn⟩, by simp, nofun, fun k => absurd k (by simp [hleave]), most, fewer⟩, ⟨nofun, announce, depart⟩,
    config⟩ rfl

/-- The originator has the ring's size and hop time (R37). -/
theorem State.Sound.close (hleave : s.member.leavePending = false) (hone : s.member.provisional = some 1) (size : BitVec 5)
    (hsize : 1 ≤ size.toNat ∧ size.toNat ≤ 30) (hop : BitVec 16) (overfull : Bool) : State.Sound { s with
      member := { s.member with pendingSize := size, pendingHop := hop, sub := some .closing }
      path := { s.path with
        ownCensus := some (.ringUp { size := size, overfull := overfull, spare := 0, hopTime := hop }) } } := by
  obtain ⟨number, ⟨-, timer, isolation, departs⟩, ⟨-, -, -, -, most, fewer⟩, ⟨-, announce, depart⟩, config⟩ := h.member
  refine h.inCensus hs _ _ hs ⟨number, ⟨iff_of_true rfl hs, timer, isolation, departs⟩,
    ⟨nofun, fun _ => hone, fun _ => hsize, fun k => absurd k (by simp [hleave]), most, fewer⟩, ⟨?_, announce, depart⟩, config⟩ rfl
  rintro _ ⟨⟩
  simp [State.readyFrame]

theorem State.Sound.judgeElection (k : s.Fresh) (hleave : s.member.leavePending = false) (b : ClaimBody) :
    (s.judgeElection b).Sound := by
  unfold State.judgeElection
  split
  · exact (h.defer hs).cutThrough { k with } _
  split
  · exact h
  split
  · exact h.becomeOriginator hs hleave
  · exact h.clashForward k (by simp [hs]) _

theorem State.Sound.restartElection (k : s.Fresh) (hleave : s.member.leavePending = false) (b : ClaimBody) :
    (s.startAttempt.judgeElection b).Sound := (h.startAttempt hs hleave).judgeElection hs { k with } hleave b

theorem State.Sound.censusClaim (k : s.Fresh) (b : ClaimBody) : (s.censusClaim b).Sound := by
  have hconfig : s.member.station ≠ .config := by simp [hs]
  unfold State.censusClaim
  split
  · exact h.cutThrough k _
  next hl =>
    have hleave : s.member.leavePending = false := by simpa using hl
    split
    · exact h.judgeElection hs k hleave b
    · exact h.judgeElection hs k hleave b
    · exact h.restartElection hs k hleave b
    · split
      · exact h.clashForward k hconfig _
      · exact h.restartElection hs k hleave b
    · split
      · exact h.clashForward k hconfig _
      · exact h.restartElection hs k hleave b
    · exact h

theorem State.Sound.censusNumber (k : s.Fresh) (b : NumberBody) (hb : (Frame.number b).unusable = false) :
    (s.censusNumber b).Sound := by
  have hcount : b.count ≠ 0 := by simpa [Frame.unusable] using hb
  have hpos : 1 ≤ b.count.toNat := by
    have : b.count.toNat ≠ 0 := fun e => hcount (BitVec.eq_of_toNat_eq (by simpa using e))
    omega
  unfold State.censusNumber
  split
  · exact h.cutThrough k _
  next hl =>
    have hleave : s.member.leavePending = false := by simpa using hl
    split
    · dsimp only
      split
      next hc => exact (h.takeNumber hs hleave _ ⟨hpos, hc.1⟩).cutThrough { k with } _
      · exact (h.defer hs).cutThrough { k with } _
    · dsimp only
      split
      next hc => exact (h.takeNumber hs hleave _ ⟨hpos, hc.1⟩).cutThrough { k with } _
      · exact (h.defer hs).cutThrough { k with } _
    next hsub =>
      split
      · exact h
      · unfold State.numberReturned
        split
        · exact h.startAttempt hs hleave
        next hc => exact h.close hs hleave (h.member.2.2.1.2.1 (.inl hsub)) _ (returnedSize_bounds b hcount hc) _ _
    · exact h
    · exact h
    · exact h

end Census

/-! ### Out of CENSUS (R39 to R44) -/

/-- A roster entry whose mark no other entry holds is set (R45). -/
theorem roster_unique_tableSet (roster : Vector (Option (BitVec 16)) 30) (n : BitVec 5) (mark : BitVec 16)
    (h : ∀ i j : Fin 30, i ≠ j → roster[i] ≠ none → roster[i] ≠ roster[j])
    (hmark : rosterHoldsElsewhere roster n mark = false) : ∀ i j : Fin 30, i ≠ j →
      (tableSet roster n (some mark))[i] ≠ none → (tableSet roster n (some mark))[i] ≠ (tableSet roster n (some mark))[j] := by
  have helse : ∀ i : Fin 30, n.toNat - 1 ≠ i.val → roster[i] ≠ some mark := by
    intro i hi he
    have hall := List.any_eq_false.mp hmark i.val (List.mem_range.mpr i.isLt)
    rw [Vector.getElem?_eq_getElem i.isLt] at hall
    simp only [Fin.getElem_fin] at he
    simp [he] at hall
    exact hi hall.symm
  intro i j hij hi
  have hval : i.val ≠ j.val := fun e => hij (Fin.ext e)
  simp only [Fin.getElem_fin, tableSet_getElem] at hi ⊢
  by_cases h1 : n.toNat - 1 = i.val
  · rw [if_pos h1, if_neg (by rw [h1]; exact hval)]
    exact fun e => helse j (by rw [h1]; exact hval) e.symm
  · rw [if_neg h1] at hi ⊢
    by_cases h2 : n.toNat - 1 = j.val
    · rw [if_pos h2]; exact helse i h1
    · rw [if_neg h2]; exact h i j hij hi

section Out
variable {s : State} (h : s.Sound) (hs : s.member.station = .census)
include h hs

/-- The station leaves CENSUS for a state other than CONFIG, PASS and LEAVING. -/
theorem State.Sound.outOfCensus (m : Membership) (hm : m.station = .run ∨ m.station = .isolated ∨ m.station = .excluded)
    (hmember : State.MemberSound { s with member := m, path := { s.path with ownCensus := none } })
    (hroster : State.RosterSound { s with member := m }) (event : Event) :
    (State.post { s with member := m, path := { s.path with ownCensus := none } } event).Sound := by
  obtain ⟨hp, hi, -, hrun⟩ := State.Sound.off_ring h (s.onRing_census hs)
  suffices k : State.SoundIn m.station { s with member := m, path := { s.path with ownCensus := none } } by exact { k with }
  refine State.SoundIn.setMember (st' := m.station) h m none hmember hroster (h.send.kept hrun ?_ ?_) (h.trigger.off_run hrun _) ?_ (.inl ⟨hp, hi⟩)
    (fun k => ?_)
  all_goals rcases hm with e | e | e <;> simp_all

/-- RUN entry (R39). -/
theorem State.Sound.enterRun (hleave : s.member.leavePending = false) (size : BitVec 5) (hop : BitVec 16) (p : BitVec 5)
    (hp : s.member.provisional = some p) (hbounds : 1 ≤ p.toNat ∧ p.toNat ≤ size.toNat ∧ size.toNat ≤ 30) :
    (State.enterRun { s with member := { s.member with ringSize := size, hopTime := hop } }).Sound := by
  obtain ⟨number, ⟨-, -, isolation, departs⟩, ⟨-, -, -, -, most, fewer⟩, ⟨-, announce, depart⟩, config⟩ := h.member
  have hmark := (h.configured (by simp [hs])).1
  have hload := (h.configured (by simp [hs])).2
  rw [hs] at isolation departs
  have hroster := h.roster.2 hs
  refine h.outOfCensus hs
    { s.member with
      ringSize := size, hopTime := hop, station := .run, sub := none, number := some (s.member.provisional.getD 0),
      censusTimer := none, claimBegun := false, attempts := 0, epoch := s.member.epoch + 1, announce := .waiting
      roster := tableSet s.member.roster (s.member.provisional.getD 0) (some s.member.mark) } (.inl rfl) ?_ ⟨?_, nofun⟩ _
  · refine ⟨⟨iff_of_true rfl rfl, ?_⟩, ⟨by simp, by simp, iff_of_false ?_ nofun, iff_of_false ?_ nofun⟩,
      ⟨nofun, by simp, nofun, fun k => absurd k (by simp [hleave]), Nat.zero_le _, nofun⟩, ⟨nofun, fun _ => rfl, fun k => ?_⟩,
      fun _ => hmark, fun k => absurd k (by simp [hload])⟩
    · rintro _ ⟨⟩
      simp only [hp, Option.getD_some]
      exact hbounds
    · exact fun k => absurd (isolation.mp k) (by simp)
    · exact fun k => absurd (departs.mp k) (by simp)
    · have := depart k
      simp [hs] at this
  · refine roster_unique_tableSet _ _ _ h.roster.1 ?_
    show rosterHoldsElsewhere s.member.roster _ _ = false
    rw [hroster]
    refine List.any_eq_false.mpr fun i hi => ?_
    rw [Vector.getElem?_eq_getElem (List.mem_range.mp hi)]
    simp

/-- ISOLATED entry (R41). -/
theorem State.Sound.enterIsolated (hleave : s.member.leavePending = false) (attempts : Nat) (hattempts : attempts ≤ 8) :
    (State.enterIsolated { s with member := { s.member with attempts := attempts } }).Sound := by
  obtain ⟨⟨number, bounds⟩, ⟨-, -, -, departs⟩, -, ⟨-, announce, depart⟩, config⟩ := h.member
  have hmark := (h.configured (by simp [hs])).1
  have hload := (h.configured (by simp [hs])).2
  have hnum := (State.Sound.off_ring h (s.onRing_census hs)).2.2.1
  rw [hs] at departs announce depart
  refine h.outOfCensus hs
    { s.member with
      attempts := attempts, station := .isolated, sub := none, censusTimer := none, provisional := none
      isolationTimer := s.timer isolationSpan } (.inr (.inl rfl)) ?_ ⟨h.roster.1, nofun⟩ _
  exact ⟨⟨by simp [hnum, State.onRing, State.mode, StationState.mode], bounds⟩,
    ⟨by simp, by simp, iff_of_true rfl rfl, iff_of_false (fun k => absurd (departs.mp k) (by simp)) nofun⟩,
    ⟨nofun, by simp, nofun, fun k => absurd k (by simp [hleave]), hattempts, nofun⟩,
    ⟨nofun, fun k => absurd (announce k) (by simp), fun k => absurd (depart k) (by simp)⟩, fun _ => hmark,
    fun k => absurd k (by simp [hload])⟩

/-- EXCLUDED entry (R42). -/
theorem State.Sound.enterExcluded (hleave : s.member.leavePending = false) : s.enterExcluded.Sound := by
  obtain ⟨⟨number, bounds⟩, ⟨-, -, isolation, departs⟩, -, ⟨-, announce, depart⟩, config⟩ := h.member
  have hmark := (h.configured (by simp [hs])).1
  have hload := (h.configured (by simp [hs])).2
  have hnum := (State.Sound.off_ring h (s.onRing_census hs)).2.2.1
  rw [hs] at isolation departs announce depart
  refine h.outOfCensus hs
    { s.member with station := .excluded, sub := none, censusTimer := none, attempts := 0 } (.inr (.inr rfl)) ?_ ⟨h.roster.1, nofun⟩ _
  exact ⟨⟨by simp [hnum, State.onRing, State.mode, StationState.mode], bounds⟩,
    ⟨by simp, by simp, iff_of_false (fun k => absurd (isolation.mp k) (by simp)) nofun,
      iff_of_false (fun k => absurd (departs.mp k) (by simp)) nofun⟩,
    ⟨nofun, by simp, nofun, fun k => absurd k (by simp [hleave]), Nat.zero_le _, nofun⟩,
    ⟨nofun, fun k => absurd (announce k) (by simp), fun k => absurd (depart k) (by simp)⟩, fun _ => hmark,
    fun k => absurd k (by simp [hload])⟩

end Out

/-! ### To PASS from CENSUS, ISOLATED and EXCLUDED (R25, R44, R72) -/

section Leave
variable {s : State} (h : s.Sound)
include h

/-- Outside the sub-states that ready one, no own census frame waits. -/
theorem State.Sound.no_census_frame (hsub : s.member.sub = none ∨ s.member.sub = some .deferred) : s.path.ownCensus = none := by
  by_contra hne
  obtain ⟨f, hf⟩ := Option.ne_none_iff_exists'.mp hne
  have := h.member.2.2.2.1.1 f hf
  unfold State.readyFrame at this
  rcases hsub with e | e <;> rw [e] at this <;> cases f <;> simp at this

/-- What a LEAVE does in the send unit, and what it leaves of the queue. -/
theorem State.Sound.leaveSends : s.leaveSends.SoundIn s.member.station ∧ s.leaveSends.send.Leaves := by
  obtain ⟨k, hl⟩ := h.sends.leaveSends
  obtain ⟨u, b, e, c, eq⟩ := s.leaveSends_frame
  exact ⟨State.SoundIn.of_sends h k ⟨u, b, e, c, eq⟩, hl⟩

/-- The station goes to PASS, its sends completed. -/
theorem State.Sound.toPass (hring : s.onRing = false) (m : Membership) (own : Option Frame) (hm : m.station = .pass)
    (hmember : State.MemberSound { s.leaveSends with member := m, path := { s.leaveSends.path with ownCensus := own } })
    (hroster : m.roster = s.member.roster) (event : Event) : (State.post
      { s.leaveSends with member := m, path := { s.leaveSends.path with ownCensus := own } } event).Sound := by
  obtain ⟨k, hl⟩ := h.leaveSends
  obtain ⟨hp, hi, -, hrun⟩ := h.off_ring hring
  obtain ⟨u, b, e, c, eq⟩ := s.leaveSends_frame
  have hpath : s.leaveSends.path = s.path := by rw [eq]
  have hrost : State.RosterSound { s.leaveSends with member := m } :=
    ⟨by dsimp only; rw [hroster]; exact h.roster.1, fun k => absurd k (by simp [hm])⟩
  have := k.setMember (st' := .pass) m own hmember hrost (k.send.of_calm (k.send.calm_off_run hrun) nofun fun _ => hl)
    (k.trigger.off_run hrun _) (by simp [hm]) (by rw [hpath]; exact .inl ⟨hp, hi⟩) (by simp [hm])
  show State.SoundIn m.station _
  rw [hm]
  exact { this with }

/-- The end of a leave-pending census (R44). -/
theorem State.Sound.endLeavePending (hs : s.member.station = .census) (hleave : s.member.leavePending = true) :
    s.endLeavePending.Sound := by
  have hsub := h.member.2.2.1.2.2.2.1 hleave
  have hown := h.no_census_frame (.inr hsub)
  obtain ⟨⟨-, bounds⟩, ⟨-, -, isolation, departs⟩, ⟨-, -, -, -, most, -⟩, ⟨-, announce, depart⟩, config⟩ := h.member
  have hmark := (h.configured (by simp [hs])).1
  have hload := (h.configured (by simp [hs])).2
  have hnum := (h.off_ring (s.onRing_census hs)).2.2.1
  rw [hs] at isolation departs announce depart
  obtain ⟨u, b, e, c, eq⟩ := s.leaveSends_frame
  have hm : s.leaveSends.member = s.member := by rw [eq]
  have hp : s.leaveSends.path = s.path := by rw [eq]
  have hh : s.leaveSends.host = s.host := by rw [eq]
  refine h.toPass (s.onRing_census hs)
    { s.leaveSends.member with station := .pass, sub := none, leavePending := false, censusTimer := none }
    s.leaveSends.path.ownCensus rfl ?_ (by rw [hm]) _
  rw [hm, hp, hown]
  exact ⟨⟨by simp [hnum, State.onRing, State.mode, StationState.mode], bounds⟩,
    ⟨by simp, by simp, iff_of_false (fun k => absurd (isolation.mp k) (by simp)) nofun,
      iff_of_false (fun k => absurd (departs.mp k) (by simp)) nofun⟩,
    ⟨nofun, by simp, nofun, nofun, most, nofun⟩,
    ⟨nofun, fun k => absurd (announce k) (by simp), fun k => absurd (depart k) (by simp)⟩, fun _ => hmark,
    fun k => absurd k (by simp [hh, hload])⟩

/-- LEAVE in CENSUS (R25). -/
theorem State.Sound.leaveCensus (hs : s.member.station = .census) : s.leaveSends.leaveCensus.Sound := by
  obtain ⟨⟨-, bounds⟩, ⟨-, -, isolation, departs⟩, ⟨-, -, -, -, most, -⟩, ⟨-, announce, depart⟩, config⟩ := h.member
  have hmark := (h.configured (by simp [hs])).1
  have hload := (h.configured (by simp [hs])).2
  have hnum := (h.off_ring (s.onRing_census hs)).2.2.1
  rw [hs] at isolation departs announce depart
  obtain ⟨u, b, e, c, eq⟩ := s.leaveSends_frame
  have hm : s.leaveSends.member = s.member := by rw [eq]
  have hh : s.leaveSends.host = s.host := by rw [eq]
  refine h.toPass (s.onRing_census hs)
    { s.leaveSends.member with station := .pass, sub := none, censusTimer := none, provisional := none, claimBegun := false,
                               leavePending := false }
    none rfl ?_ (by rw [hm]) _
  rw [hm]
  exact ⟨⟨by simp [hnum, State.onRing, State.mode, StationState.mode], bounds⟩,
    ⟨by simp, by simp, iff_of_false (fun k => absurd (isolation.mp k) (by simp)) nofun,
      iff_of_false (fun k => absurd (departs.mp k) (by simp)) nofun⟩,
    ⟨nofun, by simp, nofun, nofun, most, nofun⟩,
    ⟨nofun, fun k => absurd (announce k) (by simp), fun k => absurd (depart k) (by simp)⟩, fun _ => hmark,
    fun k => absurd k (by simp [hh, hload])⟩

/-- LEAVE in ISOLATED and EXCLUDED (R25). -/
theorem State.Sound.leaveOutside (hs : s.member.station = .isolated ∨ s.member.station = .excluded) (event : Event) :
    (State.post { s.leaveSends with member := { s.member with station := .pass, isolationTimer := none } } event).Sound := by
  have hcensus : s.member.station ≠ .census := by rcases hs with e | e <;> simp [e]
  have hconfig : s.member.station ≠ .config := by rcases hs with e | e <;> simp [e]
  have hring : s.onRing = false := by rcases hs with e | e <;> simp [State.onRing, State.mode, e, StationState.mode]
  obtain ⟨hsub, hleave⟩ := h.no_leave hcensus
  have hown := h.no_census_frame (.inl hsub)
  obtain ⟨⟨-, bounds⟩, ⟨-, timer, -, departs⟩, ⟨-, -, -, -, most, -⟩, ⟨-, announce, depart⟩, config⟩ := h.member
  obtain ⟨hmark, hload⟩ := h.configured hconfig
  have hnum := (h.off_ring hring).2.2.1
  obtain ⟨u, b, e, c, eq⟩ := s.leaveSends_frame
  have hp : s.leaveSends.path = s.path := by rw [eq]
  have hh : s.leaveSends.host = s.host := by rw [eq]
  refine h.toPass hring { s.member with station := .pass, isolationTimer := none } s.leaveSends.path.ownCensus rfl ?_ rfl _
  rw [hp, hown]
  refine ⟨⟨by simp [hnum, State.onRing, State.mode, StationState.mode], bounds⟩,
    ⟨by simp [hsub], iff_of_false (fun k => hcensus (timer.mp k)) nofun, by simp, iff_of_false (fun k => ?_) nofun⟩,
    ⟨by simp [hsub], by simp [hsub], by simp [hsub], by simp [hleave], most, nofun⟩, ⟨nofun, fun k => ?_, fun k => ?_⟩,
    fun _ => hmark, fun k => absurd k (by simp [hh, hload])⟩
  · have := departs.mp k; rcases hs with e | e <;> simp [e] at this
  · have := announce k; rcases hs with e | e <;> simp [e] at this
  · have := depart k; rcases hs with e | e <;> simp [e] at this

end Leave

/-! ### A RING_UP, the census timer (R38 to R42) -/

section RingUp
variable {s : State} (h : s.Sound) (hs : s.member.station = .census)
include h hs

theorem State.Sound.censusRingUp (k : s.Fresh) (b : RingUpBody) (hb : (Frame.ringUp b).unusable = false) :
    (s.censusRingUp b).Sound := by
  have hsize : b.size.toNat ≤ 30 := by
    have : b.size ≠ 31 := by
      simp only [Frame.unusable, noRingNumber, Bool.or_eq_false_iff, beq_eq_false_iff_ne] at hb; exact hb.2
    bv_omega
  have hcut := h.cutThrough k (.ringUp b)
  have hmember : (s.cutThrough (.ringUp b)).member = s.member := by
    obtain ⟨_, _, e⟩ := s.cutThrough_frame (.ringUp b); rw [e]
  have hs' : (s.cutThrough (.ringUp b)).member.station = .census := by rw [hmember]; exact hs
  unfold State.censusRingUp
  split
  next hl => exact hcut.endLeavePending hs' (by rw [hmember]; exact hl)
  next hl =>
    have hleave : s.member.leavePending = false := by simpa using hl
    have hleave' : (s.cutThrough (.ringUp b)).member.leavePending = false := by rw [hmember]; exact hleave
    split
    next hsub =>
      obtain ⟨p, hp, hone, hthirty⟩ := h.member.2.2.1.1 hsub
      have hp : s.member.provisional = some p := hp
      dsimp only
      rw [hp, Option.getD_some]
      split
      next hle => exact hcut.enterRun hs' hleave' _ _ p (by rw [hmember]; exact hp) ⟨hone, hle, hsize⟩
      · exact hcut.startAttempt hs' hleave'
    · dsimp only
      split
      · exact hcut.enterExcluded hs' hleave'
      · exact hcut.startAttempt hs' hleave'
    · dsimp only
      split
      · exact hcut.enterExcluded hs' hleave'
      · exact hcut.startAttempt hs' hleave'
    · exact h.startAttempt hs hleave
    next hsub =>
      obtain ⟨-, hone, hpending, -⟩ := h.member.2.2.1
      exact h.enterRun hs hleave _ _ 1 (hone (.inr hsub)) ⟨Nat.le_refl _, (hpending hsub).1, (hpending hsub).2⟩
    · exact h

theorem State.Sound.censusTimedOut : s.censusTimedOut.Sound := by
  unfold State.censusTimedOut
  split
  next hl => exact h.endLeavePending hs hl
  next hl =>
    have hleave : s.member.leavePending = false := by simpa using hl
    obtain ⟨number, timers, ⟨numbered, originator, closing, leave, most, fewer⟩, own, config⟩ := h.member
    have hfew := fewer hs
    dsimp only
    split
    · exact h.enterIsolated hs hleave _ (by omega)
    next hlt =>
      have hcounted : State.Sound { s with member := { s.member with attempts := s.member.attempts + 1 } } :=
        h.inCensus hs _ s.path.ownCensus hs
          ⟨number, timers, ⟨numbered, originator, closing, leave, by dsimp only; omega, fun _ => by dsimp only; omega⟩, own, config⟩ rfl
      exact hcounted.startAttempt hs hleave

end RingUp

end Sys2Proof.Machine
end

section
/-! PROOF. Leaving the ring, the frames of chapter 2, the trigger unit and the record frames keep the invariant (R11 to R17,
R26, R27, R46, R47, R121 to R136). -/

namespace Sys2Proof.Machine

/-! ### Leaving the ring (R26, R72, R128) -/

/-- LEAVE in RUN: the station leaves, and the send unit and the trigger unit end their work. -/
theorem State.Sound.leaveRun {s : State} (h : s.Sound) (hs : s.member.station = .run) : s.leaveRun.Sound := by
  obtain ⟨k, -⟩ := State.SoundIn.filterDiscard h
  obtain ⟨f, d, -, eq⟩ := s.filterDiscard_frame
  have hstart : s.filterDiscard.startLeaving.SoundIn .run := by
    rw [eq] at k ⊢
    obtain ⟨⟨number, bounds⟩, ⟨sub, timer, isolation, -⟩, ⟨n, o, c, l, most, -⟩, ⟨frames, -, -⟩, config⟩ := h.member
    rw [hs] at k sub timer isolation
    refine k.setMember (st' := .run) _ s.path.ownCensus ?_ ⟨h.roster.1, nofun⟩ k.send k.trigger nofun (.inr rfl) nofun
    refine ⟨⟨iff_of_true ?_ rfl, bounds⟩, ⟨iff_of_false (fun e => absurd (sub.mp e) (by simp)) nofun,
      iff_of_false (fun e => absurd (timer.mp e) (by simp)) nofun, iff_of_false (fun e => absurd (isolation.mp e) (by simp)) nofun,
      iff_of_true rfl rfl⟩, ⟨n, o, c, l, most, nofun⟩, ⟨frames, fun e => ?_, fun _ => rfl⟩,
      fun _ => config.1 (by simp [hs]), fun e => ?_⟩
    · exact number.mpr (by simp [State.onRing, State.mode, hs, StationState.mode])
    · exact absurd e (by cases s.member.announce <;> simp [OwnState.withdraw])
    · have := config.2 e; simp [hs] at this
  obtain ⟨hsends, hleaves⟩ := hstart.sends.emptySends
  obtain ⟨u, b, c, e⟩ := State.emptySends_frame s.filterDiscard.startLeaving
  unfold State.leaveRun
  rw [e] at hsends hleaves ⊢
  have htrigger := State.dropTrigger_soundIn
    (s := { s.filterDiscard.startLeaving with send := u, bus := b, counters := c }) hstart.trigger .leaving
  obtain ⟨t, e'⟩ := State.dropTrigger_frame { s.filterDiscard.startLeaving with send := u, bus := b, counters := c }
  rw [e'] at htrigger ⊢
  obtain ⟨ev, e''⟩ := State.postAll_frame { s.filterDiscard.startLeaving with send := u, bus := b, counters := c, trigger := t }
    (takeTurns s.order s.send.leftEvents (s.trigger.abandonEvents .left) [])
  rw [e'']
  have hsend := hsends.send.of_calm (st' := .leaving) (hsends.send.calm_of_leaves hleaves) nofun fun _ => hleaves
  have hstation : s.filterDiscard.startLeaving.member.station = .leaving := rfl
  show State.SoundIn s.filterDiscard.startLeaving.member.station _
  rw [hstation]
  exact { hstart with send := hsend, bus := hsends.bus, trigger := htrigger }

/-- From LEAVING to PASS. -/
theorem State.Sound.leaveRing {s : State} (h : s.Sound) (hs : s.member.station = .leaving) : s.leaveRing.Sound := by
  obtain ⟨k, -⟩ := State.SoundIn.leaveMode h
  obtain ⟨f, d, u, eq⟩ := s.leaveMode_frame
  have hrun : s.member.station ≠ .run := by simp [hs]
  obtain ⟨hsub, hleave⟩ := h.no_leave (by simp [hs])
  obtain ⟨-, ⟨sub, timer, isolation, -⟩, ⟨n, o, c, l, most, -⟩, ⟨frames, announce, -⟩, config⟩ := h.member
  rw [hs] at sub timer isolation announce
  have hown := h.no_census_frame (.inl hsub)
  rw [eq] at k
  have := k.setMember (st' := .pass)
    { s.member with station := .pass, number := none, depart := .none, departTimer := none } s.path.ownCensus ?_
    ⟨h.roster.1, nofun⟩
    (k.send.of_calm (k.send.calm_off_run hrun) nofun fun _ => k.send.leaves (.inr hs)) (k.trigger.off_run hrun _) nofun
    (.inl ⟨rfl, rfl⟩) nofun
  · unfold State.leaveRing
    rw [eq]
    exact { this with }
  · rw [hown]
    exact ⟨⟨iff_of_false nofun nofun, nofun⟩, ⟨iff_of_false (fun e => absurd (sub.mp e) (by simp)) nofun,
      iff_of_false (fun e => absurd (timer.mp e) (by simp)) nofun, iff_of_false (fun e => absurd (isolation.mp e) (by simp)) nofun,
      iff_of_false nofun nofun⟩, ⟨n, o, c, l, most, nofun⟩, ⟨nofun, fun e => absurd (announce e) (by simp), nofun⟩,
      fun _ => config.1 (by simp [hs]), fun e => absurd (config.2 e) (by simp [hs])⟩

/-! ### Stations on the ring -/

theorem State.onRing_iff (s : State) : s.onRing = true ↔ s.member.station = .run ∨ s.member.station = .leaving := by
  unfold State.onRing State.mode
  cases s.member.station <;> simp [StationState.mode]

theorem State.onRing_station {s : State} (h : s.onRing = true) :
    s.member.station ≠ .census ∧ s.member.station ≠ .config := by
  rcases s.onRing_iff.mp h with e | e <;> simp [e]

theorem State.onRing_of_mode {s : State} (h : s.mode = .active) : s.onRing = true := by simp [State.onRing, h]

/-! ### ANNOUNCE and DEPART (R27, R46, R47) -/

section Announce
variable {s : State} (h : s.Sound) (k : s.Fresh) (hring : s.onRing = true)
include h k hring

theorem State.Sound.ownAnnounce (b : AnnounceBody) : (s.ownAnnounce b).Sound := by
  obtain ⟨hcensus, hconfig⟩ := State.onRing_station hring
  unfold State.ownAnnounce
  split
  · obtain ⟨number, timers, counts, ⟨frames, announce, depart⟩, config⟩ := h.member
    exact { h with member := ⟨number, timers, counts, ⟨frames, nofun, depart⟩, config⟩ }
  split
  · exact h.barredForward k hconfig _
  · exact h.enterCensus hcensus hconfig _

theorem State.Sound.otherAnnounce (b : AnnounceBody) : (s.otherAnnounce b).Sound := by
  obtain ⟨hcensus, hconfig⟩ := State.onRing_station hring
  unfold State.otherAnnounce
  dsimp only
  split
  · exact h.barredForward k hconfig _
  split
  · exact h.enterCensus hcensus hconfig _
  split
  · exact h.enterCensus hcensus hconfig _
  next hmark =>
    split
    · exact h.enterCensus hcensus hconfig _
    · have hroster : State.Sound
          { s with member := { s.member with roster := tableSet s.member.roster b.number (some b.mark) } } :=
        { h with roster := ⟨roster_unique_tableSet _ _ _ h.roster.1 (by simpa using hmark), fun e => absurd e hcensus⟩ }
      exact hroster.forward { k with } _ hcensus

omit k in
theorem State.Sound.ownDepart (b : DepartBody) : (s.ownDepart b).Sound := by
  obtain ⟨hcensus, hconfig⟩ := State.onRing_station hring
  unfold State.ownDepart
  split
  next hown =>
    simp only [State.isOwnDepart, Bool.and_eq_true, beq_iff_eq] at hown
    exact h.leaveRing hown.1.1
  · exact h.enterCensus hcensus hconfig _

end Announce

/-! ### The trigger unit (R121 to R136) -/

section Trigger
variable {st : StationState} {s : State} (h : s.SoundIn st)
include h

theorem State.SoundIn.fire (group : BitVec 3) (source : BitVec 5) : (s.fire group source).SoundIn st := by
  obtain ⟨schedule, -, grouped, returnTimer, own⟩ := h.trigger
  exact { h with trigger := ⟨schedule, iff_of_true rfl rfl, grouped, returnTimer, own⟩ }

theorem State.SoundIn.requestFire (group : BitVec 3) (source : BitVec 5) (delay : Time) :
    (s.requestFire group source delay).SoundIn st := by
  unfold State.requestFire
  split
  next hroom =>
    split
    · exact h.fire group source
    · obtain ⟨-, pin, grouped, returnTimer, own⟩ := h.trigger
      exact { h with trigger := ⟨by simpa using hroom, pin, grouped, returnTimer, own⟩ }
  · exact { h with }

theorem State.SoundIn.finishTrigger (status : TriggerStatus) : (s.finishTrigger status).SoundIn st := by
  obtain ⟨schedule, pin, -, -, -⟩ := h.trigger
  exact { h with trigger :=
    ⟨schedule, pin, iff_of_false nofun (fun e => e rfl), iff_of_false nofun (fun e => e rfl), fun e => absurd rfl e⟩ }

theorem State.SoundIn.setCounters (counters : Counters) : State.SoundIn st { s with counters := counters } := { h with }

theorem State.SoundIn.ownTriggerFrame (b : TriggerBody) : (s.ownTriggerFrame b).SoundIn st := by
  unfold State.ownTriggerFrame
  split
  · dsimp only
    split
    · exact (h.finishTrigger .done).requestFire _ _ _
    · exact h.finishTrigger .done
  · exact h.setCounters _

theorem State.SoundIn.otherTrigger (b : TriggerBody) : (s.otherTrigger b).SoundIn st := by
  unfold State.otherTrigger
  split
  · exact h.requestFire _ _ _
  · exact h

theorem State.SoundIn.raiseTrigger (hst : st = .run) (group : BitVec 3) : (s.raiseTrigger group).SoundIn st := by
  obtain ⟨schedule, pin, -, -, -⟩ := h.trigger
  exact { h with trigger := ⟨schedule, pin, iff_of_true rfl nofun, iff_of_true rfl nofun, fun _ => hst⟩ }

/-- An entry of the fire schedule leaves it. -/
theorem State.SoundIn.eraseFire (entry : Nat) :
    State.SoundIn st { s with trigger := { s.trigger with schedule := s.trigger.schedule.eraseIdx entry } } := by
  obtain ⟨schedule, pin, grouped, returnTimer, own⟩ := h.trigger
  exact { h with trigger := ⟨Nat.le_trans (List.length_eraseIdx_le _ _) schedule, pin, grouped, returnTimer, own⟩ }

theorem State.SoundIn.endPulse :
    State.SoundIn st { s with trigger := { s.trigger with pulseTimer := none, pin := false } } := by
  obtain ⟨schedule, -, grouped, returnTimer, own⟩ := h.trigger
  exact { h with trigger := ⟨schedule, iff_of_false nofun nofun, grouped, returnTimer, own⟩ }

end Trigger

theorem State.Sound.fireEntry {s : State} (h : s.Sound) (entry : Nat) : (s.fireEntry entry).Sound := by
  unfold State.fireEntry
  split
  · exact h
  split
  · exact ((h.reach _).eraseFire entry).fire _ _
  · exact h

/-! ### The record on the input (R11 to R17, R92) -/

section Record
variable {st : StationState} {s : State} (h : s.SoundIn st)
include h

/-- The input phase changes with the record filter, the store, the bus master, the events and the counters. -/
theorem State.SoundIn.of_stores_phase (p : InputPhase) {t : State} (k : t.Stores True)
    (hf : ∃ filter delivery bus events counters,
      t = { s with path := { s.path with phase := p }, filter := filter, delivery := delivery, bus := bus, events := events,
                   counters := counters })
    (hc : ∀ c, t.filter.context = some c → p = .forwarding) (hring : p ≠ .clear → s.onRing = true) : t.SoundIn st := by
  obtain ⟨_, _, _, _, _, rfl⟩ := hf
  obtain ⟨short, census, -, record, within⟩ := h.path
  exact { h with
    store := (State.storeSound_iff _).mpr ⟨k.store, hc⟩, bus := k.bus, path := ⟨short, census, hring, record, within⟩ }

theorem State.SoundIn.truncate : s.truncate.SoundIn st ∧ s.truncate.path.phase = .clear ∧ s.truncate.filter.context = none := by
  have hstores : State.Stores True { s with path := { s.path with phase := .clear } } :=
    ⟨{ h.stores.store with }, h.bus⟩
  have hphase : ∀ hc : s.filter.context = none, State.SoundIn st { s with path := { s.path with phase := .clear } } :=
    fun hc => h.setPhase .clear (.inl hc) (fun hne => absurd rfl hne)
  unfold State.truncate
  dsimp only
  split
  · have k := hstores.filterTruncated
    obtain ⟨f, d, c, hc, e⟩ := State.filterTruncated_frame { s with path := { s.path with phase := .clear } }
    rw [e] at k ⊢
    exact ⟨h.of_stores_phase .clear k ⟨f, d, s.bus, s.events, c, rfl⟩ (by simp [hc]) (fun hne => absurd rfl hne), rfl, hc⟩
  next hp =>
    have hc := h.context_phase (by simp [hp])
    have k := (hphase hc).sends.returnTruncated
    obtain ⟨u, b, e, c, eq⟩ := State.returnTruncated_frame { s with path := { s.path with phase := .clear } }
    exact ⟨(hphase hc).of_sends k ⟨u, b, e, c, eq⟩, by rw [eq], by rw [eq]; exact hc⟩
  next hp => exact ⟨hphase (h.context_phase (by simp [hp])), rfl, h.context_phase (by simp [hp])⟩
  next hp => exact ⟨hphase (h.context_phase (by simp [hp])), rfl, h.context_phase (by simp [hp])⟩

theorem State.SoundIn.filterVoid : s.filterVoid.SoundIn st := by
  obtain ⟨f, e⟩ := s.filterVoid_frame
  refine h.of_stores h.stores.filterVoid ⟨f, s.delivery, s.bus, s.events, s.counters, e⟩ fun c hc => ?_
  by_contra hp
  rw [s.filterVoid_closed (h.context_phase hp), h.context_phase hp] at hc
  cases hc

theorem State.SoundIn.filterData (d : DataBody) (hp : s.path.phase = .forwarding) : (s.filterData d).SoundIn st := by
  obtain ⟨f, dl, e⟩ := s.filterData_frame d
  exact h.of_stores (h.stores.filterData d) ⟨f, dl, s.bus, s.events, s.counters, e⟩ fun _ _ => hp

theorem State.SoundIn.filterTail (b : TailBody) : ((s.filterTail b).setPhase .clear).SoundIn st := by
  have k := h.stores.filterTail b
  obtain ⟨f, d, bus, c, hc, e⟩ := s.filterTail_frame b
  rw [e] at k ⊢
  exact h.of_stores_phase .clear ⟨{ k.store with }, k.bus⟩ ⟨f, d, bus, s.events, c, rfl⟩ (by simp [hc]) (fun hne => absurd rfl hne)

theorem State.SoundIn.filterHead (b : HeadBody) (hc : s.filter.context = none) (hlen : b.length.toNat ≤ 64)
    (hring : s.onRing = true) : ((s.filterHead b).setPhase .forwarding).SoundIn st := by
  have k := h.stores.filterHead b hc hlen (State.onRing_station hring).2
  obtain ⟨f, d, e⟩ := s.filterHead_frame b
  rw [e] at k ⊢
  exact h.of_stores_phase .forwarding ⟨{ k.store with }, k.bus⟩ ⟨f, d, s.bus, s.events, s.counters, rfl⟩ (fun _ _ => rfl) fun _ => hring

/-- An operation of the send unit keeps the invariant. -/
theorem State.SoundIn.ownVoid : s.ownVoid.SoundIn st := by
  obtain ⟨u, e⟩ := s.ownVoid_frame
  exact h.of_sends h.sends.ownVoid ⟨u, s.bus, s.events, s.counters, e⟩

theorem State.SoundIn.ownHead (b : HeadBody) : (s.ownHead b).SoundIn st := by
  obtain ⟨u, c, e⟩ := s.ownHead_frame b
  exact h.of_sends (h.sends.ownHead b) ⟨u, s.bus, s.events, c, e⟩

theorem State.SoundIn.ownData (d : DataBody) : (s.ownData d).SoundIn st := by
  obtain ⟨u, c, e⟩ := s.ownData_frame d
  exact h.of_sends (h.sends.ownData d) ⟨u, s.bus, s.events, c, e⟩

theorem State.SoundIn.ownTail (b : TailBody) : (s.ownTail b).SoundIn st := by
  obtain ⟨u, bus, ev, c, e⟩ := s.ownTail_frame b
  exact h.of_sends (h.sends.ownTail b) ⟨u, bus, ev, c, e⟩

end Record
end Sys2Proof.Machine
end

section
/-! PROOF. Each arriving frame, fill, and the two changes of the link status keep the invariant (R1, R4, R7 to R17, R28, R44,
R48). -/

namespace Sys2Proof.Machine

/-! ### The station state -/

theorem State.mode_ne_census {s : State} (h : s.mode ≠ .census) : s.member.station ≠ .census :=
  fun e => h (s.mode_census e)

theorem State.truncate_onRing (s : State) : s.truncate.onRing = s.onRing := by
  obtain ⟨_, _, _, _, _, _, _, _, e⟩ := s.truncate_frame
  rw [e]; rfl

theorem State.enterCensus_station (s : State) (cause : StateCause) : (s.enterCensus cause).member.station = .census := by
  unfold State.enterCensus State.censusEntryLeaving State.censusEntry
  obtain ⟨p, f, d, u, m, c, _, hp, e⟩ := s.openCensus_frame
  have hm : s.openCensus.member.station = .census := by unfold State.openCensus; rfl
  rw [e] at hm ⊢
  split
  · obtain ⟨_, _, _, _, e'⟩ := State.ringLeft_frame _ s.onRing (some cause)
    rw [e']; exact hm
  · obtain ⟨_, _, _, _, e'⟩ := State.ringLeft_frame _ s.onRing (some cause)
    rw [e']; exact hm

theorem State.censusEntry_station (s : State) (cause : Option StateCause) : (s.censusEntry cause).member.station = .census := by
  unfold State.censusEntry
  have hm : s.openCensus.member.station = .census := by unfold State.openCensus; rfl
  obtain ⟨_, _, _, _, e'⟩ := State.ringLeft_frame s.openCensus.startAttempt s.onRing cause
  rw [e']; exact hm

/-! ### Bad frames (R8, R9, R12) -/

section Handle
variable {s : State} (h : s.Sound) (k : s.Fresh)
include h k

theorem State.Sound.substituteVoid (hring : s.onRing = true) : s.substituteVoid.Sound := by
  have hcensus := (State.onRing_station hring).1
  have hcount : s.countVoided.Sound := { h with }
  have kcount : s.countVoided.Fresh := { k with }
  unfold State.substituteVoid
  dsimp only
  split
  · exact hcount.forward kcount _ hcensus
  · have hvoid := State.SoundIn.filterVoid hcount
    obtain ⟨f, e⟩ := s.countVoided.filterVoid_frame
    rw [e] at hvoid ⊢
    exact State.Sound.forward (s := { s.countVoided with filter := f }) hvoid { k with } _ hcensus
  · have hvoid := State.SoundIn.ownVoid hcount
    obtain ⟨u, e⟩ := s.countVoided.ownVoid_frame
    rw [e] at hvoid ⊢
    exact hvoid
  · exact hcount

theorem State.Sound.badFrame (f : Frame) : (s.badFrame f).Sound := by
  unfold State.badFrame
  split
  next hm => exact h.forward k f (State.mode_ne_census (by simp [hm]))
  · exact h
  next hm => exact h.substituteVoid k (State.onRing_of_mode hm)

theorem State.Sound.byMode (f : Frame) (act : State → State)
    (hact : f.unusable = false → s.onRing = true → (act s).Sound) : (s.byMode f act).Sound := by
  unfold State.byMode
  split
  · exact h.badFrame k f
  next hf =>
    split
    next hm => exact h.forward k f (State.mode_ne_census (by simp [hm]))
    · exact h
    next hm => exact hact (by simpa using hf) (State.onRing_of_mode hm)

/-! ### Record frames and control frames in active mode -/

theorem State.Sound.truncated : s.truncate.Sound ∧ s.truncate.Fresh := by
  obtain ⟨ht, -⟩ := State.SoundIn.truncate h
  have hf := s.truncate_eases.fresh k
  obtain ⟨_, _, _, _, _, _, _, _, e⟩ := s.truncate_frame
  rw [e] at ht hf ⊢
  exact ⟨ht, hf⟩

theorem State.Sound.activeHead (b : HeadBody) (hb : (Frame.head b).unusable = false) (hring : s.onRing = true) :
    (s.activeHead b).Sound := by
  have hlen : b.length.toNat ≤ 64 := by
    simp only [Frame.unusable, Bool.or_eq_false_iff, decide_eq_false_iff_not] at hb; omega
  obtain ⟨ht, kt⟩ := h.truncated k
  obtain ⟨-, -, hc⟩ := State.SoundIn.truncate h
  rw [← s.truncate_onRing] at hring
  unfold State.activeHead
  dsimp only
  generalize s.truncate = t at *
  split
  · have hown := State.SoundIn.ownHead ht b
    obtain ⟨u, c, e⟩ := t.ownHead_frame b
    rw [e] at hown ⊢
    exact hown.setPhase .returning (.inl hc) fun _ => hring
  split
  · exact (ht.setCounters _).setPhase .orphan (.inl hc) fun _ => hring
  · have hhead := State.SoundIn.filterHead ht b hc hlen hring
    obtain ⟨f, d, e⟩ := t.filterHead_frame b
    rw [e] at hhead ⊢
    exact State.Sound.forward (s := { t with path := { t.path with phase := .forwarding }, filter := f, delivery := d }) hhead
      { kt with } _ (State.onRing_station hring).1

theorem State.Sound.activeData (b : DataBody) (hring : s.onRing = true) : (s.activeData b).Sound := by
  unfold State.activeData
  split
  · have hown := State.SoundIn.ownData h b
    obtain ⟨u, c, e⟩ := s.ownData_frame b
    rw [e] at hown ⊢
    exact hown
  · split
    next hp =>
      have hdata := State.SoundIn.filterData h b hp
      obtain ⟨f, d, e⟩ := s.filterData_frame b
      rw [e] at hdata ⊢
      exact State.Sound.forward (s := { s with filter := f, delivery := d }) hdata { k with } _ (State.onRing_station hring).1
    · exact h
    · exact { h with }
    · exact { h with }

theorem State.Sound.activeTail (b : TailBody) (hring : s.onRing = true) : (s.activeTail b).Sound := by
  unfold State.activeTail
  split
  · have hown := State.SoundIn.ownTail h b
    obtain ⟨u, bus, ev, c, e⟩ := s.ownTail_frame b
    rw [e] at hown ⊢
    by_cases hp : s.path.phase = .returning
    · rw [if_pos hp]
      have hc : s.filter.context = none := State.SoundIn.context_phase h (by simp [hp])
      exact hown.setPhase .clear (.inl hc) (fun hne => absurd rfl hne)
    · rw [if_neg hp]
      exact hown
  · split
    · have htail := State.SoundIn.filterTail h b
      obtain ⟨f, d, bus, c, -, e⟩ := s.filterTail_frame b
      rw [e] at htail ⊢
      exact State.Sound.forward (s := { s with
        path := { s.path with phase := .clear }, filter := f, delivery := d, bus := bus, counters := c }) htail { k with } _
        (State.onRing_station hring).1
    next hp =>
      exact State.SoundIn.setPhase h .clear (.inl (State.SoundIn.context_phase h (by simp [hp]))) (fun hne => absurd rfl hne)
    · exact { h with }
    · exact { h with }

theorem State.Sound.activeTrigger (b : TriggerBody) (hring : s.onRing = true) : (s.activeTrigger b).Sound := by
  unfold State.activeTrigger
  split
  · have hown := State.SoundIn.ownTriggerFrame h b
    obtain ⟨t, ev, c, e⟩ := s.ownTriggerFrame_frame b
    rw [e] at hown ⊢
    exact hown
  split
  · exact { h with }
  · have hother := State.SoundIn.otherTrigger h b
    obtain ⟨t, ev, e⟩ := s.otherTrigger_frame b
    rw [e] at hother ⊢
    exact State.Sound.overtake (s := { s with trigger := t, events := ev }) hother hring { k with } _

theorem State.Sound.activeVoid (b : VoidBody) (hring : s.onRing = true) : (s.activeVoid b).Sound := by
  have hcensus := (State.onRing_station hring).1
  have void : ∀ t : State, t.Sound → t.Fresh → t.member.station ≠ .census →
      (if t.isOwn b.station then t else if t.orphanHop b.hop then t.countOrphan else
        State.forward (if t.path.phase = .forwarding then t.filterVoid else t) (.void { b with hop := b.hop + 1 })).Sound := by
    intro t ht kt htc
    split
    · exact ht
    split
    · exact { ht with }
    split
    · have hv := State.SoundIn.filterVoid ht
      obtain ⟨f, e⟩ := t.filterVoid_frame
      rw [e] at hv ⊢
      exact State.Sound.forward (s := { t with filter := f }) hv { kt with } _ htc
    · exact ht.forward kt _ htc
  unfold State.activeVoid
  dsimp only
  by_cases hp : s.path.phase = .returning
  · rw [if_pos hp]
    have hv := State.SoundIn.ownVoid h
    obtain ⟨u, e⟩ := s.ownVoid_frame
    rw [e] at hv ⊢
    exact void { s with send := u } hv { k with } hcensus
  · rw [if_neg hp]
    exact void s h k hcensus

theorem State.Sound.activeAnnounce (b : AnnounceBody) (hring : s.onRing = true) : (s.activeAnnounce b).Sound := by
  obtain ⟨ht, kt⟩ := h.truncated k
  rw [← s.truncate_onRing] at hring
  unfold State.activeAnnounce
  dsimp only
  split
  · exact ht.ownAnnounce kt hring b
  split
  · exact { ht with }
  · exact ht.otherAnnounce kt hring b

theorem State.Sound.activeDepart (b : DepartBody) (hring : s.onRing = true) : (s.activeDepart b).Sound := by
  obtain ⟨ht, kt⟩ := h.truncated k
  rw [← s.truncate_onRing] at hring
  obtain ⟨hcensus, hconfig⟩ := State.onRing_station hring
  unfold State.activeDepart
  dsimp only
  split
  · exact ht.ownDepart hring b
  split
  · exact { ht with }
  · exact ht.enterCensus hcensus hconfig _

/-! ### Census frames (R7, R8, R9, R28, R44) -/

/-- A good census frame keeps the invariant when its handling in CENSUS does. -/
theorem State.Sound.censusFrame (f : Frame) (judge after : State → State)
    (hjudge : f.unusable = false → ∀ t : State, t.Sound → t.Fresh → t.member.station = .census → (judge t).Sound)
    (hafter : f.unusable = false → ∀ t : State, t.Sound → t.Fresh → t.member.station = .census → (after t).Sound) :
    (s.censusFrame f judge after).Sound := by
  unfold State.censusFrame
  split
  · exact h.badFrame k f
  next hf =>
    have hf : f.unusable = false := by simpa using hf
    split
    next hm => exact hjudge hf s h k (State.mode_eq_census hm)
    next hm =>
      obtain ⟨ht, kt⟩ := h.truncated k
      have hring : s.truncate.onRing = true := by rw [s.truncate_onRing]; exact State.onRing_of_mode hm
      obtain ⟨hcensus, hconfig⟩ := State.onRing_station hring
      have hentered := ht.enterCensus hcensus hconfig .claimSeen
      have kentered := (s.truncate.enterCensus_eases .claimSeen).fresh kt
      dsimp only
      split
      · exact hentered.cutThrough kentered f
      · exact hafter hf _ hentered kentered (State.enterCensus_station _ _)
    next hm =>
      split
      next hst =>
        have hcensus : s.member.station ≠ .census := by rcases hst.1 with e | e <;> simp [e]
        have hconfig : s.member.station ≠ .config := by rcases hst.1 with e | e <;> simp [e]
        exact hjudge hf _ (h.censusEntry hcensus hconfig _) ((s.censusEntry_eases _).fresh k) (State.censusEntry_station _ _)
      · exact h.forward k f (State.mode_ne_census (by simp [hm]))

end Handle

/-! ### The ring receiver (R1, R4, R48) -/

theorem State.Sound.setReceiver {s : State} (h : s.Sound) (r : Receiver) (hr : r.SoundAt s.now)
    (hnext : r.nextFrame = s.receiver.nextFrame) : State.Sound { s with receiver := r } := by
  obtain ⟨busy, waits, lag, total⟩ := h.backlog
  exact { h with
    receiver := hr
    backlog := ⟨busy, by rw [← hnext] at waits; exact waits, by rw [← hnext] at lag; exact lag, by rw [← hnext] at total; exact total⟩ }

/-- The link is UP, and a frame or fill symbol has just been heard. -/
theorem Receiver.soundAt_up (now : Time) (r : Receiver) (hup : r.up = true) (hlost : r.lostAt = none)
    (ht : r.lossTimer = some (now + 3200)) : r.SoundAt now := by
  refine ⟨iff_of_true (by simp [ht]) hup, ?_, by simp [hlost], by simp [hlost]⟩
  rintro t h
  rw [ht] at h; cases h; exact Nat.le_refl _

theorem State.Sound.censusEntryIsolated {s : State} (h : s.Sound) (hs : s.member.station = .isolated)
    (cause : Option StateCause) : (s.censusEntry cause).Sound := h.censusEntry (by simp [hs]) (by simp [hs]) cause

theorem State.Sound.symbolArrives {s : State} (h : s.Sound) : s.symbolArrives.Sound := by
  have hup := h.setReceiver { s.receiver with up := true, lossTimer := s.timer linkLossSpan, lostAt := none }
    (Receiver.soundAt_up _ _ rfl rfl rfl) rfl
  unfold State.symbolArrives
  dsimp only
  split
  · exact hup
  split
  next hs => exact hup.censusEntryIsolated hs none
  · exact hup

theorem State.Sound.pathFill {s : State} (h : s.Sound) : s.pathFill.Sound := by
  unfold State.pathFill
  split
  · obtain ⟨ht, -⟩ := State.SoundIn.truncate h
    obtain ⟨_, _, _, _, _, _, _, _, e⟩ := s.truncate_frame
    rw [e] at ht ⊢
    exact ht
  · exact h

theorem State.Sound.memberLinkLoss {s : State} (h : s.Sound) : s.memberLinkLoss.Sound := by
  unfold State.memberLinkLoss
  split
  next hring =>
    obtain ⟨hcensus, hconfig⟩ := State.onRing_station hring
    exact h.enterCensus hcensus hconfig _
  · exact h

theorem State.Sound.linkLost {s : State} (h : s.Sound) (truncationFirst : Bool) : (s.linkLost truncationFirst).Sound := by
  have hdown := h.setReceiver { s.receiver with up := false, lossTimer := none, lostAt := some s.now }
    ⟨iff_of_false nofun nofun, nofun, fun _ => rfl, by rintro _ ⟨⟩; exact Nat.le_refl _⟩ rfl
  have hcounted := hdown.setCounters { s.counters with linkLosses := saturatingInc s.counters.linkLosses }
  unfold State.linkLost
  dsimp only
  split
  · exact State.Sound.memberLinkLoss (State.Sound.pathFill hcounted)
  · exact State.Sound.pathFill (State.Sound.memberLinkLoss hcounted)

theorem State.Sound.fillReported {s : State} (h : s.Sound) : s.fillReported.Sound := by
  unfold State.fillReported
  split
  · have hreach := h.reach s.receiver.nextFrame
    have hnow : s.receiver.nextFrame ≤ (s.reach s.receiver.nextFrame).now := by rw [State.reach_now]; exact Nat.le_max_right _ _
    have hrec : (s.reach s.receiver.nextFrame).receiver = s.receiver := s.reach_receiver _
    dsimp only
    generalize s.reach s.receiver.nextFrame = t at *
    obtain ⟨busy, waits, lag, total⟩ := hreach.backlog
    refine State.Sound.pathFill { hreach with backlog := ⟨busy, fun hw => ?_, ?_, ?_⟩ }
    · have := waits hw
      rw [hrec] at this
      show t.path.freeAt ≤ t.now + 80
      lia
    · rw [hrec] at lag
      show t.path.freeAt ≤ max t.now (t.now + 80) + 80
      lia
    · rw [hrec] at total
      show t.path.freeAt + 80 * t.path.backlog ≤ max t.now (t.now + 80) + 5280
      lia
  · exact h

theorem Receiver.restarted_soundAt (r : Receiver) (now : Time) (h : r.SoundAt now) (hup : r.up = true) (silence : Option Time)
    (next : Time) : Receiver.SoundAt now { r with lossTimer := r.restarted now silence, nextFrame := next } := by
  obtain ⟨runs, within, down, past⟩ := h
  refine ⟨?_, ?_, down, past⟩
  · unfold Receiver.restarted
    split
    · exact runs
    · exact iff_of_true rfl hup
    · exact iff_of_true rfl hup
  · unfold Receiver.restarted
    split
    · exact within
    · rintro _ ⟨⟩; exact Nat.le_refl _
    · rintro _ ⟨⟩
      have hold : r.lossTimer.getD 0 ≤ now + 3200 := by
        cases ht : r.lossTimer with
        | none => exact Nat.zero_le _
        | some t => exact within t ht
      simp only [linkLossSpan, micros]
      lia

/-- The state in which an arriving frame is handled. -/
theorem State.Sound.frameJudged {s : State} (h : s.Sound) (hup : s.receiver.up = true) (silence : Option Time) :
    (s.frameJudged silence).Sound ∧ (s.frameJudged silence).Fresh := by
  have hreach := h.reach s.receiver.nextFrame
  have hrec : (s.reach s.receiver.nextFrame).receiver = s.receiver := s.reach_receiver _
  unfold State.frameJudged
  dsimp only
  refine hreach.flushWaiting ?_ _ (Receiver.restarted_soundAt _ _ hreach.receiver (by rw [hrec]; exact hup) silence _) rfl
  rw [hrec, State.reach_now]; exact Nat.le_max_right _ _

/-- What waited for the output goes out whatever the receiver holds. -/
theorem State.flushWaiting_receiver (s : State) (r : Receiver) :
    { s.flushWaiting with receiver := r } = State.flushWaiting { s with receiver := r } := by
  unfold State.flushWaiting
  dsimp only
  split <;> rfl

/-- The same for a frame that falls together with the link loss: its last symbol sets UP. -/
theorem State.Sound.judgedAtLoss {s : State} (h : s.Sound) (hup : s.receiver.up = false) :
    (s.frameJudged (some 0)).symbolArrives.Sound ∧ (s.frameJudged (some 0)).symbolArrives.Fresh := by
  have hreach := h.reach s.receiver.nextFrame
  have hrec : (s.reach s.receiver.nextFrame).receiver = s.receiver := s.reach_receiver _
  have hnow : (s.reach s.receiver.nextFrame).receiver.nextFrame ≤ (s.reach s.receiver.nextFrame).now := by
    rw [hrec, State.reach_now]; exact Nat.le_max_right _ _
  have hclock : (s.frameJudged (some 0)).now = (s.reach s.receiver.nextFrame).now := by
    obtain ⟨_, _, _, -, e⟩ := s.frameJudged_frame (some 0); rw [e]
  have hdown : (s.frameJudged (some 0)).receiver.up = false := by
    obtain ⟨r, _, _, hr, e⟩ := s.frameJudged_frame (some 0); rw [e]; exact hr.trans hup
  have hheard := hreach.flushWaiting hnow
    { s.receiver with
      up := true, lossTimer := some ((s.reach s.receiver.nextFrame).now + 3200), lostAt := none,
      nextFrame := (s.reach s.receiver.nextFrame).now + 80 }
    (Receiver.soundAt_up _ _ rfl rfl rfl) rfl
  have heq : ({ s.frameJudged (some 0) with receiver := { (s.frameJudged (some 0)).receiver with
        up := true, lossTimer := (s.frameJudged (some 0)).timer linkLossSpan, lostAt := none } } : State) =
      State.flushWaiting { s.reach s.receiver.nextFrame with receiver := { s.receiver with
        up := true, lossTimer := some ((s.reach s.receiver.nextFrame).now + 3200), lostAt := none,
        nextFrame := (s.reach s.receiver.nextFrame).now + 80 } } := by
    have hr : (s.frameJudged (some 0)).receiver = { s.receiver with
        lossTimer := some ((s.reach s.receiver.nextFrame).now + 3200)
        nextFrame := (s.reach s.receiver.nextFrame).now + 80 } := by
      unfold State.frameJudged
      dsimp only
      rw [hrec]
      unfold State.flushWaiting
      split <;> rfl
    unfold State.timer
    rw [hr, hclock]
    unfold State.frameJudged
    dsimp only
    rw [State.flushWaiting_receiver]
    rfl
  unfold State.symbolArrives
  dsimp only
  rw [hdown, heq]
  obtain ⟨hsound, hfresh⟩ := hheard
  have hstation : (State.flushWaiting { s.reach s.receiver.nextFrame with receiver := { s.receiver with
        up := true, lossTimer := some ((s.reach s.receiver.nextFrame).now + 3200), lostAt := none,
        nextFrame := (s.reach s.receiver.nextFrame).now + 80 } }).member.station = (s.frameJudged (some 0)).member.station := by
    rw [← heq]
  rw [← hstation]
  simp only [Bool.false_eq_true, if_false]
  split
  next hs => exact ⟨hsound.censusEntryIsolated hs none, (State.censusEntry_eases _ _).fresh hfresh⟩
  · exact ⟨hsound, hfresh⟩

theorem State.Sound.receive {s : State} (h : s.Sound) (silence : Option Time) (handle : State → State)
    (hhandle : ∀ t : State, t.Sound → t.Fresh → (handle t).Sound) : (s.receive silence handle).Sound := by
  unfold State.receive
  split
  next hup => exact hhandle _ (h.frameJudged hup silence).1 (h.frameJudged hup silence).2
  next hup =>
    split
    next hloss =>
      have hz : silence = some 0 := by simp only [State.endsAtLoss, Bool.and_eq_true, beq_iff_eq] at hloss; exact hloss.1
      subst hz
      obtain ⟨hj, kj⟩ := h.judgedAtLoss (by simpa using hup)
      exact hhandle _ hj kj
    · exact h

end Sys2Proof.Machine
end

section
/-! PROOF. The validation of a configuration record (R161), and the ends of a load, which keep the invariant (R157 to R162). -/

namespace Sys2Proof.Machine

/-! ### Validation (R161) -/

theorem slotCountAllowed_iff (n : Nat) : slotCountAllowed n = true ↔ n = 0 ∨ 2 ≤ n ∧ n ≤ 128 := by
  simp [slotCountAllowed]

/-- An entry that names a new stream and a used ring passes the last two checks. -/
theorem entryFault_cons (slots : BitVec 2 → Nat) (seen : List (BitVec 6)) (index : Nat) (x : BitVec 6 × BitVec 2)
    (rest : List (BitVec 6 × BitVec 2)) (hnew : x.1 ∉ seen) (hused : 2 ≤ slots x.2) :
    entryFault slots seen index (x :: rest) = entryFault slots (x.1 :: seen) (index + 1) rest := by
  obtain ⟨stream, ring⟩ := x
  have hseen : seen.contains stream = false := by simpa using hnew
  conv_lhs => unfold entryFault
  rw [hseen, if_neg (by simp), if_neg (Nat.not_lt.mpr hused)]

/-- Entries that name a new stream and a used ring pass the last two checks, and those behind them are checked with these
streams named. -/
theorem entryFault_append (slots : BitVec 2 → Nat) (rest : List (BitVec 6 × BitVec 2)) :
    ∀ (before : List (BitVec 6 × BitVec 2)) (seen : List (BitVec 6)) (index : Nat),
      (before.map (·.1)).Nodup → (∀ x ∈ before, x.1 ∉ seen ∧ 2 ≤ slots x.2) →
      entryFault slots seen index (before ++ rest) =
        entryFault slots ((before.map (·.1)).reverse ++ seen) (index + before.length) rest
  | [], seen, index, _, _ => rfl
  | x :: before, seen, index, hnodup, hgood => by
    obtain ⟨hnew, hused⟩ := hgood x (by simp)
    rw [List.map_cons, List.nodup_cons] at hnodup
    rw [List.cons_append, entryFault_cons slots seen index x _ hnew hused,
      entryFault_append slots rest before (x.1 :: seen) (index + 1) hnodup.2 fun y hy => ?_]
    · rw [List.map_cons, List.reverse_cons, List.append_assoc, List.length_cons, List.singleton_append,
        Nat.add_assoc, Nat.add_comm 1]
    · refine ⟨fun hin => ?_, (hgood y (by simp [hy])).2⟩
      rcases List.mem_cons.mp hin with e | hin
      · exact hnodup.1 (List.mem_map.mpr ⟨y, hy, e⟩)
      · exact (hgood y (by simp [hy])).1 hin

theorem entryFault_eq_none_iff (slots : BitVec 2 → Nat) : ∀ (entries : List (BitVec 6 × BitVec 2)) (seen : List (BitVec 6))
    (index : Nat), entryFault slots seen index entries = none ↔
      (entries.map (·.1)).Nodup ∧ ∀ x ∈ entries, x.1 ∉ seen ∧ 2 ≤ slots x.2
  | [], seen, index => by simp [entryFault]
  | (stream, ring) :: rest, seen, index => by
    unfold entryFault
    split
    next hseen =>
      refine iff_of_false nofun fun ⟨_, h⟩ => ?_
      exact (h (stream, ring) (by simp)).1 (by simpa using hseen)
    next hseen =>
      split
      next hused =>
        refine iff_of_false nofun fun ⟨_, h⟩ => ?_
        exact absurd (h (stream, ring) (by simp)).2 (Nat.not_le.mpr hused)
      next hused =>
        rw [entryFault_eq_none_iff slots rest (stream :: seen) (index + 1)]
        simp only [List.map_cons, List.nodup_cons, List.mem_cons, List.mem_map, not_or, forall_eq_or_imp]
        have hnew : stream ∉ seen := by simpa using hseen
        constructor
        · rintro ⟨hnodup, h⟩
          exact ⟨⟨fun ⟨x, hx, e⟩ => (h x hx).1.1 e, hnodup⟩, ⟨hnew, Nat.not_lt.mp hused⟩,
            fun x hx => ⟨(h x hx).1.2, (h x hx).2⟩⟩
        · rintro ⟨⟨hfresh, hnodup⟩, -, h⟩
          exact ⟨hnodup, fun x hx => ⟨⟨fun e => hfresh ⟨x, hx, e⟩, (h x hx).1⟩, (h x hx).2⟩⟩

/-- The checks before the slot counts let a record pass, and the slot count of ring `r` is the first that is not allowed. -/
theorem recordFault_ringSlots (words : List Word) (hmark : recordMark words ≠ 0) (hlimit : recordRetryLimit words ≤ 15)
    (hlength : recordBurstLength words ∈ [1, 2, 4, 8]) (r : Nat)
    (hr : (List.range 4).find? (fun r => !slotCountAllowed (recordSlots words r)) = some r) :
    recordFault words = some (.ringSlots, r) := by
  unfold recordFault
  rw [if_neg hmark, if_neg (Nat.not_lt.mpr hlimit), if_neg (by rw [List.contains_iff_mem.mpr hlength]; simp), hr]

/-- The checks before the subscriptions let a record pass. -/
theorem recordFault_entries (words : List Word) (hmark : recordMark words ≠ 0) (hlimit : recordRetryLimit words ≤ 15)
    (hlength : recordBurstLength words ∈ [1, 2, 4, 8])
    (hslots : ∀ q, q < 4 → recordSlots words q = 0 ∨ 2 ≤ recordSlots words q ∧ recordSlots words q ≤ 128) :
    recordFault words = if 16 < recordSubscriptionCount words then some (.subscriptionCount, 0)
      else entryFault (fun r => recordSlots words r.toNat) [] 0 (recordSubscriptions words) := by
  have hnone : (List.range 4).find? (fun r => !slotCountAllowed (recordSlots words r)) = none := by
    rw [List.find?_eq_none]
    intro q hq
    simp [(slotCountAllowed_iff _).mpr (hslots q (List.mem_range.mp hq))]
  unfold recordFault
  rw [if_neg hmark, if_neg (Nat.not_lt.mpr hlimit), if_neg (by rw [List.contains_iff_mem.mpr hlength]; simp), hnone]

theorem recordFault_mark (words : List Word) (h : recordMark words = 0) : recordFault words = some (.mark, 0) := by
  unfold recordFault; rw [if_pos h]

theorem recordFault_retryLimit (words : List Word) (hmark : recordMark words ≠ 0) (h : 15 < recordRetryLimit words) :
    recordFault words = some (.retryLimit, 0) := by
  unfold recordFault; rw [if_neg hmark, if_pos h]

theorem recordFault_burstLength (words : List Word) (hmark : recordMark words ≠ 0) (hlimit : recordRetryLimit words ≤ 15)
    (h : recordBurstLength words ∉ [1, 2, 4, 8]) : recordFault words = some (.burstLength, 0) := by
  unfold recordFault
  rw [if_neg hmark, if_neg (Nat.not_lt.mpr hlimit), if_pos]
  simpa using h

/-- A record is valid exactly when it fails no check. -/
theorem recordFault_eq_none_iff (words : List Word) : recordFault words = none ↔
    recordMark words ≠ 0 ∧ recordRetryLimit words ≤ 15 ∧ recordBurstLength words ∈ [1, 2, 4, 8] ∧
    (∀ r, r < 4 → recordSlots words r = 0 ∨ 2 ≤ recordSlots words r ∧ recordSlots words r ≤ 128) ∧
    recordSubscriptionCount words ≤ 16 ∧ ((recordSubscriptions words).map (·.1)).Nodup ∧
    ∀ x ∈ recordSubscriptions words, 2 ≤ recordSlots words x.2.toNat := by
  by_cases hmark : recordMark words = 0
  · rw [recordFault_mark words hmark]; exact iff_of_false nofun fun h => h.1 hmark
  by_cases hlimit : recordRetryLimit words ≤ 15
  case neg =>
    rw [recordFault_retryLimit words hmark (Nat.lt_of_not_le hlimit)]; exact iff_of_false nofun fun h => hlimit h.2.1
  by_cases hlength : recordBurstLength words ∈ [1, 2, 4, 8]
  case neg =>
    rw [recordFault_burstLength words hmark hlimit hlength]; exact iff_of_false nofun fun h => hlength h.2.2.1
  by_cases hslots : ∀ q, q < 4 → recordSlots words q = 0 ∨ 2 ≤ recordSlots words q ∧ recordSlots words q ≤ 128
  case neg =>
    refine iff_of_false ?_ fun h => hslots h.2.2.2.1
    push Not at hslots
    obtain ⟨q, hq, hne, hout⟩ := hslots
    cases hfind : (List.range 4).find? (fun r => !slotCountAllowed (recordSlots words r)) with
    | some r => rw [recordFault_ringSlots words hmark hlimit hlength r hfind]; nofun
    | none =>
      rw [List.find?_eq_none] at hfind
      have := hfind q (List.mem_range.mpr hq)
      rw [Bool.not_eq_true, Bool.not_eq_false', slotCountAllowed_iff] at this
      omega
  rw [recordFault_entries words hmark hlimit hlength hslots]
  by_cases hcount : 16 < recordSubscriptionCount words
  · rw [if_pos hcount]; exact iff_of_false nofun fun h => absurd h.2.2.2.2.1 (Nat.not_le.mpr hcount)
  · rw [if_neg hcount, entryFault_eq_none_iff]
    simp only [List.not_mem_nil, not_false_eq_true, true_and]
    constructor
    · rintro ⟨hnodup, hused⟩
      exact ⟨hmark, hlimit, hlength, hslots, Nat.not_lt.mp hcount, hnodup, hused⟩
    · rintro ⟨-, -, -, -, -, hnodup, hused⟩
      exact ⟨hnodup, hused⟩

/-- The two low bits of a ring's base address are taken as zero (R160). -/
theorem recordBase_toNat (words : List Word) (r : Nat) :
    (recordBase words r).toNat = (recordWord words (4 + 2 * r)).toNat / 4 * 4 := by
  unfold recordBase
  have := (recordWord words (4 + 2 * r)).isLt
  simp only [BitVec.toNat_append, BitVec.extractLsb'_toNat, BitVec.toNat_ofNat, Nat.shiftLeft_eq, Nat.shiftRight_eq_div_pow]
  simp only [Nat.zero_mod, Nat.or_zero]
  omega

end Sys2Proof.Machine
end

section
/-! PROOF. The ends of a load, the answers of the bus partner and the bus timeout keep the invariant (R144 to R146, R157 to
R162). -/

namespace Sys2Proof.Machine

/-! ### The bus master at the end of a burst (R141, R146) -/

section Burst
variable {b : BusMaster} {loading fetching delivering : Prop} (h : b.Serves True loading fetching delivering)
include h

/-- The current burst ends, and its client's request with it; the arbiter has still to grant. -/
theorem BusMaster.Serves.endRequest (c : Client) :
    ((b.endBurst).setRequest c none).Serves False (loading ∧ c ≠ .loader) (fetching ∧ c ≠ .fetch) (delivering ∧ c ≠ .delivery) := by
  cases c
  · exact ⟨Iff.rfl, h.lastGrant, h.lengths, nofun, h.readsFetch, h.writes, nofun, nofun, by simp [BusMaster.setRequest],
      h.fetch.trans (by simp), h.delivery.trans (by simp)⟩
  · exact ⟨Iff.rfl, h.lastGrant, h.lengths, h.readsLoad, nofun, h.writes, nofun, nofun, h.loader.trans (by simp),
      by simp [BusMaster.setRequest], h.delivery.trans (by simp)⟩
  · exact ⟨Iff.rfl, h.lastGrant, h.lengths, h.readsLoad, h.readsFetch, nofun, nofun, nofun, h.loader.trans (by simp),
      h.fetch.trans (by simp), by simp [BusMaster.setRequest]⟩

/-- The current burst ends with words of its request left. -/
theorem BusMaster.Serves.nextBurst (c : Client) (r : Request) (hr : b.request c = some r) (done : Nat) (hdone : done < r.words) :
    ((b.endBurst).setRequest c (some { r with done := done })).Serves False loading fetching delivering := by
  cases c
  · refine ⟨Iff.rfl, h.lastGrant, h.lengths, ?_, h.readsFetch, h.writes, nofun, nofun, ?_, h.fetch, h.delivery⟩
    · rintro _ ⟨⟩; exact ⟨hdone, (h.readsLoad r hr).2⟩
    · exact (iff_of_true rfl (h.loader.mp (by simp [show b.loader = some r from hr])))
  · refine ⟨Iff.rfl, h.lastGrant, h.lengths, h.readsLoad, ?_, h.writes, nofun, nofun, h.loader, ?_, h.delivery⟩
    · rintro _ ⟨⟩; exact ⟨hdone, (h.readsFetch r hr).2⟩
    · exact (iff_of_true rfl (h.fetch.mp (by simp [show b.fetch = some r from hr])))
  · refine ⟨Iff.rfl, h.lastGrant, h.lengths, h.readsLoad, h.readsFetch, ?_, nofun, nofun, h.loader, h.fetch, ?_⟩
    · rintro _ ⟨⟩; exact ⟨hdone, (h.writes r hr).2⟩
    · exact (iff_of_true rfl (h.delivery.mp (by simp [show b.delivery = some r from hr])))

/-- The next word of the current burst is presented. -/
theorem BusMaster.Serves.nextWord (u : Burst) (hu : b.burst = some u) (hwords : u.answered + 1 < u.words) (t : Time) :
    BusMaster.Serves True { b with burst := some { u with answered := u.answered + 1 }, timeout := some t } loading fetching
      delivering := by
  obtain ⟨-, short, block, r, hr, k⟩ := h.carries u hu
  refine { h with timed := Iff.rfl, free := nofun, carries := ?_ }
  rintro _ ⟨⟩
  exact ⟨hwords, short, block, r, by cases hc : u.client <;> (rw [hc] at hr; exact hr), k⟩

end Burst

/-- The bus master's part after the arbiter's turn. -/
theorem State.BusServes.grant {granted : Prop} {s : State} (h : s.BusServes granted) : s.grant.BusServes True :=
  BusMaster.Serves.grant h s.now

/-- After the arbiter's turn the invariant holds of a state that has it but for what the arbiter has still to grant. -/
theorem State.SoundIn.granted {st : StationState} {s t : State} (h : s.SoundIn st)
    (ht : ∃ bus, s = { t with bus := bus }) (hb : t.BusServes False) : t.grant.SoundIn st := by
  obtain ⟨bus, rfl⟩ := ht
  exact { h with bus := hb.grant }

/-! ### The ends of a request at its client -/

theorem recordRing_sound (words : List Word) (r : Nat)
    (hslots : recordSlots words r = 0 ∨ 2 ≤ recordSlots words r ∧ recordSlots words r ≤ 128) :
    (recordRing words r).SoundFor 0 where
  slots    := hslots.imp (fun e => ⟨e, rfl⟩) fun e => ⟨e.1, e.2, Nat.lt_of_lt_of_le Nat.two_pos e.1⟩
  counts   := Nat.zero_le _
  reserved := rfl
  base     := by show (recordBase words r).toNat % 4 = 0; rw [recordBase_toNat]; omega

section Ends
variable {s : State} (h : s.Sound) (bus : BusMaster)
include h

/-- The fetch has completed or failed. -/
theorem State.Sound.fetchEnded (hhead : s.send.head = some .fetching)
    (hb : bus.Serves False (s.host.loading = true) False (s.delivery.engine.code = 1)) (act : State → State)
    (hact : ∀ t : State, t.FetchEnded s.member.station False → (act t).Sends s.member.station False)
    (hframe : ∀ t : State, ∃ send bus events, act t = { t with send := send, bus := bus, events := events }) :
    (act { s with bus := bus }).grant.Sound := by
  have k := hact { s with bus := bus } ⟨h.send, hhead, hb⟩
  obtain ⟨u, b, e, eq⟩ := hframe { s with bus := bus }
  rw [eq] at k ⊢
  exact { h with send := k.send, bus := k.bus.grant }

/-- The delivery's request has completed or failed. -/
theorem State.Sound.deliveryEnded
    (hb : bus.Serves False (s.host.loading = true) (s.send.head = some .fetching) False) (act : State → State)
    (hact : ∀ t : State, t.DeliveryEnded False → t.delivery = s.delivery → (act t).Stores False)
    (hframe : ∀ t : State, ∃ delivery bus events, act t = { t with delivery := delivery, bus := bus, events := events }) :
    (act { s with bus := bus }).grant.Sound := by
  obtain ⟨hstore, hphase⟩ := s.storeSound_iff.mp h.store
  have k := hact { s with bus := bus } ⟨{ hstore with }, hb⟩ rfl
  obtain ⟨d, b, e, eq⟩ := hframe { s with bus := bus }
  rw [eq] at k ⊢
  exact { h with store := (State.storeSound_iff _).mpr ⟨{ k.store with }, hphase⟩, bus := k.bus.grant }

/-- The load ends without a record (R159, R161). -/
theorem State.Sound.loadEnded
    (hb : bus.Serves False False (s.send.head = some .fetching) (s.delivery.engine.code = 1)) (event : Event) :
    (State.post { s with bus := bus, host := s.host.endLoad } event).grant.Sound := by
  obtain ⟨number, timers, counts, own, hmark, -⟩ := h.member
  exact { h with
    member := ⟨number, timers, counts, own, hmark, nofun⟩
    bus := State.BusServes.grant (granted := False) (hb.of_work (by simp [State.post, HostPort.endLoad]) Iff.rfl Iff.rfl) }

/-- What CONFIG says of the blocks that a record is loaded into. -/
theorem State.Sound.in_config (hs : s.member.station = .config) : s.send.queue = [] ∧ s.send.head = none ∧ s.delivery.store = [] ∧
    s.delivery.engine = .idle ∧ s.filter.context = none ∧ s.path.phase = .clear ∧ s.path.insertion = none := by
  obtain ⟨hp, hi, -, -⟩ := h.off_ring (by simp [State.onRing, State.mode, hs, StationState.mode])
  have hq := h.send.config hs
  have hstore := (s.storeSound_iff.mp h.store).1
  have hempty := (hstore.config hs).1
  refine ⟨hq, h.send.head.1.mpr hq, hempty, ?_, State.SoundIn.context_phase h (by simp [hp]), hp, hi⟩
  have := hstore.engine
  rw [Delivery.Settled, Delivery.engineSound_iff] at this
  rcases this with ⟨hidle, -⟩ | ⟨_, _, _, _, _, -, k, -⟩ | ⟨_, _, _, _, -, k, -⟩
  · exact hidle
  · simp [hempty] at k
  · simp [hempty] at k

/-- A valid record is loaded (R162). -/
theorem State.Sound.recordLoaded (hs : s.member.station = .config)
    (hb : bus.Serves False False (s.send.head = some .fetching) (s.delivery.engine.code = 1)) (words : List Word)
    (hwords : recordFault words = none) : (State.loadRecord { s with bus := bus } words).grant.Sound := by
  obtain ⟨hmark, hlimit, hlength, hslots, hcount, hnodup, hused⟩ := (recordFault_eq_none_iff words).mp hwords
  have hallowed : recordBurstLength words = 1 ∨ recordBurstLength words = 2 ∨ recordBurstLength words = 4 ∨
      recordBurstLength words = 8 := by simpa using hlength
  obtain ⟨hq, hhead, hempty, hidle, hcontext, hphase, hins⟩ := h.in_config hs
  obtain ⟨number, ⟨sub, timer, isolation, departs⟩, ⟨n, o, c, l, most, -⟩, ⟨frames, announce, depart⟩, -⟩ := h.member
  obtain ⟨-, -, hnum, hrun⟩ := h.off_ring (by simp [State.onRing, State.mode, hs, StationState.mode])
  obtain ⟨hsub, hleave⟩ := h.no_leave (by simp [hs])
  have hown := h.no_census_frame (.inl hsub)
  rw [hs] at sub timer isolation departs announce depart
  have hring : ∀ r : BitVec 2, ((Vector.ofFn fun i : Fin 4 => recordRing words i.val)[r.toNat]'r.isLt) =
      recordRing words r.toNat := fun r => by simp
  have hstores := (s.storeSound_iff.mp h.store).1
  have hsend := h.send.of_calm (st' := .pass) (h.send.calm_off_run hrun) nofun fun _ => .inl hq
  obtain ⟨-, start, -, -⟩ := hsend.attempts
  refine { h with
    member := ⟨⟨by simp [hnum, State.onRing, State.mode, StationState.mode, State.grant, State.loadRecord, State.post], 
        fun x (hx : x ∈ s.member.number) => by { rw [hnum] at hx; cases hx }⟩,
      ⟨iff_of_false (fun e => absurd (sub.mp e) (by simp)) nofun, iff_of_false (fun e => absurd (timer.mp e) (by simp)) nofun,
        iff_of_false (fun e => absurd (isolation.mp e) (by simp)) nofun, iff_of_false (fun e => absurd (departs.mp e) (by simp)) nofun⟩,
      ⟨n, o, c, l, most, nofun⟩,
      ⟨fun f (hf : f ∈ s.path.ownCensus) => by { rw [hown] at hf; cases hf },
        fun e => absurd (announce e) (by simp), fun e => absurd (depart e) (by simp)⟩, fun _ => hmark, nofun⟩
    roster := ⟨h.roster.1, nofun⟩
    send := { hsend with attempts := ⟨hlimit, start, fun e => ?_, fun e => ?_⟩ }
    store := (State.storeSound_iff _).mpr ⟨?_, fun c hc => ?_⟩
    path := ⟨h.path.1, nofun, fun e => absurd hphase e, fun e => ?_, h.path.2.2.2.2⟩
    trigger := { h.trigger.off_run hrun .pass with }
    bus := State.BusServes.grant (granted := False) ?_ }
  · exact absurd (show s.send.head = some .inFlight from e) (by simp [hhead])
  · exact absurd (show s.send.head = some .retryWait from e) (by simp [hhead])
  · have hst : (State.grant (State.loadRecord { s with bus := bus } words)).delivery.store = [] := hempty
    refine ⟨by rw [hst]; simp [placesUsed], by rw [hst]; nofun, by rw [hst]; nofun, by rw [hst]; nofun, fun r => ?_, ?_, ?_, ?_, ?_, nofun⟩
    · rw [hst]
      show DeliveryRing.SoundFor 0 ((Vector.ofFn fun i : Fin 4 => recordRing words i.val)[r.toNat]'r.isLt)
      rw [hring]
      exact recordRing_sound words _ (hslots _ r.isLt)
    · exact Delivery.settled_idle hidle (by rw [hst]; nofun)
    · rw [hst]; exact fun _ => nofun
    · intro c (hc : s.filter.context = some c)
      rw [hcontext] at hc
      cases hc
    · refine ⟨?_, hnodup, fun x hx => ?_⟩
      · show (recordSubscriptions words).length ≤ 16
        simpa [recordSubscriptions] using hcount
      · show 2 ≤ ((Vector.ofFn fun i : Fin 4 => recordRing words i.val)[x.2.toNat]'x.2.isLt).slots
        rw [hring]
        exact hused x hx
  · rw [show s.filter.context = some c from hc] at hcontext
    cases hcontext
  · have e : s.path.insertion.isSome := e
    simp [hins] at e
  · refine BusMaster.Serves.of_work (loading := False) (fetching := s.send.head = some .fetching)
      (delivering := s.delivery.engine.code = 1) { hb with lengths := hallowed } ?_ Iff.rfl Iff.rfl
    exact iff_of_false id nofun

theorem State.Sound.loadCompleted (hs : s.member.station = .config)
    (hb : bus.Serves False False (s.send.head = some .fetching) (s.delivery.engine.code = 1)) :
    (State.loadCompleted { s with bus := bus }).grant.Sound := by
  unfold State.loadCompleted
  split
  next hwords => exact h.recordLoaded bus hs hb _ hwords
  · exact h.loadEnded bus hb _

end Ends

/-! ### The bus partner's answer and the bus timeout (R144, R145) -/

section Answer
variable {s : State} (h : s.Sound) (b : Burst) (hburst : s.bus.burst = some b)
include h hburst

theorem State.Sound.failBurst (cause : BusCause) : (s.failBurst b cause).Sound := by
  obtain ⟨-, -, -, r, hr, -⟩ := h.bus.carries b hburst
  have hb := BusMaster.Serves.endRequest h.bus b.client
  unfold State.failBurst State.requestFailed
  dsimp only
  cases hc : b.client with
  | loader =>
    rw [hc] at hb
    exact h.loadEnded _ (hb.of_work (by simp) (by simp) (by simp)) _
  | fetch =>
    rw [hc] at hb hr
    have hhead := h.bus.fetch.mp (by simp [show s.bus.fetch = some r from hr])
    exact h.fetchEnded _ hhead (hb.of_work (by simp) (by simp) (by simp)) State.fetchFailed (fun _ k => k.failed) State.fetchFailed_frame
  | delivery =>
    rw [hc] at hb hr
    have hcode := h.bus.delivery.mp (by simp [show s.bus.delivery = some r from hr])
    refine h.deliveryEnded _ (hb.of_work (by simp) (by simp) (by simp)) (·.failDelivery cause b.address)
      (fun t k hd => k.failed (by rw [hd]; exact hcode) cause b.address) fun t => ?_
    obtain ⟨d, e, eq⟩ := t.failDelivery_frame cause b.address
    exact ⟨d, t.bus, e, eq⟩

omit hburst in
theorem State.Sound.completeBurst (r : Request) (hr : s.bus.request b.client = some r) : (s.completeBurst b r).Sound := by
  have hb := BusMaster.Serves.endRequest h.bus b.client
  unfold State.completeBurst State.requestCompleted
  dsimp only
  split
  · cases hc : b.client with
    | loader =>
      rw [hc] at hb hr
      have hload := h.bus.loader.mp (by simp [show s.bus.loader = some r from hr])
      exact h.loadCompleted _ (h.member.2.2.2.2.2 hload) (hb.of_work (by simp) (by simp) (by simp))
    | fetch =>
      rw [hc] at hb hr
      have hhead := h.bus.fetch.mp (by simp [show s.bus.fetch = some r from hr])
      exact h.fetchEnded _ hhead (hb.of_work (by simp) (by simp) (by simp)) State.fetchCompleted (fun _ k => k.completed)
        State.fetchCompleted_frame
    | delivery =>
      rw [hc] at hb hr
      have hcode := h.bus.delivery.mp (by simp [show s.bus.delivery = some r from hr])
      exact h.deliveryEnded _ (hb.of_work (by simp) (by simp) (by simp)) State.deliveryRequestCompleted
        (fun t k hd => k.completed (by rw [hd]; exact hcode)) State.deliveryRequestCompleted_frame
  next hleft =>
    exact State.SoundIn.granted (t := { s with bus := (s.bus.endBurst).setRequest b.client (some { r with done := r.done + b.words }) })
      h ⟨s.bus, rfl⟩ (BusMaster.Serves.nextBurst h.bus b.client r hr _ (Nat.lt_of_not_le hleft))

omit hburst in
/-- A word is transferred: nothing that the bus master's part speaks of changes. -/
theorem State.Sound.transferWord (r : Request) (hr : s.bus.request b.client = some r) (data : Word) :
    (s.transferWord b r data).Sound ∧ (s.transferWord b r data).bus = s.bus := by
  unfold State.transferWord
  cases hc : b.client with
  | loader => exact ⟨{ h with }, rfl⟩
  | fetch =>
    rw [hc] at hr
    have hhead := h.bus.fetch.mp (by simp [show s.bus.fetch = some r from hr])
    have k := (State.SoundIn.sends h).stageWord hhead data
    obtain ⟨u, e⟩ := s.stageWord_frame data
    dsimp only
    rw [e] at k ⊢
    exact ⟨{ h with send := k.send, bus := k.bus }, rfl⟩
  | delivery => exact ⟨{ h with written := writeWord_rising _ _ _ h.written }, rfl⟩

theorem State.Sound.answerWord (r : Request) (hr : s.bus.request b.client = some r) (data : Word) :
    (s.answerWord b r data).Sound := by
  obtain ⟨ht, hbus⟩ := h.transferWord b r hr data
  rw [← hbus] at hburst hr
  unfold State.answerWord
  dsimp only
  split
  next hmore => exact { ht with bus := BusMaster.Serves.nextWord ht.bus b hburst hmore _ }
  · exact ht.completeBurst b r hr

end Answer

theorem State.Sound.busAnswer {s : State} (h : s.Sound) (answer : BusAnswer) : (s.busAnswer answer).Sound := by
  unfold State.busAnswer
  split
  · exact h
  next b hburst =>
    split
    · exact h
    next r data hr => exact h.answerWord b hburst r hr data
    · exact h.failBurst b hburst .error
    · exact h

theorem State.Sound.busTimedOut {s : State} (h : s.Sound) : s.busTimedOut.Sound := by
  unfold State.busTimedOut
  split
  · exact h
  next b hburst => exact h.failBurst b hburst .timeout

/-- CONFIGURE taken: the load begins (R158). -/
theorem State.Sound.startLoad {s : State} (h : s.Sound) (hs : s.member.station = .config) (hload : s.host.loading = false)
    (address : Word) : (s.startLoad address).Sound := by
  obtain ⟨number, timers, counts, own, hmark, -⟩ := h.member
  have hb : s.bus.Serves True False (s.send.head = some .fetching) (s.delivery.engine.code = 1) :=
    h.bus.of_work (by simp [hload]) Iff.rfl Iff.rfl
  exact { h with
    member := ⟨number, timers, counts, own, hmark, fun _ => hs⟩
    bus := (hb.requestLoader s.now address 20 (by decide)).of_work (iff_of_true trivial rfl) Iff.rfl Iff.rfl }

end Sys2Proof.Machine
end

section
/-! PROOF. The nine host commands keep the invariant (8.3), and with them every command: the step lemmas O56 to O60. -/

namespace Sys2Proof.Machine

/-! ### The nine commands (8.3) -/

section Judge
variable {s : State} (h : s.Sound)
include h

theorem State.Sound.setHost (host : HostPort) (hload : host.loading = s.host.loading) : State.Sound { s with host := host } := by
  obtain ⟨number, timers, counts, own, hmark, hconfig⟩ := h.member
  exact { h with
    member := ⟨number, timers, counts, own, hmark, by dsimp only; rw [hload]; exact hconfig⟩
    bus := h.bus.of_work (by dsimp only; rw [hload]) Iff.rfl Iff.rfl }

theorem State.Sound.judgeConfigure (address : Word) : (s.judgeConfigure address).2.Sound := by
  unfold State.judgeConfigure
  split
  · exact h
  next hs =>
    split
    · exact h
    next hload =>
      split
      · exact h
      · exact h.startLoad (Classical.not_not.mp hs) (by simpa using hload) address

theorem State.Sound.judgeJoin : s.judgeJoin.2.Sound := by
  unfold State.judgeJoin
  split
  next hs => exact h.censusEntry (by simp [hs]) (by simp [hs]) _
  · exact h

theorem State.Sound.judgeLeave : s.judgeLeave.2.Sound := by
  unfold State.judgeLeave
  split
  next hs => exact h.leaveRun hs
  next hs => exact h.leaveCensus hs
  next hs => exact h.leaveOutside (.inl hs) _
  next hs =>
    have hnone : s.member.isolationTimer = none := by
      have := h.member.2.1.2.2.1
      rw [hs] at this
      simpa using this
    have heta : ({ s.member with station := .pass, isolationTimer := none } : Membership) = { s.member with station := .pass } := by
      rw [← hnone]
    have hpass := h.leaveOutside (.inr hs)
    rw [heta] at hpass
    exact hpass _
  all_goals exact h

theorem State.Sound.enqueue (e : SendEntry) (hst : s.member.station ≠ .config ∧ s.member.station ≠ .pass ∧ s.member.station ≠ .leaving)
    (hlen : e.length.toNat ≤ 64) (haddr : e.address.toNat % 4 = 0) (hroom : s.send.queue.length < 16) : (s.enqueue e).Sound := by
  have k := (State.SoundIn.sends h).enqueue e hst hlen haddr hroom
  obtain ⟨u, b, eq⟩ := s.enqueue_frame e
  rw [eq] at k ⊢
  exact { h with send := k.send, bus := k.bus }

theorem State.Sound.judgeSend (stream length : BitVec 8) (address : Word) (tag : Halfword) :
    (s.judgeSend stream length address tag).2.Sound := by
  have taken : s.member.station ≠ .config ∧ s.member.station ≠ .pass ∧ s.member.station ≠ .leaving →
      (if 64 < length.toNat ∨ 63 < stream.toNat ∨ address.toNat % 4 ≠ 0 then (CommandValue.range, s)
       else if 16 ≤ s.send.queue.length then (.full, s)
       else (.ok, s.enqueue { stream := stream.setWidth 6, length := length.setWidth 7, address := address, tag := tag })).2.Sound := by
    intro hst
    split
    · exact h
    next hgood =>
      split
      · exact h
      next hroom =>
        push Not at hgood
        refine h.enqueue _ hst ?_ hgood.2.2 (Nat.lt_of_not_le hroom)
        rw [BitVec.toNat_setWidth]
        exact Nat.le_trans (Nat.mod_le _ _) hgood.1
  unfold State.judgeSend
  split
  · exact h
  · exact h
  · exact h
  · exact h
  all_goals next hs => exact taken (by simp [hs])

theorem State.Sound.judgeCancel (tag : Halfword) : (s.judgeCancel tag).2.Sound := by
  unfold State.judgeCancel
  split
  · have k := (State.SoundIn.sends h).cancelSends tag
    obtain ⟨u, b, e, eq⟩ := s.cancelSends_frame tag
    dsimp only
    rw [eq] at k ⊢
    exact { h with send := k.send, bus := k.bus }
  · exact h

theorem State.Sound.judgeTrigger (group : BitVec 8) : (s.judgeTrigger group).2.Sound := by
  unfold State.judgeTrigger
  split
  · exact h
  next hs =>
    split
    · exact h
    split
    · exact h
    · exact State.SoundIn.raiseTrigger h (Classical.not_not.mp hs) _

/-- What changes the store and the bus master alone keeps the invariant. -/
theorem State.Sound.of_delivery {t : State} (k : t.Stores True)
    (hf : ∃ delivery bus events, t = { s with delivery := delivery, bus := bus, events := events }) : t.Sound := by
  obtain ⟨d, b, e, rfl⟩ := hf
  exact State.SoundIn.of_stores h k ⟨s.filter, d, b, e, s.counters, rfl⟩ (s.storeSound_iff.mp h.store).2

theorem State.Sound.judgeRelease (ring n : BitVec 8) : (s.judgeRelease ring n).2.Sound := by
  unfold State.judgeRelease
  dsimp only
  split
  · exact h
  split
  · exact h
  · exact h.of_delivery ((State.SoundIn.stores h).releaseSlots _ _) ⟨_, s.bus, s.events, rfl⟩

theorem State.Sound.judgeResume (skip : Bool) : (s.judgeResume skip).2.Sound := by
  unfold State.judgeResume
  split
  next hd =>
    cases skip
    · obtain ⟨d, b, e⟩ := s.resumeDelivery_frame
      exact h.of_delivery ((State.SoundIn.stores h).resumeDelivery hd) ⟨d, b, s.events, e⟩
    · exact h.of_delivery ((State.SoundIn.stores h).skipDelivery hd) s.skipDelivery_frame
  · exact h
  · exact h

theorem State.Sound.judgeQuery (subject : BitVec 8) : (s.judgeQuery subject).2.Sound := by
  unfold State.judgeQuery
  split
  · exact h
  next subject _ =>
    split
    · exact h
    · unfold State.enterReport
      cases subject <;> exact { h with }

theorem State.Sound.judge (c : HostCommand) : (s.judge c).2.Sound := by
  cases c with
  | configure address => exact h.judgeConfigure address
  | join => exact h.judgeJoin
  | leave => exact h.judgeLeave
  | send stream length address tag => exact h.judgeSend stream length address tag
  | cancel tag => exact h.judgeCancel tag
  | trigger group => exact h.judgeTrigger group
  | release ring n => exact h.judgeRelease ring n
  | resume skip => exact h.judgeResume skip
  | query subject => exact h.judgeQuery subject

/-! ### The collector and the window (8.1, 8.2) -/

theorem State.Sound.setStatus (value : CommandValue) (code : BitVec 8) (words : Nat) : (s.setStatus value code words).Sound :=
  h.setHost _ rfl

theorem State.Sound.finishCommand (code : BitVec 8) (words : List Halfword) : (s.finishCommand code words).Sound := by
  have hempty := h.setHost { s.host with collector := none } rfl
  unfold State.finishCommand
  dsimp only
  split
  next c _ => exact (hempty.judge c).setStatus _ _ _
  · exact hempty.setStatus _ _ _

theorem State.Sound.collect (code : BitVec 8) (count : Nat) (words : List Halfword) : (s.collect code count words).Sound :=
  (h.setHost { s.host with collector := some { code := code, count := count, words := words } } rfl).setStatus _ _ _

theorem State.Sound.writeCommand (w : Halfword) : (s.writeCommand w).Sound := by
  unfold State.writeCommand
  split
  · split
    · exact h.collect _ _ _
    · exact h.finishCommand _ _
  · split
    · split
      · exact h.finishCommand _ _
      · exact h.collect _ _ _
    · exact h.setStatus _ _ _

theorem State.Sound.writeRecord (c : HostCommand) : (s.writeRecord c).Sound := by
  unfold State.writeRecord
  split
  · exact (h.judge c).setStatus _ _ _
  · refine List.foldlRecOn c.words State.writeCommand h fun t ht w _ => State.Sound.writeCommand ht w

theorem State.Sound.windowWrite (address : BitVec 5) (value : Halfword) : (s.windowWrite address value).Sound := by
  unfold State.windowWrite
  split
  · exact h.writeCommand value
  · exact (h.setHost { s.host with collector := none } rfl).setStatus _ _ _
  · exact { h with }
  · exact h

theorem State.Sound.windowRead (address : BitVec 5) : (s.windowRead address).Sound := by
  have htake : (s.windowTake address).Sound := by
    unfold State.windowTake
    split
    · exact { h with }
    · exact h.setHost _ rfl
    · exact h
  unfold State.windowRead
  dsimp only
  split
  · exact h.setHost _ rfl
  · exact htake.setHost _ rfl

end Judge

/-! ### Timers -/

theorem State.Sound.expiry {s : State} (h : s.Sound) (timer : State → Timer) (act : State → State)
    (hact : ∀ t, timer s = some t → (act (s.reach t)).Sound) : (s.expiry timer act).Sound := by
  cases ht : timer s with
  | none => rw [s.expiry_stopped timer act ht]; exact h
  | some t => rw [s.expiry_running timer act t ht]; exact hact t ht

theorem State.Sound.sendIfNext {s : State} (h : s.Sound) (i : Item) : (s.sendIfNext i).Sound := by
  unfold State.sendIfNext
  split
  next hi => exact h.sendItem i hi
  · exact h

theorem State.Sound.sendCensusIf {s : State} (h : s.Sound) (kind : Frame → Bool) : (s.sendCensusIf kind).Sound := by
  unfold State.sendCensusIf
  split
  · exact h.sendIfNext .census
  · exact h

theorem State.Sound.attemptLost {s : State} (h : s.Sound) : s.attemptLost.Sound := by
  have k := (State.SoundIn.sends h).attemptLost
  obtain ⟨u, b, e, c, eq⟩ := s.attemptLost_frame
  rw [eq] at k ⊢
  exact { h with send := k.send, bus := k.bus }

/-- The retry gap is over (R68). -/
theorem State.Sound.gapOver {s : State} (h : s.Sound) : State.Sound { s with send := { s.send with gapTimer := none } } := by
  obtain ⟨none_iff, returnTimer, -, cancel, disposition, context⟩ := h.send.head
  exact { h with send := { h.send with head := ⟨none_iff, returnTimer, nofun, cancel, disposition, context⟩ } }

/-! ### Every command -/

/-- A command other than a change of the RESET pin keeps the invariant of the state of its moment. -/
theorem State.Sound.actOf {s : State} (h : s.Sound) (c : Instr) (hc : ∀ o, c ≠ .resetAsserted o) : (actOf c s).Sound := by
  have receives : ∀ silence f act, (∀ t : State, t.Sound → t.Fresh → Frame.unusable f = false → t.onRing = true → (act t).Sound) →
      (s.receive silence (·.byMode f act)).Sound := fun silence f act k =>
    h.receive silence _ fun t ht kt => ht.byMode kt f act (k t ht kt)
  cases c
  case resetAsserted o => exact absurd rfl (hc o)
  case resetReleased => exact { h with released := rfl }
  case linkUp => exact h.symbolArrives
  case fillSymbolArrives => exact h.symbolArrives
  case linkLoss o first => exact h.expiry _ _ fun t _ => (h.reach t).linkLost first
  case fill => exact h.fillReported
  case badFrameArrives o r => exact h.receive _ _ fun t ht kt => ht.badFrame kt _
  case headArrives o b => exact receives _ _ _ fun t ht kt hb hring => ht.activeHead kt b hb hring
  case dataArrives o b => exact receives _ _ _ fun t ht kt _ hring => ht.activeData kt b hring
  case tailArrives o b => exact receives _ _ _ fun t ht kt _ hring => ht.activeTail kt b hring
  case announceArrives o b => exact receives _ _ _ fun t ht kt _ hring => ht.activeAnnounce kt b hring
  case triggerArrives o b => exact receives _ _ _ fun t ht kt _ hring => ht.activeTrigger kt b hring
  case voidArrives o b => exact receives _ _ _ fun t ht kt _ hring => ht.activeVoid kt b hring
  case departArrives o b => exact receives _ _ _ fun t ht kt _ hring => ht.activeDepart kt b hring
  case claimArrives o b =>
    exact h.receive _ _ fun t ht kt => ht.censusFrame kt _ _ _ (fun _ u hu ku hs => hu.censusClaim hs ku b)
      fun _ u hu ku hs => hu.censusClaim hs ku b
  case numberArrives o b =>
    exact h.receive _ _ fun t ht kt => ht.censusFrame kt _ _ _ (fun hb u hu ku hs => hu.censusNumber hs ku b hb) fun _ u hu _ _ => hu
  case ringUpArrives o b =>
    exact h.receive _ _ fun t ht kt => ht.censusFrame kt _ _ _ (fun hb u hu ku hs => hu.censusRingUp hs ku b hb) fun _ u hu _ _ => hu
  case ownClaimSent => exact h.sendCensusIf _
  case ownNumberSent => exact h.sendCensusIf _
  case ownRingUpSent => exact h.sendCensusIf _
  case ownAnnounceSent => exact h.sendIfNext _
  case ownDepartSent => exact h.sendIfNext _
  case attemptBegins => exact h.sendIfNext _
  case ownRecordFrameSent => exact h.sendIfNext _
  case ownTriggerSent => exact h.sendIfNext _
  case bypassBufferFrameSent => exact h.sendIfNext _
  case arrivingFrameForwarded => exact h.sendIfNext _
  case censusTimerExpires =>
    refine h.expiry _ _ fun t ht => (h.reach t).censusTimedOut ?_
    rw [State.reach_member_station]
    exact h.member.2.1.2.1.mp (Option.isSome_of_eq_some ht)
  case isolationIntervalExpires =>
    refine h.expiry _ _ fun t ht => (h.reach t).censusEntryIsolated ?_ none
    rw [State.reach_member_station]
    exact h.member.2.1.2.2.1.mp (Option.isSome_of_eq_some ht)
  case departLimitTimerExpires =>
    refine h.expiry _ _ fun t ht => (h.reach t).leaveRing ?_
    rw [State.reach_member_station]
    exact h.member.2.1.2.2.2.mp (Option.isSome_of_eq_some ht)
  case returnTimerExpires => exact h.expiry _ _ fun t _ => (h.reach t).attemptLost
  case retryGapTimerExpires => exact h.expiry _ _ fun t _ => (h.reach t).gapOver
  case triggerReturnTimerExpires => exact h.expiry _ _ fun t _ => State.SoundIn.finishTrigger (h.reach t) _
  case fireDue o entry => exact h.fireEntry entry
  case trigPulseTimerExpires => exact h.expiry _ _ fun t _ => State.SoundIn.endPulse (h.reach t)
  case busTimeout => exact h.expiry _ _ fun t _ => (h.reach t).busTimedOut
  case busWordAnswered o answer => exact h.busAnswer answer
  case unknownCommand o word => exact h.writeCommand word
  case commandWordCollected o word => exact h.windowWrite 0 word
  case commandClear o value => exact h.windowWrite 2 value
  case interruptEnableWrite o value => exact h.windowWrite 14 value
  case ignoredWrite o address value => exact h.windowWrite address value
  case eventRead => exact h.windowRead 6
  case stationStatusFirstRead => exact h.windowRead 10
  all_goals exact h.writeRecord _

/-! ### RESET -/

/-- After the release of the pin or its assertion the blocks stand at their reset values. -/
theorem State.Inv.assertReset {s : State} (h : s.Inv) (o : Occasion) (hreset : s.resetPin = false) :
    ((s.at o).assertReset).Inv := by
  obtain ⟨apart, -, -⟩ := (h.sound hreset).at o |>.sent
  refine State.inv_of_reset _ rfl (apart.filter _) (fun f hf => ?_) ((h.sound hreset).at o).written
  exact of_decide_eq_true (List.mem_filter.mp hf).2

/-- A state under RESET keeps the invariant as the clock moves on and the pin is released or asserted again. -/
theorem State.Inv.asserted {s : State} (h : s.Inv) (hreset : s.resetPin = true) (pin : Bool) (t : Time) (order : List Poster) :
    State.Inv { s with resetPin := pin, now := max s.now t, order := order } ∧ s.path.bypass = [] ∧ s.host.readData = 0 ∧
      { s with now := max s.now t, order := order } = State.assertReset { s with now := max s.now t, order := order } := by
  have hs := h.reset hreset
  obtain ⟨apart, before, -⟩ := h.path.2.2
  have hgone : ∀ f ∈ s.outside.ringOut, f.start + 80 ≤ s.now := by
    intro f hf
    rw [hs] at hf
    exact of_decide_eq_true (List.mem_filter.mp hf).2
  have hkept : s.outside.sentBy (max s.now t) = s.outside :=
    s.outside.sentBy_gone _ fun f hf => Nat.le_trans (hgone f hf) (Nat.le_max_left _ _)
  have hblocks : s = { State.reset with
      resetPin := s.resetPin, outside := s.outside, now := s.now, order := s.order, pending := s.pending } := by
    conv_lhs => rw [hs]
    unfold State.assertReset
    rw [s.outside.sentBy_gone _ hgone, hreset]
  refine ⟨State.inv_of_reset _ ?_ apart (fun f hf => Nat.le_trans (hgone f hf) (Nat.le_max_left _ _)) h.written, ?_, ?_, ?_⟩
  · conv_lhs => rw [hblocks]
  · rw [hblocks]; rfl
  · rw [hblocks]; rfl
  · unfold State.assertReset
    dsimp only
    rw [hkept]
    conv_lhs => rw [hblocks]
    rw [hreset]

end Sys2Proof.Machine
end

section
/-! PROOF. Every step keeps the invariant (O56 to O60). -/

namespace Sys2Proof.Machine

/-- The invariant less the event queue's and the collector's parts, which every step keeps by themselves (O55). -/
structure State.Kept (s : State) : Prop where
  member   : s.MemberSound
  roster   : s.RosterSound
  send     : s.SendSound
  store    : s.StoreSound
  receiver : s.ReceiverSound
  path     : s.OutputSound
  trigger  : s.TriggerSound
  reset    : s.ResetSound
  written  : s.WrittenSound
  bus      : s.BusSound

theorem State.Inv.kept {s : State} (h : s.Inv) : s.Kept :=
  ⟨h.member, h.roster, h.send, h.store, h.receiver, h.path, h.trigger, h.reset, h.written, h.bus⟩

theorem State.Sound.kept {s : State} (h : s.Sound) : s.Kept where
  member   := h.member
  roster   := h.roster
  send     := ⟨h.send.head, h.send.attempts, h.send.queue, h.send.attempting, h.send.config, h.send.leaves, h.send.incoming⟩
  store    := h.store
  receiver := h.receiver
  path     := ⟨h.path, h.backlog, h.sent⟩
  trigger  := ⟨h.trigger.schedule, h.trigger.pin, h.trigger.group, h.trigger.returnTimer, h.trigger.own⟩
  reset    := fun k => absurd (h.released.symm.trans k) Bool.false_ne_true
  written  := h.written
  bus      := s.busServes_iff.mp h.bus

/-- The queue of commands takes no part in the invariant. -/
theorem State.Inv.setPending {s : State} (h : s.Inv) (rest : List Instr) : State.Inv { s with pending := rest } :=
  { h with reset := fun k => congrArg (fun t => { t with pending := rest }) (h.reset k) }

theorem answerOf_cases (c : Instr) (s t : State) (h : answerOf c s = .next t) : t = s := by
  unfold answerOf at h
  split at h
  · unfold withinBypass at h
    split at h <;> cases h
    rfl
  · cases h; rfl

/-- Every command keeps the invariant. -/
theorem State.Inv.kept_exec {s t : State} (h : s.Inv) (c : Instr) (hexec : exec c s = .next t) : t.Kept := by
  cases hreset : s.resetPin with
  | false =>
    rw [exec_released c s hreset] at hexec
    rw [answerOf_cases c _ t hexec]
    by_cases hc : ∃ o, c = .resetAsserted o
    · obtain ⟨o, rfl⟩ := hc
      exact (h.assertReset o hreset).kept
    · exact (((h.sound hreset).at c.occasion).actOf c fun o e => hc ⟨o, e⟩).kept
  | true =>
    obtain ⟨k, hempty, hread, hsame⟩ := h.asserted hreset true c.occasion.time c.occasion.order
    rw [← hreset] at k
    have idle := nothingActsUnderReset s c hreset (by simp [hempty])
    cases c
    case resetAsserted o =>
      rw [exec_resetAsserted, s.at_asserted o hreset] at hexec
      cases hexec
      exact hsame ▸ k.kept
    case resetReleased o =>
      rw [exec_resetReleased, s.at_asserted o hreset] at hexec
      cases hexec
      exact (h.asserted hreset false o.time o.order).1.kept
    case eventRead o =>
      obtain rfl := Host.Outcome.next.inj (idle.symm.trans hexec)
      rw [← hread]
      exact k.kept
    case stationStatusFirstRead o =>
      obtain rfl := Host.Outcome.next.inj (idle.symm.trans hexec)
      rw [← hread]
      exact k.kept
    all_goals
      obtain rfl := Host.Outcome.next.inj (idle.symm.trans hexec)
      exact k.kept

theorem State.Inv.kept_step {s t : State} (h : s.Inv) (hstep : step s = .next t) : t.Kept := by
  rcases hp : s.pending with _ | ⟨c, rest⟩
  · rw [step_empty s hp] at hstep
    cases hstep; exact h.kept
  · rw [step_front s c rest hp] at hstep
    exact (h.setPending rest).kept_exec c hstep

/-- Settles O56. -/
theorem membershipStaysSound : Obligations.MembershipStaysSound := fun _ _ h hstep =>
  ⟨(h.kept_step hstep).member, (h.kept_step hstep).roster⟩

/-- Settles O57. -/
theorem sendUnitStaysSound : Obligations.SendUnitStaysSound := fun _ _ h hstep => (h.kept_step hstep).send

/-- Settles O58. -/
theorem storeAndRingsStaySound : Obligations.StoreAndRingsStaySound := fun _ _ h hstep => (h.kept_step hstep).store

/-- Settles O59. -/
theorem pathAndTriggerStaySound : Obligations.PathAndTriggerStaySound := fun _ _ h hstep =>
  ⟨(h.kept_step hstep).receiver, (h.kept_step hstep).path, (h.kept_step hstep).trigger, (h.kept_step hstep).reset, (h.kept_step hstep).written⟩

/-- Settles O60. -/
theorem busStaysSound : Obligations.BusStaysSound := fun _ _ h hstep => (h.kept_step hstep).bus

end Sys2Proof.Machine
end

section
/-! PROOF. The census entry of a station that is not on the ring, and the commands JOIN (O14), SEND (O16) and CANCEL (O17). -/

namespace Sys2Proof.Machine

/-! ### Off the ring the passing of time begins no record and moves no waiting halfword (R20, R59) -/

theorem State.sendItem_incoming_nil (s : State) (i : Item) (h : s.send.incoming = []) (hi : s.nextItem = some i) :
    (s.sendItem i).send.incoming = [] := by
  obtain ⟨-, k⟩ := s.nextItem_ready i hi
  cases i with
  | arriving => obtain ⟨f, k⟩ := k; rw [s.sendItem_arriving f k]; exact h
  | buffered => obtain ⟨-, f, rest, k⟩ := k; rw [s.sendItem_buffered f rest k]; exact h
  | census => obtain ⟨-, -, f, k⟩ := k; rw [s.sendItem_census f k]; exact h
  | recordFrame =>
    obtain ⟨-, -, r, k⟩ := k
    by_cases hn : r.next < r.length.toNat
    · rw [s.sendItem_data r k hn]; exact h
    · rw [s.sendItem_tail r k (Nat.not_lt.mp hn)]
  | record => obtain ⟨-, -, -, -, -, -, e, rest, k⟩ := k; rw [s.sendItem_record e rest k]; exact h
  | trigger | announce | depart => exact h

theorem State.reach_incoming_nil (s : State) (t : Time) (h : s.send.incoming = []) : (s.reach t).send.incoming = [] :=
  State.reach_keeps (fun u => u.send.incoming = []) s t (fun u i hu hi _ => u.sendItem_incoming_nil i hu hi)
    (fun _ hu _ => hu) h

theorem State.at_incoming_nil (s : State) (o : Occasion) (h : s.send.incoming = []) : (s.at o).send.incoming = [] :=
  s.reach_incoming_nil o.time h

/-- Only on the ring is the HEAD of a record sent. -/
theorem State.sendItem_insertion_none (s : State) (i : Item) (hmode : s.mode ≠ .active) (h : s.path.insertion = none)
    (hi : s.nextItem = some i) : (s.sendItem i).path.insertion = none := by
  obtain ⟨-, k⟩ := s.nextItem_ready i hi
  cases i with
  | arriving => obtain ⟨f, k⟩ := k; rw [s.sendItem_arriving f k]; exact h
  | buffered => obtain ⟨-, f, rest, k⟩ := k; rw [s.sendItem_buffered f rest k]; exact h
  | census => obtain ⟨-, -, f, k⟩ := k; rw [s.sendItem_census f k]; exact h
  | recordFrame | trigger | announce | depart | record => exact absurd k.2.1 hmode

theorem State.reach_insertion_none (s : State) (t : Time) (hmode : s.mode ≠ .active) (h : s.path.insertion = none) :
    (s.reach t).path.insertion = none :=
  And.right (State.reach_keeps (fun u => u.mode ≠ .active ∧ u.path.insertion = none) s t
    (fun u i hu hi _ => ⟨by
      have hstation := congrArg Membership.station (u.sendItem_passes i).member
      have hmode : (u.sendItem i).mode = u.mode := congrArg StationState.mode hstation
      rw [hmode]; exact hu.1, u.sendItem_insertion_none i hu.1 hu.2 hi⟩)
    (fun _ hu _ => hu) ⟨hmode, h⟩)

theorem State.at_insertion_none (s : State) (o : Occasion) (hmode : s.mode ≠ .active) (h : s.path.insertion = none) :
    (s.at o).path.insertion = none := s.reach_insertion_none o.time hmode h

/-! ### The census entry of a station that is not on the ring (R29, R31) -/

section OffRing
variable (s : State)

/-- With no record open, none in progress and no halfword waiting, leaving a mode changes nothing. -/
theorem State.leaveMode_idle (hphase : s.path.phase = .clear) (hinsertion : s.path.insertion = none)
    (hincoming : s.send.incoming = []) : s.leaveMode = s := by
  obtain ⟨resetPin, receiver, path, member, send, filter, delivery, trigger, bus, host, events, counters, outside, now, order,
    pending⟩ := s
  obtain ⟨phase, bypass, waiting, output, ownCensus, insertion⟩ := path
  obtain ⟨queue, head, staging, incoming⟩ := send
  simp only at hphase hinsertion hincoming
  subst hphase hinsertion hincoming
  simp [State.leaveMode, State.endInsertion]

theorem State.openCensus_offRing (hring : s.onRing = false) (hphase : s.path.phase = .clear)
    (hinsertion : s.path.insertion = none) (hincoming : s.send.incoming = []) :
    s.openCensus.startAttempt = s.censusEntered := by
  unfold State.openCensus State.toCensusMode
  rw [hring, s.leaveMode_idle hphase hinsertion hincoming]
  simp [State.censusEntered, State.startAttempt, State.clearDuplicates, State.countCensusEntry,
    Membership.censusEntered, State.timer, censusSpan, micros, hphase, hinsertion]

theorem State.censusEntry_offRing (cause : Option StateCause) (hring : s.onRing = false) (hphase : s.path.phase = .clear)
    (hinsertion : s.path.insertion = none) (hincoming : s.send.incoming = []) :
    s.censusEntry cause = s.censusEntered.postAll (s.censusEntered.entryEvents cause) := by
  unfold State.censusEntry
  rw [s.openCensus_offRing hring hphase hinsertion hincoming, hring]
  rfl

end OffRing

/-! ### JOIN (R24) -/

theorem exec_join_ready (o : Occasion) (s : State) (h : s.CommandReady) :
    exec (.join o) s = .next (State.setStatus (s.at o).judgeJoin.2 (s.at o).judgeJoin.1 2 1) :=
  congrArg Host.Outcome.next (s.live_writeRecord o .join h)

theorem State.judgeJoin_refused (s : State) (h : s.member.station ≠ .pass) : s.judgeJoin = (.state, s) := if_neg h

theorem State.judgeJoin_taken (s : State) (h : s.member.station = .pass) :
    s.judgeJoin = (.ok, s.censusEntry (some .joined)) := if_pos h

/-- Settles O14. -/
theorem joinEntersCensus : Obligations.JoinEntersCensus := by
  intro s o hready
  rw [exec_join_ready o s hready, ← s.at_member_station o]
  refine ⟨fun hstation => ?refused, fun hpass hphase hinsertion hincoming => ?taken⟩
  case refused => rw [State.judgeJoin_refused _ hstation]
  case taken =>
    have hmode : s.mode = .transparent := by
      rw [← s.at_mode o, State.mode, hpass]; rfl
    have hring : (s.at o).onRing = false := by simp [State.onRing, hmode]
    rw [State.judgeJoin_taken _ hpass,
      (s.at o).censusEntry_offRing (some .joined) hring (by simpa using hphase)
        (s.at_insertion_none o (by simp [hmode]) hinsertion) (s.at_incoming_nil o hincoming)]
    simp [State.entryEvents, State.postAll, State.censusEntered, Membership.censusEntered]

/-! ### SEND (R52) -/

theorem exec_send_ready (o : Occasion) (stream length : BitVec 8) (a : Word) (tag : Halfword) (s : State)
    (h : s.CommandReady) : exec (.send o stream length a tag) s =
      .next (State.setStatus ((s.at o).judgeSend stream length a tag).2 ((s.at o).judgeSend stream length a tag).1 4 5) :=
  congrArg Host.Outcome.next (s.live_writeRecord o (.send stream length a tag) h)

/-- The station states in which SEND is judged further. -/
def StationState.takesSends : StationState → Bool
  | .run | .census | .isolated | .excluded => true
  | .config | .pass | .leaving | .barred => false

theorem StationState.takesSends_iff (st : StationState) :
    st.takesSends = true ↔ st = .run ∨ st = .census ∨ st = .isolated ∨ st = .excluded := by
  cases st <;> decide

theorem StationState.not_takesSends_iff (st : StationState) :
    st.takesSends = false ↔ st = .config ∨ st = .pass ∨ st = .leaving ∨ st = .barred := by
  cases st <;> decide

section Send
variable (s : State) (stream length : BitVec 8) (a : Word) (tag : Halfword)

/-- The entry that a SEND makes. -/
def sendEntryOf (stream length : BitVec 8) (a : Word) (tag : Halfword) : SendEntry :=
  { stream := stream.setWidth 6, length := length.setWidth 7, address := a, tag := tag }

theorem State.judgeSend_state (h : s.member.station.takesSends = false) : s.judgeSend stream length a tag = (.state, s) := by
  unfold State.judgeSend
  split
  case h_1 | h_2 | h_3 | h_4 => rfl
  all_goals rename_i hs; rw [hs] at h; cases h

/-- In the station states that take sends the operands and the queue are checked. -/
theorem State.judgeSend_checked (h : s.member.station.takesSends = true) : s.judgeSend stream length a tag =
    if 64 < length.toNat ∨ 63 < stream.toNat ∨ a.toNat % 4 ≠ 0 then (.range, s)
    else if 16 ≤ s.send.queue.length then (.full, s)
    else (.ok, s.enqueue (sendEntryOf stream length a tag)) := by
  unfold State.judgeSend
  split
  case h_1 | h_2 | h_3 | h_4 => rename_i hs; rw [hs] at h; cases h
  all_goals rfl

theorem State.enqueue_behind (e : SendEntry) (h : s.send.queue ≠ []) :
    s.enqueue e = { s with send := { s.send with queue := s.send.queue ++ [e] } } := by
  unfold State.enqueue
  rw [if_neg (by simpa using h)]

theorem State.enqueue_first (e : SendEntry) (h : s.send.queue = []) :
    s.enqueue e = State.adoptHead { s with send := { s.send with queue := [e] } } := by
  unfold State.enqueue
  rw [if_pos (by simp [h]), h]
  rfl

end Send

/-! ### The next entry becomes the head (R54, R55, R139) -/

section Adopt
variable (s : State) (e : SendEntry) (rest : List SendEntry)

theorem State.adoptHead_staged (hqueue : s.send.queue = e :: rest) (h : e.length = 0) :
    s.adoptHead = { s with send := { s.send.fresh with head := some .staged } } := by
  unfold State.adoptHead
  split
  next hq => rw [hqueue] at hq; cases hq
  next hq => rw [hqueue] at hq; cases hq; rw [if_pos h]

theorem State.adoptHead_fetching (hqueue : s.send.queue = e :: rest) (h : e.length ≠ 0) :
    s.adoptHead = State.makeRequest { s with send := { s.send.fresh with head := some .fetching } } .fetch false e.address
      ((e.length.toNat + 1) / 2) := by
  unfold State.adoptHead
  split
  next hq => rw [hqueue] at hq; cases hq
  next hq => rw [hqueue] at hq; cases hq; rw [if_neg h]; rfl

theorem State.adoptHead_empty (hqueue : s.send.queue = []) :
    s.adoptHead = { s with send := { s.send.fresh with head := none } } := by
  unfold State.adoptHead
  split
  next => rfl
  next hq => rw [hqueue] at hq; cases hq

end Adopt

theorem setWidth_seven_eq_zero_iff (length : BitVec 8) (h : length.toNat ≤ 64) : length.setWidth 7 = 0 ↔ length = 0 := by
  constructor <;> intro k <;> bv_omega

theorem setWidth_seven_toNat (length : BitVec 8) (h : length.toNat ≤ 64) : (length.setWidth 7).toNat = length.toNat := by
  simp; omega

/-- Settles O16. -/
theorem sendJoinsQueue : Obligations.SendJoinsQueue := by
  intro s o stream length a tag hready
  refine ⟨s.at o, rfl, ?_⟩
  rw [exec_send_ready o stream length a tag s hready, ← s.at_member_station o, ← s.at_send_queue o]
  refine ⟨fun hstation => ?state, fun hstation => ⟨fun hrange => ?range, fun hlength hstream haddress => ?_⟩⟩
  case state => rw [State.judgeSend_state _ _ _ _ _ ((StationState.not_takesSends_iff _).mpr hstation)]
  all_goals
    rw [State.judgeSend_checked _ _ _ _ _ ((StationState.takesSends_iff _).mpr hstation)]
  case range => rw [if_pos hrange]
  rw [if_neg (by omega)]
  refine ⟨fun hfull => ?full, fun hroom hbehind => ?behind, fun hempty => ⟨_, rfl, fun hzero => ?staged, fun hzero => ?fetching⟩⟩
  case full => rw [if_pos hfull]
  case behind =>
    rw [if_neg (by omega), State.enqueue_behind _ _ hbehind]
    rfl
  case staged =>
    rw [if_neg (by rw [hempty]; decide), State.enqueue_first _ _ hempty,
      State.adoptHead_staged _ (sendEntryOf stream length a tag) [] rfl ((setWidth_seven_eq_zero_iff length hlength).mpr hzero)]
    rfl
  case fetching =>
    rw [if_neg (by rw [hempty]; decide), State.enqueue_first _ _ hempty,
      State.adoptHead_fetching _ (sendEntryOf stream length a tag) [] rfl
        (mt (setWidth_seven_eq_zero_iff length hlength).mp hzero), ← setWidth_seven_toNat length hlength]
    rfl

/-! ### CANCEL (R70) -/

/-- The head entry has left the queue (R69). -/
theorem SendUnit.dropHead_cons (u : SendUnit) (e : SendEntry) (rest : List SendEntry) (h : u.queue = e :: rest) :
    u.dropHead = { u with queue := rest, head := none, gapTimer := none
                          seq := if u.attempts = 0 then u.seq else u.seq + 1 } := by
  unfold SendUnit.dropHead
  split
  next hq => rw [h] at hq; cases hq
  next hq =>
    rw [h] at hq
    cases hq
    rcases Nat.eq_zero_or_pos u.attempts with h0 | h0
    · simp [h0]
    · simp [Nat.one_le_iff_ne_zero, Nat.ne_of_gt h0]

theorem exec_cancel_ready (o : Occasion) (tag : Halfword) (s : State) (h : s.CommandReady) : exec (.cancel o tag) s =
    .next (State.setStatus ((s.at o).judgeCancel tag).2 ((s.at o).judgeCancel tag).1 5 2) :=
  congrArg Host.Outcome.next (s.live_writeRecord o (.cancel tag) h)

section Cancel
variable (s : State) (tag : Halfword)

theorem State.judgeCancel_noMatch (h : ∀ e ∈ s.send.queue, e.tag ≠ tag) : s.judgeCancel tag = (.noMatch, s) := by
  unfold State.judgeCancel
  rw [if_neg (by simpa using h)]

theorem State.judgeCancel_taken (e : SendEntry) (he : e ∈ s.send.queue) (h : e.tag = tag) :
    s.judgeCancel tag = (.ok, s.cancelSends tag) := by
  unfold State.judgeCancel
  rw [if_pos (by simpa using ⟨e, he, h⟩)]

variable (e : SendEntry) (behind : List SendEntry)

/-- The state without the matching entries behind the head. -/
def State.keptBehind (s : State) (tag : Halfword) (e : SendEntry) (behind : List SendEntry) : State :=
  { s with send := { s.send with queue := e :: behind.filter (fun x => x.tag != tag) } }

/-- The SENT events of the matching entries behind the head. -/
def goneBehind (tag : Halfword) (behind : List SendEntry) : List Event :=
  unsentEvents .cancelled (behind.filter (fun x => x.tag == tag))

variable (hqueue : s.send.queue = e :: behind)
include hqueue

theorem State.cancelSends_cons : s.cancelSends tag =
    if e.tag = tag then
      if s.send.head = some .staged ∨ s.send.head = some .retryWait then
        (s.keptBehind tag e behind).nextHead.postAll ((s.keptBehind tag e behind).send.headSent .cancelled ++ goneBehind tag behind)
      else State.postAll { s.keptBehind tag e behind with send := (s.keptBehind tag e behind).send.cancelHead }
        (goneBehind tag behind)
    else (s.keptBehind tag e behind).postAll (goneBehind tag behind) := by
  unfold State.cancelSends
  split
  next hq => rw [hqueue] at hq; cases hq
  next hq => rw [hqueue] at hq; cases hq; rfl

theorem State.cancelSends_other (h : e.tag ≠ tag) :
    s.cancelSends tag = (s.keptBehind tag e behind).postAll (goneBehind tag behind) := by
  rw [s.cancelSends_cons tag e behind hqueue, if_neg h]

theorem State.cancelSends_inFlight (h : e.tag = tag) (hhead : s.send.head = some .inFlight) : s.cancelSends tag = State.postAll
    { s.keptBehind tag e behind with send := { (s.keptBehind tag e behind).send with cancelRequested := true } }
    (goneBehind tag behind) := by
  rw [s.cancelSends_cons tag e behind hqueue, if_pos h, if_neg (by simp [hhead])]
  simp [SendUnit.cancelHead, State.keptBehind, hhead]

theorem State.cancelSends_fetching (h : e.tag = tag) (hhead : s.send.head = some .fetching) : s.cancelSends tag = State.postAll
    { s.keptBehind tag e behind with send := { (s.keptBehind tag e behind).send with
        disposition := some (s.send.disposition.getD .cancelled) } } (goneBehind tag behind) := by
  rw [s.cancelSends_cons tag e behind hqueue, if_pos h, if_neg (by simp [hhead])]
  simp [SendUnit.cancelHead, State.keptBehind, hhead]

theorem State.cancelSends_completes (h : e.tag = tag) (hhead : s.send.head = some .staged ∨ s.send.head = some .retryWait) :
    s.cancelSends tag = (State.adoptHead { s.keptBehind tag e behind with send := { (s.keptBehind tag e behind).send with
        queue := behind.filter (fun x => x.tag != tag), head := none, gapTimer := none
        seq := if s.send.attempts = 0 then s.send.seq else s.send.seq + 1 } }).postAll
      (.sent tag .cancelled s.send.attempts s.send.accept s.send.held :: goneBehind tag behind) := by
  rw [s.cancelSends_cons tag e behind hqueue, if_pos h, if_pos hhead, ← h, State.nextHead,
    SendUnit.dropHead_cons _ e (behind.filter (fun x => x.tag != e.tag)) rfl]
  rfl

end Cancel

/-- Settles O17. -/
theorem cancelByHeadState : Obligations.CancelByHeadState := by
  intro s o tag hready
  refine ⟨s.at o, rfl, ?_⟩
  rw [exec_cancel_ready o tag s hready, ← s.at_send_queue o]
  refine ⟨fun hnone => ?noMatch, fun e behind hqueue => ?_⟩
  case noMatch => rw [State.judgeCancel_noMatch _ tag hnone]
  have hhead : e ∈ (s.at o).send.queue := by rw [hqueue]; exact List.mem_cons_self
  refine ⟨_, _, _, rfl, rfl, rfl, fun htag hgone => ?other, fun htag hflight => ?inFlight, fun htag hfetching => ?fetching,
    fun htag hwaits => ?completes⟩
  case other =>
    obtain ⟨x, hx⟩ := List.exists_mem_of_ne_nil (behind.filter (fun x => x.tag == tag)) (mt (List.map_eq_nil_iff.mpr ·) hgone)
    obtain ⟨hmem, hmatch⟩ := List.mem_filter.mp hx
    rw [State.judgeCancel_taken _ tag x (by rw [hqueue]; exact List.mem_cons_of_mem _ hmem) (by simpa using hmatch),
      State.cancelSends_other _ tag e behind hqueue htag]
    rfl
  case inFlight =>
    rw [State.judgeCancel_taken _ tag e hhead htag, State.cancelSends_inFlight _ tag e behind hqueue htag hflight]
    rfl
  case fetching =>
    rw [State.judgeCancel_taken _ tag e hhead htag, State.cancelSends_fetching _ tag e behind hqueue htag hfetching]
    rfl
  case completes =>
    rw [State.judgeCancel_taken _ tag e hhead htag, State.cancelSends_completes _ tag e behind hqueue htag hwaits]
    rfl

end Sys2Proof.Machine
end

section
/-! PROOF. A VOID in RUN and LEAVING (O25), the own TAIL (O31), what follows an outcome (O32), and the frames of an own record
on the output (O33, O34). -/

namespace Sys2Proof.Machine

/-! ### VOID (R13, R14, R17, R62, R83) -/

theorem exec_voidArrives (o : Occasion) (b : VoidBody) (s : State) : exec (.voidArrives o b) s =
    arrivalStep o (some 0) (·.byMode (.void b) (·.activeVoid b)) s := rfl

theorem exec_voidArrives_active (o : Occasion) (b : VoidBody) (s : State) (h : s.Receiving) (hmode : s.mode = .active)
    (hgood : (Frame.void b).unusable = false) :
    exec (.voidArrives o b) s = withinBypass ((s.heard o).activeVoid b) := by
  rw [exec_voidArrives, arrivalStep_receiving o _ s h, State.byMode_active _ _ _ hgood (by simpa using hmode)]

/-- A VOID met in RETURNING is given to the send unit (R62). -/
def State.voidReturned (s : State) : State := if s.path.phase = .returning then s.ownVoid else s

section Void
variable (s : State) (b : VoidBody)

theorem State.voidReturned_eq : s.voidReturned =
    if s.path.phase = .returning ∧ s.send.context = .openCurrent then { s with send := { s.send with fault := true } }
    else s := by
  unfold State.voidReturned State.ownVoid
  by_cases hphase : s.path.phase = .returning <;> simp [hphase]

theorem State.voidReturned_frame : ∃ send, s.voidReturned = { s with send := send } := by
  unfold State.voidReturned
  split
  · exact s.ownVoid_frame
  · exact ⟨_, rfl⟩

/-- The three ends of a VOID once the send unit has had it. -/
theorem State.activeVoid_eq : s.activeVoid b =
    if s.isOwn b.station then s.voidReturned
    else if s.orphanHop b.hop then s.voidReturned.countOrphan
    else (if s.path.phase = .forwarding then s.voidReturned.filterVoid else s.voidReturned).forward
      (.void { b with hop := b.hop + 1 }) := by
  obtain ⟨send, e⟩ := s.voidReturned_frame
  have hown : s.voidReturned.isOwn b.station = s.isOwn b.station := by rw [e]; rfl
  have horphan : s.voidReturned.orphanHop b.hop = s.orphanHop b.hop := by rw [e]; rfl
  have hphase : s.voidReturned.path.phase = s.path.phase := by rw [e]
  rw [← hown, ← horphan, ← hphase]
  rfl

end Void

/-- Settles O25. -/
theorem voidPassesOrEnds : Obligations.VoidPassesOrEnds := by
  intro s o b hreceiving hmode hgood
  refine ⟨(s.heard o).voidReturned, ?_, ?_⟩
  · rw [State.voidReturned_eq]; simp
  obtain ⟨send, ht⟩ := (s.heard o).voidReturned_frame
  have hroom : (s.heard o).voidReturned.path.bypass.length < 72 := by rw [ht]; exact s.heard_bypass_room o hreceiving
  have hfilter : (s.heard o).voidReturned.filter = s.filter := by rw [ht]; exact s.heard_filter o
  have hcounters : (s.heard o).voidReturned.counters = s.counters := by rw [ht]; exact s.heard_counters o
  rw [exec_voidArrives_active o b s hreceiving hmode hgood, State.activeVoid_eq, ← s.heard_member_number o,
    ← s.heard_member_ringSize o, ← s.heard_phase o]
  refine ⟨fun hown => ?own, fun hown hhop => ?orphan, fun hown hhop => ⟨fun hplain => ?plain, fun c hphase hopen => ?damages⟩⟩
  case own => rw [if_pos ((State.isOwn_iff _ _).mpr hown), withinBypass_next (Nat.le_of_lt hroom)]
  case orphan =>
    rw [if_neg (mt (State.isOwn_iff _ _).mp hown), if_pos ((State.orphanHop_iff _ _).mpr hhop),
      withinBypass_next (s := (s.heard o).voidReturned.countOrphan) (Nat.le_of_lt hroom), ← hcounters]
    rfl
  all_goals
    have hnoOrphan : ¬(s.heard o).orphanHop b.hop = true := mt ((s.heard o).orphanHop_iff b.hop).mp (Nat.not_le.mpr hhop)
    rw [if_neg (mt (State.isOwn_iff _ _).mp hown), if_neg hnoOrphan]
  case plain =>
    rw [withinBypass_forward]
    · split
      · rw [State.filterVoid_closed _ (by rw [hfilter]; exact hplain.resolve_left (not_not_intro ‹_›))]
      · rfl
    · split
      · obtain ⟨f, e⟩ := (s.heard o).voidReturned.filterVoid_frame
        rw [e]; exact hroom
      · exact hroom
  case damages =>
    rw [if_pos hphase, State.filterVoid_open _ c (by rw [hfilter]; exact hopen),
      hfilter, withinBypass_forward]
    exact hroom

/-! ### What follows an outcome (R54, R67 to R69) -/

section Outcome
variable (s : State) (status : SendStatus)

theorem State.afterOutcome_done : s.afterOutcome .done = s.completeHead .done := by
  unfold State.afterOutcome; rw [if_pos rfl]

theorem State.afterOutcome_cancelled (h : status ≠ .done) (hflag : s.send.cancelRequested = true) :
    s.afterOutcome status = s.completeHead .cancelled := by
  unfold State.afterOutcome; rw [if_neg h, if_pos hflag]

theorem State.afterOutcome_retries (h : status ≠ .done) (hflag : s.send.cancelRequested = false)
    (hleft : s.send.attempts < 1 + s.send.retryLimit) :
    s.afterOutcome status = State.countRetry
      { s with send := { s.send with head := some .retryWait, gapTimer := s.timer gapSpan } } := by
  unfold State.afterOutcome; rw [if_neg h, if_neg (by simp [hflag]), if_pos hleft]

theorem State.afterOutcome_completes (h : status ≠ .done) (hflag : s.send.cancelRequested = false)
    (hleft : 1 + s.send.retryLimit ≤ s.send.attempts) : s.afterOutcome status = s.completeHead status := by
  unfold State.afterOutcome; rw [if_neg h, if_neg (by simp [hflag]), if_neg (Nat.not_lt.mpr hleft)]

theorem State.completeHead_cons (e : SendEntry) (rest : List SendEntry) (h : s.send.queue = e :: rest) :
    s.completeHead status = State.post
      (State.adoptHead { s with send := { s.send with
        queue := rest, head := none, gapTimer := none
        seq := if s.send.attempts = 0 then s.send.seq else s.send.seq + 1 } })
      (.sent e.tag status s.send.attempts s.send.accept s.send.held) := by
  have hsent : s.send.headSent status = [.sent e.tag status s.send.attempts s.send.accept s.send.held] := by
    unfold SendUnit.headSent; rw [h]
  unfold State.completeHead State.nextHead
  rw [hsent, SendUnit.dropHead_cons _ e rest h]
  rfl

end Outcome

/-- Settles O32. -/
theorem outcomeCompletesOrRetries : Obligations.OutcomeCompletesOrRetries := by
  refine ⟨fun s status => ⟨s.afterOutcome_done, s.afterOutcome_cancelled status, fun hstatus hflag =>
      ⟨s.afterOutcome_retries status hstatus hflag, s.afterOutcome_completes status hstatus hflag⟩⟩,
    fun s status e rest h => s.completeHead_cons status e rest h,
    fun s => ⟨s.send.fresh, rfl, s.adoptHead_empty, fun f more hqueue =>
      ⟨s.adoptHead_staged f more hqueue, s.adoptHead_fetching f more hqueue⟩⟩⟩

/-! ### The own TAIL (R13, R63) -/

section OwnTail
variable (s : State) (b : TailBody)

theorem State.activeTail_own (h : s.member.number = some b.source) : s.activeTail b =
    (s.ownTail b).setPhase (if s.path.phase = .returning then .clear else s.path.phase) := by
  unfold State.activeTail
  rw [if_pos ((s.isOwn_iff b.source).mpr h)]

theorem SendUnit.outcome_damaged (u : SendUnit) (fault : Bool)
    (h : fault = true ∨ u.nextIndex ≠ u.headLength ∨ b.damaged = true) : u.outcome fault b = .damaged := by
  unfold SendUnit.outcome
  rw [if_pos (by simpa [or_assoc] using h)]

theorem SendUnit.outcome_intact (u : SendUnit) (hnext : u.nextIndex = u.headLength) (hintact : b.damaged = false) :
    u.outcome false b = if b.refused then .refused else .done := by
  unfold SendUnit.outcome
  rw [if_neg (by simp [hnext, hintact])]

theorem State.ownTailMatches_iff : s.ownTailMatches b = true ↔
    s.send.head = some .inFlight ∧ b.seq = s.send.seq ∧ b.attempt = s.send.attempt := by
  simp [State.ownTailMatches, and_assoc]

theorem State.ownTail_current (hcontext : s.send.context = .openCurrent) (h : s.ownTailMatches b = true) :
    s.ownTail b = (s.setContext .closed).endWith (s.send.outcome s.send.fault b) b.accept b.held := by
  simp [State.ownTail, hcontext, h]

theorem State.ownTail_current_other (hcontext : s.send.context = .openCurrent) (h : s.ownTailMatches b = false) :
    s.ownTail b = (s.setContext .closed).endWith .damaged b.accept b.held := by
  simp [State.ownTail, hcontext, h]

theorem State.ownTail_unheaded (hcontext : s.send.context = .closed ∨ s.send.context = .openHeadless)
    (h : s.ownTailMatches b = true) : s.ownTail b =
      State.endWith { s with send := { s.send with context := .closed, fault := true } } .damaged b.accept b.held := by
  rcases hcontext with hcontext | hcontext <;>
    simp [State.ownTail, hcontext, h, State.setContext, SendUnit.outcome]

theorem State.ownTail_headless_other (hcontext : s.send.context = .openHeadless) (h : s.ownTailMatches b = false) :
    s.ownTail b = State.countStale { s with send := { s.send with context := .closed, fault := false } } := by
  simp [State.ownTail, hcontext, h, State.setContext]

theorem State.ownTail_closed_other (hcontext : s.send.context = .closed) (h : s.ownTailMatches b = false) :
    s.ownTail b = (s.setContext .closed).countStale := by
  simp [State.ownTail, hcontext, h]

theorem State.ownTail_stale (hcontext : s.send.context = .openStale) : s.ownTail b = s.setContext .closed := by
  simp [State.ownTail, hcontext]

/-- The attempt ends, in whatever phase the input is left. -/
theorem State.endWith_setPhase (status : SendStatus) (accept held : BitVec 5) (p : InputPhase)
    (h : s.send.head = some .inFlight) : (s.endWith status accept held).setPhase p =
      State.afterOutcome { s.setPhase p with send := (s.send.endAttempt).withMarks accept held } status := by
  rw [s.endWith_inFlight status accept held h, State.afterOutcome_setPhase]
  rfl

/-- The own TAIL has closed the return context and ended the phase RETURNING. -/
def State.tailReturned (s : State) : State :=
  { s with
    path := { s.path with phase := if s.path.phase = .returning then .clear else s.path.phase }
    send := { s.send with context := .closed } }

/-- The attempt that an own TAIL ends: its return timer stopped, its attempt bit flipped, its last marks the TAIL's counts. -/
def State.tailEnded (s : State) (fault : Bool) (b : TailBody) : State :=
  { s.tailReturned with
    send := { s.tailReturned.send with returnTimer := none, attempt := !s.send.attempt, fault := fault, accept := b.accept
                                       held := b.held } }

variable (h : s.member.number = some b.source)
include h

theorem State.activeTail_current (hcontext : s.send.context = .openCurrent) (hfits : s.ownTailMatches b = true) :
    s.activeTail b = (s.tailEnded s.send.fault b).afterOutcome (s.send.outcome s.send.fault b) := by
  have hflight : s.send.head = some .inFlight := ((s.ownTailMatches_iff b).mp hfits).1
  rw [s.activeTail_own b h, s.ownTail_current b hcontext hfits,
    State.endWith_setPhase (s.setContext .closed) _ _ _ _ hflight]
  rfl

theorem State.activeTail_unheaded (hcontext : s.send.context = .closed ∨ s.send.context = .openHeadless)
    (hfits : s.ownTailMatches b = true) : s.activeTail b = (s.tailEnded true b).afterOutcome .damaged := by
  have hflight : s.send.head = some .inFlight := ((s.ownTailMatches_iff b).mp hfits).1
  rw [s.activeTail_own b h, s.ownTail_unheaded b hcontext hfits,
    State.endWith_setPhase { s with send := { s.send with context := .closed, fault := true } } _ _ _ _ hflight]
  rfl

theorem State.activeTail_current_other (hcontext : s.send.context = .openCurrent) (hflight : s.send.head = some .inFlight)
    (hfits : s.ownTailMatches b = false) : s.activeTail b = (s.tailEnded s.send.fault b).afterOutcome .damaged := by
  rw [s.activeTail_own b h, s.ownTail_current_other b hcontext hfits,
    State.endWith_setPhase (s.setContext .closed) _ _ _ _ hflight]
  rfl

theorem State.activeTail_headless_other (hcontext : s.send.context = .openHeadless) (hfits : s.ownTailMatches b = false) :
    s.activeTail b = State.countStale
      { s.tailReturned with send := { s.tailReturned.send with fault := false } } := by
  rw [s.activeTail_own b h, s.ownTail_headless_other b hcontext hfits]
  rfl

theorem State.activeTail_closed_other (hcontext : s.send.context = .closed) (hfits : s.ownTailMatches b = false) :
    s.activeTail b = s.tailReturned.countStale := by
  rw [s.activeTail_own b h, s.ownTail_closed_other b hcontext hfits]
  rfl

theorem State.activeTail_stale (hcontext : s.send.context = .openStale) : s.activeTail b = s.tailReturned := by
  rw [s.activeTail_own b h, s.ownTail_stale b hcontext]
  rfl

omit h in
theorem State.ownTail_setPhase_bypass (p : InputPhase) : ((s.ownTail b).setPhase p).path.bypass = s.path.bypass := by
  obtain ⟨send, bus, events, counters, e⟩ := s.ownTail_frame b
  rw [e]; rfl

end OwnTail

/-- Settles O31. -/
theorem ownTailJudges : Obligations.OwnTailJudges := by
  intro s o b hreceiving hmode hgood hnumber
  have hown : (s.heard o).member.number = some b.source := by simpa using hnumber
  have hexec : exec (.tailArrives o b) s = .next ((s.heard o).activeTail b) := by
    rw [exec_tailArrives_active o b s hreceiving hmode hgood, withinBypass_next]
    rw [State.activeTail_own _ b hown, State.ownTail_setPhase_bypass]
    exact Nat.le_of_lt (s.heard_bypass_room o hreceiving)
  rw [hexec, ← s.heard_phase o, ← s.heard_counters o]
  generalize s.heard o = h at hown
  refine ⟨h.ownTailMatches b = true, h, h.tailReturned, _, rfl, h.ownTailMatches_iff b, rfl, rfl,
    fun e rest hqueue hcontext hfits => ⟨h.tailEnded h.send.fault b, rfl, ?current⟩, fun hcontext hfits => ?unheaded,
    fun hcontext hflight hfits => ?other, fun hcontext hfits => ?headless, fun hcontext hfits => ?closed, fun hcontext => ?stale⟩
  case current =>
    have hlength : h.send.headLength = e.length.toNat := by unfold SendUnit.headLength; rw [hqueue]
    have hintact (hfault : h.send.fault = false) (hnext : h.send.nextIndex = e.length.toNat) (hdamaged : b.damaged = false) :
        h.send.outcome h.send.fault b = if b.refused then .refused else .done := by
      rw [hfault]; exact SendUnit.outcome_intact b _ (by rw [hlength]; exact hnext) hdamaged
    rw [h.activeTail_current b hown hcontext hfits]
    refine ⟨fun hdamaged => ?_, fun hfault hnext hdamaged hrefused => ?_, fun hfault hnext hdamaged hrefused => ?_⟩
    · rw [SendUnit.outcome_damaged b _ _ (by rw [hlength]; exact hdamaged)]
    · rw [hintact hfault hnext hdamaged, if_pos hrefused]
    · rw [hintact hfault hnext hdamaged, if_neg (ne_true_of_eq_false hrefused)]
  case unheaded => rw [h.activeTail_unheaded b hown hcontext hfits]; rfl
  case other => rw [h.activeTail_current_other b hown hcontext hflight (by simpa using hfits)]; rfl
  case headless => rw [h.activeTail_headless_other b hown hcontext (by simpa using hfits)]; rfl
  case closed => rw [h.activeTail_closed_other b hown hcontext (by simpa using hfits)]; rfl
  case stale => rw [h.activeTail_stale b hown hcontext]

end Sys2Proof.Machine
end

section
/-! PROOF. The ring output: what the arbiter chooses, how a frame from upstream reaches the output (O22), and how the frames of
an own record (O33, O34) and the own control frames (O43) go out. -/

namespace Sys2Proof.Machine

/-! ### What the arbiter chooses (R9, R19, R20) -/

section Choice
variable (s : State) (hreset : s.resetPin = false)
include hreset

theorem State.nextItem_waiting (h : s.path.waiting ≠ none) : s.nextItem = some .arriving := by
  unfold State.nextItem
  rw [if_neg (by simp [hreset]), if_pos (Option.isSome_iff_ne_none.mpr h)]

variable (hwaiting : s.path.waiting = none)
include hwaiting

theorem State.nextItem_census (hmode : s.mode = .census) :
    s.nextItem = if s.path.ownCensus = none then none else some .census := by
  unfold State.nextItem
  rw [if_neg (by simp [hreset]), if_neg (by simp [hwaiting]), hmode]
  cases s.path.ownCensus <;> rfl

theorem State.nextItem_transparent (hmode : s.mode = .transparent) :
    s.nextItem = if s.path.bypass = [] then none else some .buffered := by
  unfold State.nextItem
  rw [if_neg (by simp [hreset]), if_neg (by simp [hwaiting]), hmode]

/-- With an own record in progress (R20). -/
theorem State.nextItem_inserting (hmode : s.mode = .active) (hinsertion : s.path.insertion ≠ none) : s.nextItem =
    if s.trigger.own = .waiting ∧ s.path.bypass = [] then some .trigger else some .recordFrame := by
  unfold State.nextItem
  rw [if_neg (by simp [hreset]), if_neg (by simp [hwaiting]), hmode]
  simp only [if_pos (Option.isSome_iff_ne_none.mpr hinsertion), State.ownTriggerReady, beq_iff_eq]

/-- With none in progress (R19, R20). -/
theorem State.nextItem_free (hmode : s.mode = .active) (hinsertion : s.path.insertion = none) : s.nextItem =
    if s.path.bypass ≠ [] then some .buffered
    else if s.trigger.own = .waiting then some .trigger
    else if s.path.phase = .forwarding then none
    else if s.member.announce = .waiting then some .announce
    else if s.member.depart = .waiting then some .depart
    else if s.send.queue ≠ [] ∧ s.offered = true then some .record
    else none := by
  unfold State.nextItem State.nextOwn
  rw [if_neg (by simp [hreset]), if_neg (by simp [hwaiting]), hmode]
  simp only [hinsertion, Option.isSome_none, Bool.false_eq_true, if_false, State.ownTriggerReady, beq_iff_eq, and_comm]

/-- The bypass buffer gives way to a waiting frame and to an own record in progress alone. -/
theorem State.nextItem_buffered (hmode : s.mode ≠ .census) (hinsertion : s.path.insertion = none) (h : s.path.bypass ≠ []) :
    s.nextItem = some .buffered := by
  cases hm : s.mode with
  | census => exact absurd hm hmode
  | transparent => rw [s.nextItem_transparent hreset hwaiting hm, if_neg h]
  | active => rw [s.nextItem_free hreset hwaiting hm hinsertion, if_pos h]

end Choice

theorem State.nextItem_ne_buffered (s : State)
    (h : s.path.bypass = [] ∨ s.path.waiting ≠ none ∨ s.mode = .active ∧ s.path.insertion ≠ none) :
    s.nextItem ≠ some .buffered := by
  intro hi
  obtain ⟨hreset, hwaiting, f, rest, hbypass⟩ := s.nextItem_ready .buffered hi
  rcases h with h | h | ⟨hmode, hinsertion⟩
  · rw [hbypass] at h; cases h
  · exact h hwaiting
  · rw [s.nextItem_inserting hreset hwaiting hmode hinsertion] at hi
    split at hi <;> cases hi

/-! ### Frames to be forwarded (R18, R19, R20) -/

section Forward
variable (s : State) (f : Frame)

theorem State.carriesOwn_iff : s.carriesOwn = true ↔ ∃ g, s.path.output = some g ∧ g.own = true ∧ s.now < g.ends := by
  unfold State.carriesOwn
  cases s.path.output <;> simp

theorem State.drainAtBoundary_stays (h : s.nextItem ≠ some .buffered ∨ s.now < s.path.freeAt) : s.drainAtBoundary = s := by
  unfold State.drainAtBoundary
  refine if_neg fun hd => ?_
  rcases h with h | h
  · exact h hd.1
  · exact absurd hd.2 (Nat.not_le.mpr h)

theorem State.drainAtBoundary_sends (h : s.nextItem = some .buffered) (hfree : s.path.freeAt ≤ s.now) :
    s.drainAtBoundary = s.sendItem .buffered := if_pos ⟨h, hfree⟩

/-- What happens to a frame once the bypass buffer has had its boundary. -/
theorem State.forward_eq : s.forward f =
    if s.drainAtBoundary.path.bypass ≠ [] ∨ s.drainAtBoundary.path.insertion ≠ none ∨ s.drainAtBoundary.carriesOwn = true then
      { s.drainAtBoundary with path := { s.drainAtBoundary.path with bypass := s.drainAtBoundary.path.bypass ++ [f] } }
    else s.drainAtBoundary.cutThrough f := by
  unfold State.forward
  refine if_congr ?_ rfl rfl
  simp [or_assoc, Option.isSome_iff_ne_none]

theorem State.forward_joins (h : s.path.bypass ≠ [] ∨ s.path.insertion ≠ none ∨ s.carriesOwn = true)
    (hstays : s.now < s.path.freeAt ∨ s.mode = .active ∧ s.path.insertion ≠ none) :
    s.forward f = { s with path := { s.path with bypass := s.path.bypass ++ [f] } } := by
  have hdrain : s.drainAtBoundary = s := s.drainAtBoundary_stays
    (hstays.elim .inr (fun h => .inl (s.nextItem_ne_buffered (.inr (.inr h)))))
  rw [State.forward_eq, hdrain, if_pos h]

theorem State.forward_drains (g : Frame) (rest : List Frame) (hbypass : s.path.bypass = g :: rest)
    (hinsertion : s.path.insertion = none) (hwaiting : s.path.waiting = none) (hreset : s.resetPin = false)
    (hmode : s.mode ≠ .census) (hfree : s.path.freeAt ≤ s.now) :
    s.forward f = State.forward { s.sent g false with path := { (s.sent g false).path with bypass := rest } } f := by
  have hnext : s.nextItem = some .buffered := s.nextItem_buffered hreset hwaiting hmode hinsertion (by simp [hbypass])
  have hdrain : s.drainAtBoundary = { s.sent g false with path := { (s.sent g false).path with bypass := rest } } := by
    rw [s.drainAtBoundary_sends hnext hfree, s.sendItem_buffered g rest hbypass]
  have hbusy : s.drainAtBoundary.drainAtBoundary = s.drainAtBoundary := by
    refine State.drainAtBoundary_stays _ (.inr ?_)
    rw [hdrain]
    show s.boundary < s.boundary + 80
    lia
  rw [← hdrain, State.forward_eq, State.forward_eq s.drainAtBoundary, hbusy]

theorem State.forward_cutsThrough (hbypass : s.path.bypass = []) (hinsertion : s.path.insertion = none)
    (hown : s.carriesOwn = false) : s.forward f = s.cutThrough f := by
  rw [State.forward_eq, s.drainAtBoundary_stays (.inl (s.nextItem_ne_buffered (.inl hbypass)))]
  exact if_neg (by simp [hbypass, hinsertion, hown])

theorem State.cutThrough_starts (h : s.path.freeAt ≤ s.now) : s.cutThrough f = { s with
    path := { s.path with output := some { frame := f, own := false, ends := s.now + 80 } }
    outside := { s.outside with ringOut := s.outside.ringOut ++ [{ frame := f, start := s.now }] } } := if_pos h

theorem State.cutThrough_waits (h : s.now < s.path.freeAt) :
    s.cutThrough f = { s with path := { s.path with waiting := some f } } := if_neg (Nat.not_le.mpr h)

end Forward

/-! ### The passing of time, one frame at a time (R19, R22) -/

/-- Once there is fuel for the distance to the moment, more of it changes nothing. -/
theorem State.catchUp_enough (t : Time) : ∀ (n m : Nat) (s : State), t ≤ s.boundary + n → t ≤ s.boundary + m →
    s.catchUp t n = s.catchUp t m
  | 0, m, s, hn, _ => (s.catchUp_stop t m (.inr hn)).symm
  | n + 1, 0, s, _, hm => s.catchUp_stop t (n + 1) (.inr hm)
  | n + 1, m + 1, s, hn, hm => by
    by_cases hs : s.nextItem = none ∨ t ≤ s.boundary
    · rw [s.catchUp_stop t _ hs, s.catchUp_stop t _ hs]
    · push Not at hs
      obtain ⟨i, hi⟩ := Option.ne_none_iff_exists'.mp hs.1
      rw [s.catchUp_send t n i hi hs.2, s.catchUp_send t m i hi hs.2]
      refine State.catchUp_enough t n m _ ?_ ?_ <;>
        · rw [s.sendItem_boundary i hi]; simp only [frameTime]; lia

theorem State.reach_sends (s : State) (t : Time) (i : Item) (hi : s.nextItem = some i) (hb : s.boundary < t) :
    s.reach t = (s.sendItem i).reach t := by
  have hn : t - s.boundary = (t - s.boundary - 1) + 1 := by lia
  have hstep : s.catchUp t (t - s.boundary) = (s.sendItem i).catchUp t (t - (s.sendItem i).boundary) := by
    rw [hn, s.catchUp_send t _ i hi hb]
    refine State.catchUp_enough t _ _ _ ?_ ?_ <;>
      · rw [s.sendItem_boundary i hi]; simp only [frameTime]; lia
  unfold State.reach
  rw [hstep]

theorem State.at_sends (s : State) (o : Occasion) (i : Item) (hi : s.nextItem = some i) (hb : s.boundary < o.time) :
    s.at o = (s.sendItem i).at o := by
  unfold State.at
  rw [s.reach_sends o.time i hi hb]

theorem State.at_stop (s : State) (o : Occasion) (h : s.nextItem = none ∨ o.time ≤ s.boundary) :
    s.at o = { s with now := max s.now o.time, order := o.order } := by
  unfold State.at
  rw [s.reach_stop o.time h]

theorem State.sent_carriesFill (s : State) (f : Frame) (own : Bool) (t : Time) :
    (s.sent f own).outside.carriesFill t = true ↔
      s.outside.carriesFill t = true ∧ (t < s.boundary ∨ s.boundary + 80 ≤ t) := by
  simp only [Outside.carriesFill, State.sent, frameTime, List.all_append, List.all_cons, List.all_nil, Bool.and_true,
    Bool.and_eq_true, Bool.or_eq_true, decide_eq_true_iff]
  exact and_congr_right fun _ => or_congr_right (decide_eq_true_iff ..)

/-! ### The rows that name the sending of an item -/

theorem exec_sendIfNext (c : Instr) (i : Item) (s : State) (h : s.resetPin = false) (hc : c.isArrival = false)
    (hact : actOf c = (·.sendIfNext i)) : exec c s = .next ((s.at c.occasion).sendIfNext i) := by
  rw [exec_released c s h, hact, answerOf, if_neg (by simp [hc])]

theorem exec_arrivingFrameForwarded (o : Occasion) (s : State) (h : s.resetPin = false) :
    exec (.arrivingFrameForwarded o) s = .next ((s.at o).sendIfNext .arriving) :=
  exec_sendIfNext (.arrivingFrameForwarded o) _ s h rfl rfl

theorem exec_bypassBufferFrameSent (o : Occasion) (s : State) (h : s.resetPin = false) :
    exec (.bypassBufferFrameSent o) s = .next ((s.at o).sendIfNext .buffered) :=
  exec_sendIfNext (.bypassBufferFrameSent o) _ s h rfl rfl

theorem exec_attemptBegins (o : Occasion) (s : State) (h : s.resetPin = false) :
    exec (.attemptBegins o) s = .next ((s.at o).sendIfNext .record) :=
  exec_sendIfNext (.attemptBegins o) _ s h rfl rfl

theorem exec_ownRecordFrameSent (o : Occasion) (s : State) (h : s.resetPin = false) :
    exec (.ownRecordFrameSent o) s = .next ((s.at o).sendIfNext .recordFrame) :=
  exec_sendIfNext (.ownRecordFrameSent o) _ s h rfl rfl

theorem exec_ownTriggerSent (o : Occasion) (s : State) (h : s.resetPin = false) :
    exec (.ownTriggerSent o) s = .next ((s.at o).sendIfNext .trigger) :=
  exec_sendIfNext (.ownTriggerSent o) _ s h rfl rfl

theorem exec_ownAnnounceSent (o : Occasion) (s : State) (h : s.resetPin = false) :
    exec (.ownAnnounceSent o) s = .next ((s.at o).sendIfNext .announce) :=
  exec_sendIfNext (.ownAnnounceSent o) _ s h rfl rfl

theorem exec_ownDepartSent (o : Occasion) (s : State) (h : s.resetPin = false) :
    exec (.ownDepartSent o) s = .next ((s.at o).sendIfNext .depart) :=
  exec_sendIfNext (.ownDepartSent o) _ s h rfl rfl

/-- Settles O22. -/
theorem upstreamFramesKeepOrder : Obligations.UpstreamFramesKeepOrder := by
  refine ⟨fun s f => ⟨s.carriesOwn_iff, s.forward_joins f, s.forward_drains f, s.forward_cutsThrough f, s.cutThrough_starts f,
      fun h _ => s.cutThrough_waits f h⟩, ?rows, ?chooses,
    fun s o => ⟨s.at_stop o, s.at_sends o, s.sent_carriesFill⟩⟩
  case rows =>
    rintro s t o f hreset rfl
    have hreset' : (s.at o).resetPin = false := by simpa using hreset
    refine ⟨fun hwaiting => ⟨_, rfl, ?_⟩, fun rest hbypass => ⟨fun hgives => ?_, fun hwaiting hinsertion hmode => ⟨_, rfl, ?_⟩⟩⟩
    · rw [exec_arrivingFrameForwarded o s hreset,
        State.sendIfNext_chosen _ _ ((s.at o).nextItem_waiting hreset' (by simp [hwaiting])),
        (s.at o).sendItem_arriving f hwaiting]
    · rw [exec_bypassBufferFrameSent o s hreset, State.sendIfNext_other _ _ ((s.at o).nextItem_ne_buffered (.inr hgives))]
    · rw [exec_bypassBufferFrameSent o s hreset,
        State.sendIfNext_chosen _ _ ((s.at o).nextItem_buffered hreset' hwaiting hmode hinsertion (by simp [hbypass])),
        (s.at o).sendItem_buffered f rest hbypass]
  case chooses =>
    intro s hreset
    exact ⟨s.nextItem_waiting hreset, fun hwaiting => ⟨s.nextItem_census hreset hwaiting,
      s.nextItem_transparent hreset hwaiting, s.nextItem_inserting hreset hwaiting, s.nextItem_free hreset hwaiting⟩⟩

/-! ### The station's own record on the output (R20, R57 to R59) -/

theorem State.offered_of_head (s : State) (hrun : s.member.station = .run)
    (h : s.send.head = some .staged ∨ s.send.head = some .retryWait ∧ s.send.gapTimer = none) : s.offered = true := by
  simpa [State.offered, hrun] using h

/-- Settles O33. -/
theorem attemptBegins : Obligations.AttemptBegins := by
  rintro s t o e rest n rfl hreset hrun hnumber hqueue hhead hbypass hwaiting hphase hinsertion htrigger hannounce hdepart
  have hnext : (s.at o).nextItem = some .record := by
    have hmode : (s.at o).mode = .active := by rw [State.mode, hrun]; rfl
    rw [(s.at o).nextItem_free (by simpa using hreset) hwaiting hmode hinsertion, if_neg (by simp [hbypass]), if_neg htrigger,
      if_neg hphase, if_neg hannounce, if_neg hdepart,
      if_pos ⟨by rw [hqueue]; exact List.cons_ne_nil _ _, (s.at o).offered_of_head hrun hhead⟩]
  refine ⟨_, rfl, ?_⟩
  rw [exec_attemptBegins o s hreset, State.sendIfNext_chosen _ _ hnext, (s.at o).sendItem_record e rest hqueue]
  unfold State.ownHeadFrame
  rw [hnumber]
  rfl

theorem State.nextItem_ne_recordFrame (s : State) (i : Insertion) (hinsertion : s.path.insertion = some i)
    (h : s.path.waiting ≠ none ∨ s.trigger.own = .waiting ∧ s.path.bypass = []) : s.nextItem ≠ some .recordFrame := by
  intro hi
  obtain ⟨hreset, hwaiting, hmode, -⟩ := s.nextItem_ready .recordFrame hi
  rcases h with h | h
  · exact h hwaiting
  · rw [s.nextItem_inserting hreset hwaiting hmode (by simp [hinsertion]), if_pos h] at hi
    cases hi

theorem State.nextItem_recordFrame (s : State) (i : Insertion) (hreset : s.resetPin = false)
    (hinsertion : s.path.insertion = some i) (hmode : s.mode = .active) (hwaiting : s.path.waiting = none)
    (h : s.trigger.own ≠ .waiting ∨ s.path.bypass ≠ []) : s.nextItem = some .recordFrame := by
  rw [s.nextItem_inserting hreset hwaiting hmode (by simp [hinsertion])]
  exact if_neg fun hb => h.elim (· hb.1) (· hb.2)

/-- While an own record is in progress something stands ready at every boundary. -/
theorem State.nextItem_inserting_ne_none (s : State) (hreset : s.resetPin = false) (hmode : s.mode = .active)
    (hinsertion : s.path.insertion ≠ none) : ∃ i, s.nextItem = some i := by
  by_cases hwaiting : s.path.waiting = none
  · rw [s.nextItem_inserting hreset hwaiting hmode hinsertion]
    split <;> exact ⟨_, rfl⟩
  · exact ⟨_, s.nextItem_waiting hreset hwaiting⟩

/-- A chosen item's frame starts at the boundary. -/
theorem State.sendItem_starts (s : State) (i : Item) (h : s.nextItem = some i) :
    ∃ f, { frame := f, start := s.boundary } ∈ (s.sendItem i).outside.ringOut := by
  obtain ⟨-, k⟩ := s.nextItem_ready i h
  have hlast (f : Frame) (l : List SentFrame) : { frame := f, start := s.boundary } ∈ l ++ [{ frame := f, start := s.boundary }] :=
    List.mem_append_right _ (List.mem_singleton.mpr rfl)
  cases i with
  | arriving => obtain ⟨f, k⟩ := k; rw [s.sendItem_arriving f k]; exact ⟨f, hlast f _⟩
  | buffered => obtain ⟨-, f, rest, k⟩ := k; rw [s.sendItem_buffered f rest k]; exact ⟨f, hlast f _⟩
  | census => obtain ⟨-, -, f, k⟩ := k; rw [s.sendItem_census f k]; exact ⟨f, hlast f _⟩
  | trigger => rw [s.sendItem_trigger]; exact ⟨_, hlast _ _⟩
  | announce => rw [s.sendItem_announce]; exact ⟨_, hlast _ _⟩
  | depart => rw [s.sendItem_depart]; exact ⟨_, hlast _ _⟩
  | recordFrame =>
    obtain ⟨-, -, r, k⟩ := k
    by_cases hn : r.next < r.length.toNat
    · rw [s.sendItem_data r k hn]; exact ⟨_, hlast _ _⟩
    · rw [s.sendItem_tail r k (Nat.not_lt.mp hn)]; exact ⟨_, hlast _ _⟩
  | record => obtain ⟨-, -, -, -, -, -, e, rest, k⟩ := k; rw [s.sendItem_record e rest k]; exact ⟨_, hlast _ _⟩

theorem Insertion.frame_data (i : Insertion) (h : i.next < i.length.toNat) : i.frame =
    .data { source := i.source, index := BitVec.ofNat 6 i.next, spare := 0, word := i.payload.getD i.next 0 } := if_pos h

theorem Insertion.frame_tail (i : Insertion) (h : i.length.toNat ≤ i.next) : i.frame =
    .tail { source := i.source, seq := i.seq, attempt := i.attempt, accept := 0, held := 0, refused := false,
            damaged := false, spare := 0 } := if_neg (Nat.not_lt.mpr h)

/-- Settles O34. -/
theorem ownRecordFramesFollow : Obligations.OwnRecordFramesFollow := by
  refine ⟨?frames, fun _ => rfl, ?noFill⟩
  case frames =>
    rintro s t o i rfl hreset hinsertion
    have hreset' : (s.at o).resetPin = false := by simpa using hreset
    rw [exec_ownRecordFrameSent o s hreset]
    refine ⟨fun hgives => ?_, fun hmode hwaiting hgoes => ?_⟩
    · rw [State.sendIfNext_other _ _ ((s.at o).nextItem_ne_recordFrame i hinsertion hgives)]
    rw [State.sendIfNext_chosen _ _ ((s.at o).nextItem_recordFrame i hreset' hinsertion hmode hwaiting hgoes)]
    refine ⟨fun hmore => ⟨_, rfl, ?_⟩, fun hlast => ⟨_, rfl, ?_⟩⟩
    · rw [(s.at o).sendItem_data i hinsertion hmore, i.frame_data hmore]
    · rw [(s.at o).sendItem_tail i hinsertion hlast, i.frame_tail hlast]
      rfl
  case noFill =>
    intro s o hreset hmode hinsertion hpast
    obtain ⟨i, hi⟩ := s.nextItem_inserting_ne_none hreset hmode hinsertion
    obtain ⟨f, hf⟩ := s.sendItem_starts i hi
    refine ⟨{ frame := f, start := s.boundary }, ?_, rfl⟩
    rw [s.at_sends o i hi hpast]
    exact ((s.sendItem i).reach_passes o.time).ringOut.subset hf

/-! ### The own census frames, TRIGGER, ANNOUNCE and DEPART (R9, R20, R124) -/

theorem exec_sendCensusIf (c : Instr) (kind : Frame → Bool) (s : State) (f : Frame) (h : s.resetPin = false)
    (hc : c.isArrival = false) (hact : actOf c = (·.sendCensusIf kind)) (hown : (s.at c.occasion).path.ownCensus = some f)
    (hkind : kind f = true) (hcensus : (s.at c.occasion).mode = .census) (hwaiting : (s.at c.occasion).path.waiting = none) :
    exec c s = .next ((s.at c.occasion).sendItem .census) := by
  have hnext : (s.at c.occasion).nextItem = some .census := by
    rw [State.nextItem_census _ (by simpa using h) hwaiting hcensus, if_neg (by simp [hown])]
  have hsends : (s.at c.occasion).sendCensusIf kind = (s.at c.occasion).sendItem .census := by
    unfold State.sendCensusIf
    rw [hown, if_pos (by simpa using hkind), State.sendIfNext_chosen _ _ hnext]
  rw [exec_released c s h, hact, answerOf, if_neg (by simp [hc]), ← hsends]

theorem State.nextItem_trigger (s : State) (hreset : s.resetPin = false) (hmode : s.mode = .active)
    (hbypass : s.path.bypass = []) (hwaiting : s.path.waiting = none) (h : s.trigger.own = .waiting) :
    s.nextItem = some .trigger := by
  by_cases hinsertion : s.path.insertion = none
  · rw [s.nextItem_free hreset hwaiting hmode hinsertion, if_neg (by simp [hbypass]), if_pos h]
  · rw [s.nextItem_inserting hreset hwaiting hmode hinsertion, if_pos ⟨h, hbypass⟩]

/-- An own ANNOUNCE or DEPART needs a record boundary, no own record in progress and no own TRIGGER ready. -/
theorem State.nextItem_blocked (s : State) (i : Item) (hi : i = .announce ∨ i = .depart)
    (h : s.path.phase = .forwarding ∨ s.path.insertion ≠ none ∨ s.trigger.own = .waiting) : s.nextItem ≠ some i := by
  intro hnext
  have k := s.nextItem_ready i hnext
  obtain ⟨hreset, hwaiting, hmode, hbypass, hinsertion, hphase⟩ : s.resetPin = false ∧ s.path.waiting = none ∧
      s.mode = .active ∧ s.path.bypass = [] ∧ s.path.insertion = none ∧ s.path.phase ≠ .forwarding := by
    rcases hi with rfl | rfl <;>
      · obtain ⟨hr, hw, hm, hb, hn, hp, -⟩ := k
        exact ⟨hr, hw, hm, hb, hn, hp⟩
  rcases h with h | h | h
  · exact hphase h
  · exact h hinsertion
  · rw [s.nextItem_trigger hreset hmode hbypass hwaiting h] at hnext
    rcases hi with rfl | rfl <;> cases hnext

/-- Settles O43. -/
theorem ownControlFramesGoOut : Obligations.OwnControlFramesGoOut := by
  refine ⟨?census, ?active⟩
  case census =>
    rintro s t o f rfl hreset hstation hown hwaiting
    have hmode : (s.at o).mode = .census := (s.at o).mode_census hstation
    refine ⟨_, rfl, fun b hf => ?_, fun b hf => ?_, fun b hf => ?_⟩ <;> subst hf
    · rw [exec_sendCensusIf (.ownClaimSent o) Frame.isClaim s _ hreset rfl rfl hown rfl hmode hwaiting]
      exact congrArg Host.Outcome.next ((s.at o).sendItem_census _ hown)
    · rw [exec_sendCensusIf (.ownNumberSent o) Frame.isNumber s _ hreset rfl rfl hown rfl hmode hwaiting]
      exact congrArg Host.Outcome.next ((s.at o).sendItem_census _ hown)
    · rw [exec_sendCensusIf (.ownRingUpSent o) Frame.isRingUp s _ hreset rfl rfl hown rfl hmode hwaiting]
      exact congrArg Host.Outcome.next ((s.at o).sendItem_census _ hown)
  case active =>
    rintro s t o n rfl hreset hmode hnumber hbypass hwaiting
    have hreset' : (s.at o).resetPin = false := by simpa using hreset
    rw [exec_ownAnnounceSent o s hreset, exec_ownDepartSent o s hreset]
    refine ⟨fun g hown hgroup => ⟨_, rfl, ?_⟩, fun htrigger hphase hinsertion =>
      ⟨fun hannounce => ⟨_, rfl, ?_⟩, fun hannounce hdepart => ⟨_, rfl, ?_⟩⟩, fun hblocked => ⟨?_, ?_⟩⟩
    · rw [exec_ownTriggerSent o s hreset,
        State.sendIfNext_chosen _ _ ((s.at o).nextItem_trigger hreset' hmode hbypass hwaiting hown),
        (s.at o).sendItem_trigger, State.ownTriggerBody, hnumber, hgroup]
      rfl
    · rw [State.sendIfNext_chosen, (s.at o).sendItem_announce, State.announceBody, hnumber]
      · rfl
      · rw [(s.at o).nextItem_free hreset' hwaiting hmode hinsertion, if_neg (by simp [hbypass]), if_neg htrigger,
          if_neg hphase, if_pos hannounce]
    · rw [State.sendIfNext_chosen, (s.at o).sendItem_depart, State.departBody, hnumber]
      · rfl
      · rw [(s.at o).nextItem_free hreset' hwaiting hmode hinsertion, if_neg (by simp [hbypass]), if_neg htrigger,
          if_neg hphase, if_neg hannounce, if_pos hdepart]
    · rw [State.sendIfNext_other _ _ ((s.at o).nextItem_blocked _ (.inl rfl) hblocked)]
    · rw [State.sendIfNext_other _ _ ((s.at o).nextItem_blocked _ (.inr rfl) hblocked)]

end Sys2Proof.Machine
end

section
/-! PROOF. The timers of the membership unit (O44) and of the trigger unit (O47), and an arriving TRIGGER (O46). -/

namespace Sys2Proof.Machine

/-! ### The expiry of a running timer -/

theorem exec_expiry (c : Instr) (timer : State → Timer) (act : State → State) (s : State) (t : Time) (h : s.resetPin = false)
    (hc : c.isArrival = false) (hact : actOf c = (·.expiry timer act)) (ht : timer (s.at c.occasion) = some t) :
    exec c s = .next (act (s.expired c.occasion t)) := by
  have hexpires : (s.at c.occasion).expiry timer act = act (s.expired c.occasion t) := State.expiry_running _ _ _ t ht
  rw [exec_released c s h, hact, answerOf, if_neg (by simp [hc]), ← hexpires]

section Rows
variable (o : Occasion) (s : State) (t : Time) (h : s.resetPin = false)
include h

theorem exec_censusTimerExpires (ht : s.member.censusTimer = some t) :
    exec (.censusTimerExpires o) s = .next (s.expired o t).censusTimedOut :=
  exec_expiry (.censusTimerExpires o) (·.member.censusTimer) _ s t h rfl rfl (by simpa using ht)

theorem exec_isolationIntervalExpires (ht : s.member.isolationTimer = some t) :
    exec (.isolationIntervalExpires o) s = .next ((s.expired o t).censusEntry none) :=
  exec_expiry (.isolationIntervalExpires o) (·.member.isolationTimer) (·.censusEntry none) s t h rfl rfl (by simpa using ht)

theorem exec_departLimitTimerExpires (ht : s.member.departTimer = some t) :
    exec (.departLimitTimerExpires o) s = .next (s.expired o t).leaveRing :=
  exec_expiry (.departLimitTimerExpires o) (·.member.departTimer) _ s t h rfl rfl (by simpa using ht)

theorem exec_trigPulseTimerExpires (ht : s.trigger.pulseTimer = some t) : exec (.trigPulseTimerExpires o) s = .next
    { s.expired o t with trigger := { (s.expired o t).trigger with pulseTimer := none, pin := false } } :=
  exec_expiry (.trigPulseTimerExpires o) (·.trigger.pulseTimer)
    (fun s => { s with trigger := { s.trigger with pulseTimer := none, pin := false } }) s t h rfl rfl (by simpa using ht)

theorem exec_triggerReturnTimerExpires (ht : s.trigger.returnTimer = some t) :
    exec (.triggerReturnTimerExpires o) s = .next ((s.expired o t).finishTrigger .lost) :=
  exec_expiry (.triggerReturnTimerExpires o) (·.trigger.returnTimer) (·.finishTrigger .lost) s t h rfl rfl
    (by simpa using ht)

theorem exec_linkLoss (first : Bool) (ht : s.receiver.lossTimer = some t) :
    exec (.linkLoss o first) s = .next ((s.expired o t).linkLost first) :=
  exec_expiry (.linkLoss o first) (·.receiver.lossTimer) (·.linkLost first) s t h rfl rfl (by simpa using ht)

end Rows

section Expired
variable (s : State) (o : Occasion) (t : Time)

@[simp] theorem State.expired_member_leavePending : (s.expired o t).member.leavePending = s.member.leavePending := by
  simp [State.expired]

@[simp] theorem State.expired_member_attempts : (s.expired o t).member.attempts = s.member.attempts := by
  simp [State.expired]

@[simp] theorem State.expired_member_mark : (s.expired o t).member.mark = s.member.mark := by simp [State.expired]

@[simp] theorem State.expired_member_ringSize : (s.expired o t).member.ringSize = s.member.ringSize := by
  simp [State.expired]

@[simp] theorem State.expired_member_number : (s.expired o t).member.number = s.member.number := by simp [State.expired]

@[simp] theorem State.expired_member_epoch : (s.expired o t).member.epoch = s.member.epoch := by simp [State.expired]

@[simp] theorem State.expired_member_station : (s.expired o t).member.station = s.member.station := by
  simp [State.expired]

@[simp] theorem State.expired_mode : (s.expired o t).mode = s.mode := by simp [State.expired]

@[simp] theorem State.expired_phase : (s.expired o t).path.phase = s.path.phase := by simp [State.expired]

@[simp] theorem State.expired_filter : (s.expired o t).filter = s.filter := by simp [State.expired]

@[simp] theorem State.expired_resetPin : (s.expired o t).resetPin = s.resetPin := by simp [State.expired]

@[simp] theorem State.expired_receiver : (s.expired o t).receiver = s.receiver := by simp [State.expired]

@[simp] theorem State.expired_schedule : (s.expired o t).trigger.schedule = s.trigger.schedule := by
  simp [State.expired]

@[simp] theorem State.expired_group : (s.expired o t).trigger.group = s.trigger.group := by simp [State.expired]

theorem State.expired_incoming_nil (h : s.send.incoming = []) : (s.expired o t).send.incoming = [] :=
  (s.at o).reach_incoming_nil t (s.at_incoming_nil o h)

theorem State.expired_insertion_none (hmode : s.mode ≠ .active) (h : s.path.insertion = none) :
    (s.expired o t).path.insertion = none :=
  (s.at o).reach_insertion_none t (by simpa using hmode) (s.at_insertion_none o hmode h)

end Expired

/-! ### The census timer (R40, R41, R44) -/

section CensusTimer
variable (s : State)

theorem State.endLeavePending_eq : s.endLeavePending = State.post
    { s.leaveSends with
      member := { s.member with station := .pass, sub := none, leavePending := false, censusTimer := none } }
    (.stateChange .pass .left s.member.ringSize (s.member.number.getD 0) s.member.epoch) := by
  obtain ⟨send, bus, events, counters, e⟩ := s.leaveSends_frame
  unfold State.endLeavePending
  rw [e]
  rfl

theorem State.censusTimedOut_leavePending (h : s.member.leavePending = true) : s.censusTimedOut = s.endLeavePending :=
  if_pos h

theorem State.censusTimedOut_restarts (h : s.member.leavePending = false) (hleft : s.member.attempts + 1 < 8) :
    s.censusTimedOut = State.startAttempt { s with member := { s.member with attempts := s.member.attempts + 1 } } := by
  unfold State.censusTimedOut
  rw [if_neg (by simp [h])]
  exact if_neg (Nat.not_le.mpr hleft)

theorem State.censusTimedOut_isolates (h : s.member.leavePending = false) (hleft : 8 ≤ s.member.attempts + 1) :
    s.censusTimedOut = State.enterIsolated { s with member := { s.member with attempts := s.member.attempts + 1 } } := by
  unfold State.censusTimedOut
  rw [if_neg (by simp [h])]
  exact if_pos hleft

end CensusTimer

/-! ### A decodable symbol (R4, R41, R48) -/

section Symbol
variable (s : State)

/-- The receiver once a decodable symbol has arrived. -/
def State.symbolHeard (s : State) : State :=
  { s with receiver := { s.receiver with up := true, lossTimer := some (s.now + 3200), lostAt := none } }

theorem State.symbolArrives_up (h : s.receiver.up = true) : s.symbolArrives = s.symbolHeard := if_pos h

theorem State.symbolArrives_elsewhere (h : s.member.station ≠ .isolated) : s.symbolArrives = s.symbolHeard := by
  have h' : s.symbolArrives = if s.receiver.up then s.symbolHeard else
      if s.member.station = .isolated then s.symbolHeard.censusEntry none else s.symbolHeard := rfl
  rw [h', if_neg h, ite_self]

theorem State.mode_isolated (h : s.member.station = .isolated) : s.mode = .transparent := by
  unfold State.mode; rw [h]; rfl

theorem State.symbolArrives_isolated (hdown : s.receiver.up = false) (h : s.member.station = .isolated)
    (hphase : s.path.phase = .clear) (hinsertion : s.path.insertion = none) (hincoming : s.send.incoming = []) :
    s.symbolArrives = s.symbolHeard.censusEntered := by
  have hentry : s.symbolHeard.censusEntry none = s.symbolHeard.censusEntered :=
    s.symbolHeard.censusEntry_offRing none (by simp [State.onRing, s.symbolHeard.mode_isolated h]) hphase hinsertion hincoming
  unfold State.symbolArrives
  rw [if_neg (by simp [hdown]), if_pos h]
  exact hentry

end Symbol

theorem exec_linkUp (o : Occasion) (s : State) (h : s.resetPin = false) :
    exec (.linkUp o) s = .next (s.at o).symbolArrives := exec_released (.linkUp o) s h

theorem exec_fillSymbolArrives (o : Occasion) (s : State) (h : s.resetPin = false) :
    exec (.fillSymbolArrives o) s = .next (s.at o).symbolArrives := exec_released (.fillSymbolArrives o) s h

theorem State.at_symbolHeard (s : State) (o : Occasion) : (s.at o).symbolHeard = { s.at o with
    receiver := { s.receiver with up := true, lossTimer := some (max s.now o.time + 3200), lostAt := none } } := by
  rw [← s.at_now o, ← s.at_receiver o]
  rfl

/-! ### The ring left at the DEPART limit (R10, R26) -/

section LeaveRing
variable (s : State)

/-- A record open on the input has ended with the mode (R10, R62, R93). -/
def State.inputEnded (s : State) : State :=
  match s.path.phase with
  | .forwarding => s.filterDiscard.setPhase .clear
  | .returning => s.returnAbandoned.setPhase .clear
  | .clear | .orphan => s.setPhase .clear

theorem State.leaveMode_eq : s.leaveMode = s.inputEnded.endInsertion := by
  unfold State.leaveMode State.inputEnded
  cases s.path.phase <;> rfl

theorem State.inputEnded_frame : ∃ filter delivery send, s.inputEnded =
    { s with path := { s.path with phase := .clear }, filter := filter, delivery := delivery, send := send } := by
  unfold State.inputEnded
  split
  next =>
    obtain ⟨f, d, -, e⟩ := s.filterDiscard_frame
    exact ⟨f, d, s.send, by rw [e]; rfl⟩
  next =>
    obtain ⟨u, e⟩ := s.returnAbandoned_frame
    exact ⟨s.filter, s.delivery, u, by rw [e]; rfl⟩
  all_goals exact ⟨_, _, _, rfl⟩

theorem State.leaveRing_eq : s.leaveRing = State.post
    { s.inputEnded.endInsertion with
      member := { s.member with station := .pass, number := none, depart := .none, departTimer := none } }
    (.stateChange .pass .left s.member.ringSize 0 s.member.epoch) := by
  obtain ⟨f, d, u, e⟩ := s.inputEnded_frame
  unfold State.leaveRing
  rw [s.leaveMode_eq, e]
  rfl

theorem State.inputEnded_idle (h : s.path.phase = .clear ∨ s.path.phase = .orphan ∨
    s.path.phase = .forwarding ∧ s.filter.context = none ∨
    s.path.phase = .returning ∧ (s.send.context = .closed ∨ s.send.context = .openHeadless)) :
    s.inputEnded = s.setPhase .clear := by
  unfold State.inputEnded
  rcases h with h | h | ⟨h, hclosed⟩ | ⟨h, hclosed⟩
  · rw [h]
  · rw [h]
  · rw [h]
    exact congrArg (State.setPhase · .clear) (s.filterDiscard_closed hclosed)
  · have hkept : s.returnAbandoned = s := by
      unfold State.returnAbandoned
      rcases hclosed with hclosed | hclosed <;> rw [hclosed]
    rw [h]
    exact congrArg (State.setPhase · .clear) hkept

theorem State.inputEnded_returning (h : s.path.phase = .returning)
    (hopen : s.send.context = .openCurrent ∨ s.send.context = .openStale) :
    s.inputEnded = (s.setContext .closed).setPhase .clear := by
  have hclosed : s.returnAbandoned = s.setContext .closed := by
    unfold State.returnAbandoned
    rcases hopen with hopen | hopen <;> rw [hopen]
  unfold State.inputEnded
  rw [h]
  exact congrArg (State.setPhase · .clear) hclosed

theorem State.filterDiscard_open (c : RecordContext) (h : s.filter.context = some c) :
    s.filterDiscard = (s.giveBack c).closeContext := by
  unfold State.filterDiscard; rw [h]

theorem State.inputEnded_forwarding (c : RecordContext) (h : s.path.phase = .forwarding) (hopen : s.filter.context = some c) :
    s.inputEnded = (s.giveBack c).closeContext.setPhase .clear := by
  unfold State.inputEnded
  rw [h]
  exact congrArg (State.setPhase · .clear) (s.filterDiscard_open c hopen)

end LeaveRing

/-- Settles O44. -/
theorem membershipTimersExpire : Obligations.MembershipTimersExpire := by
  refine ⟨fun s o t hreset ht => ⟨_, rfl, ?census⟩, fun s o t hreset hphase => ⟨?isolation, fun hdown => ⟨(s.at o).symbolHeard,
    s.at_symbolHeard o, ?linkUp⟩⟩, fun s o t hreset hstation ht =>
      ⟨s.expired o t, (s.expired o t).setPhase .clear, (s.expired o t).inputEnded, rfl, rfl, ?depart⟩⟩
  case census =>
    rw [exec_censusTimerExpires o s t hreset ht, ← s.expired_member_leavePending o t,
      ← s.expired_member_attempts o t, ← s.expired_member_mark o t, ← s.expired_member_ringSize o t,
      ← s.expired_member_number o t, ← s.expired_member_epoch o t]
    generalize s.expired o t = u
    refine ⟨fun h => ?_, fun h hleft => ?_, fun h hleft => ?_⟩
    · rw [u.censusTimedOut_leavePending h, u.endLeavePending_eq]
    · rw [u.censusTimedOut_restarts h hleft]; rfl
    · rw [u.censusTimedOut_isolates h hleft]; rfl
  case isolation =>
    intro hisolated hinsertion hincoming ht
    have hmode := s.mode_isolated hisolated
    rw [exec_isolationIntervalExpires o s t hreset ht]
    refine congrArg Host.Outcome.next (State.censusEntry_offRing _ none ?_ (by simpa using hphase)
      (s.expired_insertion_none o t (by simp [hmode]) hinsertion) (s.expired_incoming_nil o t hincoming))
    simp [State.onRing, hmode]
  case linkUp =>
    rw [exec_linkUp o s hreset]
    refine ⟨fun hisolated hinsertion hincoming => ?_, fun helsewhere => ?_⟩
    · have hmode := s.mode_isolated hisolated
      rw [State.symbolArrives_isolated _ (by simpa using hdown) (by simpa using hisolated) (by simpa using hphase)
        (s.at_insertion_none o (by simp [hmode]) hinsertion) (s.at_incoming_nil o hincoming)]
    · rw [State.symbolArrives_elsewhere _ (by simpa using helsewhere)]
  case depart =>
    rw [exec_departLimitTimerExpires o s t hreset ht, ← s.expired_phase o t,
      ← s.expired_filter o t, ← s.expired_delivery o t, ← s.expired_member_ringSize o t, ← s.expired_member_epoch o t]
    generalize s.expired o t = x
    refine ⟨x.inputEnded_idle, fun hphase hopen => ?returning, fun c hphase hopen => ?forwarding, ?_⟩
    case returning => rw [x.inputEnded_returning hphase hopen]; rfl
    case forwarding =>
      rw [x.inputEnded_forwarding c hphase hopen]
      refine ⟨fun hverdict => ?_, fun older e hverdict hstore hfilling => ?_⟩
      · rw [x.giveBack_unreserved c hverdict]; rfl
      · rw [x.giveBack_reserved c hverdict, x.dropFilling_append older e hstore hfilling]; rfl
    rw [x.leaveRing_eq]

/-! ### The timers of the trigger unit (R126, R133, R134) -/

theorem State.fireEntry_due (s : State) (before behind : List Fire) (f : Fire)
    (h : s.trigger.schedule = before ++ f :: behind) (hfirst : ∀ g ∈ before ++ behind, f.due ≤ g.due) :
    s.fireEntry before.length = State.fire { s.reach f.due with trigger := { (s.reach f.due).trigger with
      schedule := before ++ behind } } f.group f.source := by
  have hget : s.trigger.schedule[before.length]? = some f := by rw [h]; simp
  have hall : s.trigger.schedule.all (fun g => decide (f.due ≤ g.due)) = true := by
    rw [List.all_eq_true, h]
    intro g hg
    refine decide_eq_true ?_
    rcases List.mem_append.mp hg with hg | hg
    · exact hfirst g (List.mem_append_left _ hg)
    · rcases List.mem_cons.mp hg with rfl | hg
      · exact Nat.le_refl _
      · exact hfirst g (List.mem_append_right _ hg)
  unfold State.fireEntry
  rw [hget]
  simp only [hall, if_true, State.reach_trigger_schedule]
  rw [h, List.eraseIdx_append_of_length_le (Nat.le_refl _)]
  simp

/-- Settles O47. -/
theorem triggerTimersExpire : Obligations.TriggerTimersExpire := by
  intro s o hreset
  refine ⟨fun before behind f hschedule hfirst => ⟨_, rfl, ?due⟩, fun t ht => ?pulse, fun t g ht hgroup => ?lost⟩
  case due =>
    rw [exec_released (.fireDue o before.length) s hreset]
    refine congrArg Host.Outcome.next ?_
    exact (s.at o).fireEntry_due before behind f (by simpa using hschedule) hfirst
  case pulse => exact exec_trigPulseTimerExpires o s t hreset ht
  case lost =>
    rw [exec_triggerReturnTimerExpires o s t hreset ht, State.finishTrigger, s.expired_group, hgroup]
    rfl

end Sys2Proof.Machine
end

section
/-! PROOF. An arriving TRIGGER (O46): its return, the fires it asks for, and how it goes on ahead of an own frame. -/

namespace Sys2Proof.Machine

/-! ### TRIGGER in RUN and LEAVING (R13, R14, R125, R130) -/

theorem exec_triggerArrives (o : Occasion) (b : TriggerBody) (s : State) : exec (.triggerArrives o b) s =
    arrivalStep o (some 0) (·.byMode (.trigger b) (·.activeTrigger b)) s := rfl

theorem exec_triggerArrives_active (o : Occasion) (b : TriggerBody) (s : State) (h : s.Receiving) (hmode : s.mode = .active)
    (hgood : (Frame.trigger b).unusable = false) :
    exec (.triggerArrives o b) s = withinBypass ((s.heard o).activeTrigger b) := by
  rw [exec_triggerArrives, arrivalStep_receiving o _ s h, State.byMode_active _ _ _ hgood (by simpa using hmode)]

section Trigger
variable (s : State) (b : TriggerBody)

theorem State.isTriggerReturn_iff : s.isTriggerReturn b = true ↔ s.trigger.own = .sent ∧ s.trigger.group = some b.group ∧
    b.hop.toNat + 1 = s.member.ringSize.toNat := by
  simp [State.isTriggerReturn, State.returnHop_iff, and_assoc]

theorem State.activeTrigger_own (h : s.member.number = some b.source) : s.activeTrigger b = s.ownTriggerFrame b := by
  unfold State.activeTrigger
  rw [if_pos ((s.isOwn_iff _).mpr h)]

theorem State.activeTrigger_orphan (h : s.member.number ≠ some b.source)
    (hhop : s.member.ringSize.toNat ≤ b.hop.toNat + 1) : s.activeTrigger b = s.countOrphan := by
  unfold State.activeTrigger
  rw [if_neg (mt (s.isOwn_iff _).mp h), if_pos ((s.orphanHop_iff _).mpr hhop)]

theorem State.activeTrigger_other (h : s.member.number ≠ some b.source)
    (hhop : b.hop.toNat + 1 < s.member.ringSize.toNat) :
    s.activeTrigger b = (s.otherTrigger b).overtake (.trigger { b with hop := b.hop + 1 }) := by
  unfold State.activeTrigger
  rw [if_neg (mt (s.isOwn_iff _).mp h), if_neg (mt (s.orphanHop_iff _).mp (Nat.not_le.mpr hhop))]

/-- The own trigger has completed DONE. -/
def State.triggerReturned (s : State) (g : BitVec 3) : State := State.post
  { s with trigger := { s.trigger with own := .none, group := none, returnTimer := none } } (.triggerDone g .done)

theorem State.ownTriggerFrame_returned (h : s.isTriggerReturn b = true) (hown : s.member.number = some b.source) :
    s.ownTriggerFrame b = if s.trigger.membership.getLsbD b.group.toNat then
      (s.triggerReturned b.group).requestFire b.group b.source 0 else s.triggerReturned b.group := by
  have hgroup : s.trigger.group = some b.group := ((s.isTriggerReturn_iff b).mp h).2.1
  have hdone : s.finishTrigger .done = s.triggerReturned b.group := by
    unfold State.finishTrigger State.triggerReturned
    rw [hgroup]
    rfl
  unfold State.ownTriggerFrame
  rw [if_pos h, hdone, hown]
  rfl

theorem State.ownTriggerFrame_stale (h : ¬s.isTriggerReturn b = true) : s.ownTriggerFrame b = s.countStale := if_neg h

theorem State.otherTrigger_eq : s.otherTrigger b = if s.trigger.membership.getLsbD b.group.toNat then
    s.requestFire b.group b.source ((s.member.ringSize.toNat - 1 - b.hop.toNat) * s.member.hopTime.toNat) else s := rfl

end Trigger

/-! ### Fire requests (R129, R132) -/

section Fire
variable (s : State) (g : BitVec 3) (n : BitVec 5)

theorem State.requestFire_joins (delay : Time) (h : s.trigger.schedule.length < 4) (hdelay : delay ≠ 0) :
    s.requestFire g n delay = { s with trigger := { s.trigger with
      schedule := s.trigger.schedule ++ [{ group := g, source := n, due := s.now + delay }] } } := by
  unfold State.requestFire
  rw [if_pos h, if_neg hdelay]

theorem State.requestFire_fires (h : s.trigger.schedule.length < 4) : s.requestFire g n 0 = State.post
    { s with trigger := { s.trigger with pulseTimer := some (s.now + 100), pin := true } } (.triggerFired g n) := by
  unfold State.requestFire
  rw [if_pos h, if_pos rfl]
  rfl

theorem State.requestFire_missed (delay : Time) (h : 4 ≤ s.trigger.schedule.length) :
    s.requestFire g n delay = s.post (.triggerMissed g n) := by
  unfold State.requestFire
  rw [if_neg (Nat.not_lt.mpr h)]

theorem State.requestFire_bypass (delay : Time) : (s.requestFire g n delay).path.bypass = s.path.bypass := by
  obtain ⟨trigger, events, e⟩ := s.requestFire_frame g n delay
  rw [e]

end Fire

/-! ### A TRIGGER goes on ahead (R19, R21, R124) -/

section Overtake
variable (s : State) (f : Frame) (g : OutputFrame)

theorem State.overtake_alone (h : ∀ g, s.path.output = some g → g.own = false ∨ g.ends ≠ s.now + 80) :
    s.overtake f = s.cutThrough f := by
  unfold State.overtake
  split
  next g hg =>
    refine if_neg fun ⟨hown, hends⟩ => ?_
    rcases h g hg with h | h
    · rw [hown] at h; cases h
    · exact h hends
  next => rfl

theorem State.overtake_own (hg : s.path.output = some g) (hown : g.own = true) (hends : g.ends = s.now + 80) :
    s.overtake f = s.displace g.frame f := by
  unfold State.overtake
  split
  next g' hg' => rw [hg] at hg'; cases hg'; exact if_pos ⟨hown, hends⟩
  next hg' => rw [hg] at hg'; cases hg'

/-- The TRIGGER has taken the place of the frame last sent. -/
def State.ahead (s : State) (f : Frame) (sent : List SentFrame) : State :=
  { s with
    path := { s.path with output := some { frame := f, own := false, ends := s.now + 80 } }
    outside := { s.outside with ringOut := sent ++ [{ frame := f, start := s.now }] } }

/-- An own frame taken as sent follows one frame time later. -/
def State.follows (s : State) (own f : Frame) (sent : List SentFrame) (returnTimer : Timer) : State :=
  { s with
    path := { s.path with output := some { frame := own, own := true, ends := s.now + 160 } }
    outside := { s.outside with
      ringOut := sent ++ [{ frame := f, start := s.now }, { frame := own, start := s.now + 80 }] }
    send := { s.send with returnTimer := returnTimer } }

variable (own : Frame) (sent : List SentFrame) (last : SentFrame) (hring : s.outside.ringOut = sent ++ [last])
include hring

/-- What taking an own frame back leaves on the output: the TRIGGER in its place. -/
theorem State.displace_taken (u : State) (h : s.takeBack own = some u) : s.displace own f =
    { u with path := { u.path with output := some { frame := f, own := false, ends := s.now + 80 } }
             outside := { s.outside with ringOut := sent ++ [{ frame := f, start := s.now }] } } := by
  unfold State.displace
  rw [h, hring]
  simp only [List.dropLast_concat]
  rfl

theorem State.displace_head (b : HeadBody) (h : s.takeBack (.head b) = none) :
    s.displace (.head b) f = s.follows (.head b) f sent (s.send.returnTimer.map (· + 80)) := by
  unfold State.displace
  rw [h, hring]
  simp only [List.dropLast_concat, List.append_assoc]
  rfl

theorem State.displace_kept (hhead : ∀ b, own ≠ .head b) (h : s.takeBack own = none) :
    s.displace own f = s.follows own f sent s.send.returnTimer := by
  unfold State.displace
  rw [h, hring]
  simp only [List.dropLast_concat, List.append_assoc]
  cases own with
  | head b => exact absurd rfl (hhead b)
  | _ => rfl

end Overtake

section TakeBack
variable (s : State)

/-- A DATA is taken back when one has been sent. -/
theorem State.takeBack_data (b : DataBody) (i : Insertion) (hi : s.path.insertion = some i) (h : i.next ≠ 0) :
    s.takeBack (.data b) = some { s with path := { s.path with insertion := some { i with next := i.next - 1 } } } := by
  simp [State.takeBack, hi, Nat.one_le_iff_ne_zero, h]

theorem State.takeBack_data_none (b : DataBody) (h : ¬∃ i, s.path.insertion = some i ∧ i.next ≠ 0) :
    s.takeBack (.data b) = none := by
  cases hi : s.path.insertion with
  | none => simp [State.takeBack, hi]
  | some i =>
    have h0 : i.next = 0 := by_contra fun h0 => h ⟨i, hi, h0⟩
    simp [State.takeBack, hi, h0]

/-- When an own HEAD that has just begun is ready again. -/
def State.headReady (s : State) : Prop :=
  (∃ i, s.path.insertion = some i ∧ i.next = 0) ∧ s.send.head = some .inFlight ∧ s.send.cancelRequested = false ∧
    (s.send.context = .closed ∨ s.send.context = .openStale)

theorem State.headReady_iff : s.headReady ↔ s.path.insertion.any (fun i => i.next == 0) ∧ s.send.head = some .inFlight ∧
    s.send.cancelRequested = false ∧ (s.send.context = .closed ∨ s.send.context = .openStale) := by
  cases hi : s.path.insertion <;> simp [State.headReady, hi]

theorem State.takeBack_head (b : HeadBody) (h : s.headReady) : s.takeBack (.head b) = some { s with
    path := { s.path with insertion := none }
    send := { s.send with head := some (if s.send.attempts ≤ 1 then .staged else .retryWait),
                          attempts := s.send.attempts - 1, returnTimer := none } } := if_pos (s.headReady_iff.mp h)

theorem State.takeBack_head_none (b : HeadBody) (h : ¬s.headReady) : s.takeBack (.head b) = none :=
  if_neg (mt s.headReady_iff.mpr h)

theorem State.takeBack_trigger (b : TriggerBody) (h : s.trigger.own = .sent) :
    s.takeBack (.trigger b) = some { s with trigger := { s.trigger with own := .waiting } } := if_pos h

theorem State.takeBack_announce (b : AnnounceBody) (h : s.member.announce = .sent ∧ s.member.station = .run) :
    s.takeBack (.announce b) = some { s with member := { s.member with announce := .waiting } } := if_pos h

theorem State.takeBack_depart (b : DepartBody) (h : s.member.depart = .sent ∧ s.member.station = .leaving) :
    s.takeBack (.depart b) = some { s with member := { s.member with depart := .waiting } } := if_pos h

theorem State.takeBack_tail (b : TailBody) (h : s.path.insertion = none) : s.takeBack (.tail b) = some (s.resumeTail b) :=
  if_pos h

end TakeBack

/-- Settles O46. -/
theorem triggerArrives : Obligations.TriggerArrives := by
  refine ⟨fun s o b hreceiving hmode hgood => ⟨_, rfl, ?arrives⟩, fun s f => ⟨s.overtake_alone f, ?displaces⟩,
    fun s g n delay => ⟨s.requestFire_joins g n delay, s.requestFire_fires g n, s.requestFire_missed g n delay⟩⟩
  case arrives =>
    have hroom := s.heard_bypass_room o hreceiving
    rw [exec_triggerArrives_active o b s hreceiving hmode hgood, ← s.heard_member_number o, ← s.heard_member_ringSize o,
      ← s.heard_member_hopTime o, ← s.heard_trigger_group o, ← s.heard_trigger_membership o, ← s.heard_counters o]
    generalize s.heard o = t at hroom
    refine ⟨fun hown => ⟨fun hsent hgroup hhop => ⟨t.triggerReturned b.group, rfl, ?_⟩, fun hother => ?stale⟩,
      fun hother => ⟨fun hhop => ?orphan, fun hhop => ?goesOn⟩⟩
    · rw [t.activeTrigger_own b hown,
        t.ownTriggerFrame_returned b ((t.isTriggerReturn_iff b).mpr ⟨hsent, hgroup, hhop⟩) hown]
      refine ⟨fun hmember => ?_, fun hmember => ?_⟩
      · rw [if_neg (by simp [hmember])]
        exact withinBypass_next hroom.le
      · rw [if_pos hmember]
        exact withinBypass_next (by rw [State.requestFire_bypass]; exact hroom.le)
    case stale =>
      have hreturn : ¬t.isTriggerReturn b = true := by
        rw [t.isTriggerReturn_iff b]
        rintro ⟨hsent, hgroup, hhop⟩
        exact hother.elim (· hsent) (Or.elim · (· hgroup) (· hhop))
      rw [t.activeTrigger_own b hown, t.ownTriggerFrame_stale b hreturn]
      exact withinBypass_next (s := t.countStale) hroom.le
    case orphan =>
      rw [t.activeTrigger_orphan b hother hhop]
      exact withinBypass_next (s := t.countOrphan) hroom.le
    case goesOn =>
      rw [t.activeTrigger_other b hother hhop, t.otherTrigger_eq b]
      refine ⟨fun hmember => ?_, fun hmember => ?_⟩
      · rw [if_neg (by simp [hmember]), withinBypass_overtake _ hroom]
      · rw [if_pos hmember, withinBypass_overtake _ (by rw [State.requestFire_bypass]; exact hroom)]
  case displaces =>
    rintro ⟨frame, own, ends⟩ sent last houtput hown hends hring
    rw [s.overtake_own f _ houtput hown hends]
    refine ⟨s.ahead f sent, _, rfl, Iff.rfl, ?_⟩
    cases frame with
    | head b =>
      exact ⟨fun h => s.displace_taken f _ sent last hring _ (s.takeBack_head b h), fun h => by
        rw [s.displace_head f sent last hring b (s.takeBack_head_none b h)]
        cases hr : s.send.returnTimer <;> rfl⟩
    | data b =>
      refine ⟨fun h => ?_, fun h => s.displace_kept f _ sent last hring (by simp) (s.takeBack_data_none b h)⟩
      obtain ⟨i, hi, hnext⟩ := h
      rw [s.displace_taken f _ sent last hring _ (s.takeBack_data b i hi hnext), hi]
      rfl
    | tail b =>
      exact ⟨fun h => s.displace_taken f _ sent last hring _ (s.takeBack_tail b h),
        fun h => s.displace_kept f _ sent last hring (by simp) (if_neg h)⟩
    | trigger b =>
      exact ⟨fun h => s.displace_taken f _ sent last hring _ (s.takeBack_trigger b h),
        fun h => s.displace_kept f _ sent last hring (by simp) (if_neg h)⟩
    | announce b =>
      exact ⟨fun h => s.displace_taken f _ sent last hring _ (s.takeBack_announce b h),
        fun h => s.displace_kept f _ sent last hring (by simp) (if_neg h)⟩
    | depart b =>
      exact ⟨fun h => s.displace_taken f _ sent last hring _ (s.takeBack_depart b h),
        fun h => s.displace_kept f _ sent last hring (by simp) (if_neg h)⟩
    | claim b | number b | ringUp b | void b | raw b =>
      exact ⟨False.elim, fun _ => s.displace_kept f _ sent last hring (by simp) rfl⟩

end Sys2Proof.Machine
end

section
/-! PROOF. What a census entry and a change to BARRED change and keep, block by block (O36). -/

namespace Sys2Proof.Machine

/-! ### The record filter on the notice (R93) -/

section Discard
variable (s : State)

/-- The receive store and the rings once an open record context has been discarded. -/
def State.discarded (s : State) : Delivery := s.filterDiscard.delivery

theorem State.filterDiscard_eq :
    s.filterDiscard = { s with filter := { s.filter with context := none }, delivery := s.discarded } := by
  unfold State.discarded
  cases h : s.filter.context with
  | none =>
    rw [s.filterDiscard_closed h, ← h]
  | some c =>
    obtain ⟨d, e⟩ := s.giveBack_frame c
    rw [s.filterDiscard_open c h, e]
    rfl

theorem State.discarded_closed (h : s.filter.context = none) : s.discarded = s.delivery := by
  unfold State.discarded
  rw [s.filterDiscard_closed h]

theorem State.discarded_open (c : RecordContext) (h : s.filter.context = some c) : s.discarded = (s.giveBack c).delivery := by
  unfold State.discarded
  rw [s.filterDiscard_open c h]
  rfl

theorem State.discarded_unreserved (h : ∀ c, s.filter.context = some c → c.verdict ≠ .accepting) :
    s.discarded = s.delivery := by
  cases hc : s.filter.context with
  | none => exact s.discarded_closed hc
  | some c => rw [s.discarded_open c hc, s.giveBack_unreserved c (h c hc)]

theorem State.discarded_reserved (c : RecordContext) (older : List StoreEntry) (e : StoreEntry)
    (h : s.filter.context = some c) (hverdict : c.verdict = .accepting) (hstore : s.delivery.store = older ++ [e])
    (hfilling : e.state = .filling) : s.discarded = Delivery.setRing { s.delivery with store := older } e.ring
      { s.delivery.ring e.ring with reserved := (s.delivery.ring e.ring).reserved - 1 } := by
  rw [s.discarded_open c h, s.giveBack_reserved c hverdict, s.dropFilling_append older e hstore hfilling]

theorem State.dropFilling_delivery_congr (t : State) (h : t.delivery = s.delivery) :
    t.dropFilling.delivery = s.dropFilling.delivery := by
  unfold State.dropFilling
  rw [h]
  split
  · split <;> simp [h]
  · exact h

/-- The context and the store alone say what is given back. -/
theorem State.discarded_congr (t : State) (hcontext : t.filter.context = s.filter.context)
    (hdelivery : t.delivery = s.delivery) : t.discarded = s.discarded := by
  cases h : s.filter.context with
  | none => rw [s.discarded_closed h, t.discarded_closed (hcontext.trans h), hdelivery]
  | some c =>
    rw [s.discarded_open c h, t.discarded_open c (hcontext.trans h)]
    by_cases hverdict : c.verdict = .accepting
    · rw [s.giveBack_reserved c hverdict, t.giveBack_reserved c hverdict, s.dropFilling_delivery_congr t hdelivery]
    · rw [s.giveBack_unreserved c hverdict, t.giveBack_unreserved c hverdict, hdelivery]

theorem State.discarded_engine : s.discarded.engine = s.delivery.engine := by
  cases h : s.filter.context with
  | none => rw [s.discarded_closed h]
  | some c =>
    rw [s.discarded_open c h]
    unfold State.giveBack State.dropFilling
    split
    · split
      · split <;> rfl
      · rfl
    · rfl

end Discard

/-! ### Leaving active mode (R10) -/

section Leaves
variable (s : State)

/-- The send unit once active mode has been left: a returning record is given up unjudged, and the staging buffer is free. -/
def State.leftSend (s : State) : SendUnit :=
  { s.send with
    context := if s.path.phase = .returning ∧ (s.send.context = .openCurrent ∨ s.send.context = .openStale) then .closed
      else s.send.context
    staging := s.send.staging ++ s.send.incoming, incoming := [] }

theorem State.returnAbandoned_eq : s.returnAbandoned = { s with send := { s.send with
    context := if s.send.context = .openCurrent ∨ s.send.context = .openStale then .closed else s.send.context } } := by
  have hkept : s = { s with send := { s.send with context := s.send.context } } := rfl
  unfold State.returnAbandoned
  cases h : s.send.context with
  | openCurrent | openStale => simp [State.setContext]
  | closed | openHeadless => rw [h] at hkept; simpa using hkept

theorem State.leaveMode_discards : s.leaveMode.filterDiscard = { s with
    path := { s.path with phase := .clear, insertion := none }
    send := s.leftSend
    filter := { s.filter with context := none }
    delivery := s.discarded } := by
  rw [s.leaveMode_eq, State.filterDiscard_eq]
  unfold State.inputEnded State.leftSend
  cases h : s.path.phase with
  | clear | orphan =>
    simp [State.endInsertion, State.setPhase]
    exact State.discarded_congr s _ rfl rfl
  | forwarding =>
    rw [State.discarded_closed _ (by simp [State.endInsertion, State.setPhase, s.filterDiscard_eq]), s.filterDiscard_eq]
    simp [State.endInsertion, State.setPhase]
  | returning =>
    simp [State.endInsertion, State.setPhase, s.returnAbandoned_eq]
    exact State.discarded_congr s _ rfl rfl

end Leaves

/-! ### The send unit on the notice (R69, R73) -/

theorem State.adoptHead_congr (s t : State) (hfresh : t.send.fresh = s.send.fresh) (hbus : t.bus = s.bus)
    (hnow : t.now = s.now) : t.adoptHead.send = s.adoptHead.send ∧ t.adoptHead.bus = s.adoptHead.bus := by
  have hqueue : t.send.queue = s.send.queue := by
    have hfreshQueue : t.send.fresh.queue = s.send.fresh.queue := by rw [hfresh]
    exact hfreshQueue
  cases hq : s.send.queue with
  | nil =>
    rw [s.adoptHead_empty hq, t.adoptHead_empty (hqueue.trans hq), hfresh]
    exact ⟨rfl, hbus⟩
  | cons e rest =>
    by_cases hzero : e.length = 0
    · rw [s.adoptHead_staged e rest hq hzero, t.adoptHead_staged e rest (hqueue.trans hq) hzero, hfresh]
      exact ⟨rfl, hbus⟩
    · rw [s.adoptHead_fetching e rest hq hzero, t.adoptHead_fetching e rest (hqueue.trans hq) hzero, hfresh,
        State.makeRequest_eq, State.makeRequest_eq, hbus, hnow]
      exact ⟨rfl, rfl⟩

section RingLost
variable (s : State)

/-- The timers stop and the return context closes, whatever the head. -/
def State.returnClosed (s : State) : State :=
  { s with send := { s.send with returnTimer := none, gapTimer := none, context := .closed } }

theorem State.ringLostSends_kept (hflight : s.send.head ≠ some .inFlight) (hretry : s.send.head ≠ some .retryWait) :
    s.ringLostSends = s.returnClosed ∧ s.send.ringLostEvents = [] := by
  refine ⟨?_, ?_⟩
  · unfold State.ringLostSends
    dsimp only
    split
    next h => exact absurd h hflight
    next h => exact absurd h hretry
    next => rfl
  · unfold SendUnit.ringLostEvents
    split
    next h => exact absurd h hflight
    next h => exact absurd h hretry
    next => rfl

theorem State.ringLostSends_ends (h : s.send.head = some .inFlight ∨ s.send.head = some .retryWait) :
    s.ringLostSends = State.nextHead { s.returnClosed with send := s.returnClosed.send.abandonAttempt } ∧
      s.send.ringLostEvents = s.send.abandonAttempt.headSent .ringLost := by
  refine ⟨?_, ?_⟩
  · unfold State.ringLostSends
    dsimp only
    split
    next => rfl
    next => rfl
    next hflight hretry => exact h.elim (absurd · hflight) (absurd · hretry)
  · unfold SendUnit.ringLostEvents
    split
    next => rfl
    next => rfl
    next hflight hretry => exact h.elim (absurd · hflight) (absurd · hretry)

theorem SendUnit.abandonAttempt_inFlight (u : SendUnit) (h : u.head = some .inFlight) :
    u.abandonAttempt = { u with returnTimer := none, attempt := !u.attempt, accept := 0, held := 0 } := by
  unfold SendUnit.abandonAttempt
  split
  next => rfl
  next hu => exact absurd h hu

theorem SendUnit.abandonAttempt_other (u : SendUnit) (h : u.head ≠ some .inFlight) : u.abandonAttempt = u := by
  unfold SendUnit.abandonAttempt
  split
  next hu => exact absurd hu h
  next => rfl

theorem SendUnit.abandonAttempt_queue (u : SendUnit) : u.abandonAttempt.queue = u.queue := by
  unfold SendUnit.abandonAttempt
  split <;> rfl

theorem SendUnit.headSent_nil (u : SendUnit) (status : SendStatus) (h : u.queue = []) : u.headSent status = [] := by
  unfold SendUnit.headSent; rw [h]

theorem SendUnit.headSent_cons (u : SendUnit) (status : SendStatus) (e : SendEntry) (rest : List SendEntry)
    (h : u.queue = e :: rest) : u.headSent status = [.sent e.tag status u.attempts u.accept u.held] := by
  unfold SendUnit.headSent; rw [h]

/-- The send unit without its head entry, whose attempt has been lost with the ring. -/
def State.headLost (s : State) (rest : List SendEntry) (accept held : BitVec 5) : State :=
  { s with send := { s.send with
    queue := rest, head := none, context := .closed, returnTimer := none, gapTimer := none
    attempt := if s.send.head = some .inFlight then !s.send.attempt else s.send.attempt
    accept := accept, held := held
    seq := if s.send.attempts = 0 then s.send.seq else s.send.seq + 1 } }

/-- The head entry completes with RING_LOST, its last marks 0 and 0 when its attempt was in flight. -/
theorem State.ringLostSends_completes (e : SendEntry) (rest : List SendEntry) (hqueue : s.send.queue = e :: rest)
    (h : s.send.head = some .inFlight ∨ s.send.head = some .retryWait) (accept held : BitVec 5)
    (haccept : accept = if s.send.head = some .inFlight then 0 else s.send.accept)
    (hheld : held = if s.send.head = some .inFlight then 0 else s.send.held) :
    s.ringLostSends = (s.headLost rest accept held).adoptHead ∧
      s.send.ringLostEvents = [.sent e.tag .ringLost s.send.attempts accept held] := by
  obtain ⟨hsends, hevents⟩ := s.ringLostSends_ends h
  rw [hsends, hevents, State.nextHead]
  by_cases hflight : s.send.head = some .inFlight
  · rw [SendUnit.abandonAttempt_inFlight _ hflight, SendUnit.abandonAttempt_inFlight s.returnClosed.send hflight,
      SendUnit.dropHead_cons _ e rest (by exact hqueue), SendUnit.headSent_cons _ _ e rest (by exact hqueue), haccept, hheld]
    unfold State.headLost
    simp only [if_pos hflight]
    exact ⟨rfl, trivial⟩
  · rw [SendUnit.abandonAttempt_other _ hflight, SendUnit.abandonAttempt_other s.returnClosed.send hflight,
      SendUnit.dropHead_cons _ e rest (by exact hqueue), SendUnit.headSent_cons _ _ e rest (by exact hqueue), haccept, hheld]
    unfold State.headLost
    simp only [if_neg hflight]
    exact ⟨rfl, trivial⟩

end RingLost

/-! ### The trigger unit on the notice (R127) -/

section Trigger
variable (s : State) (status : TriggerStatus)

theorem State.dropTrigger_none (h : s.trigger.own = .none) :
    s.dropTrigger = s ∧ s.trigger.abandonEvents status = [] := ⟨if_pos h, if_pos h⟩

theorem State.dropTrigger_pending (g : BitVec 3) (h : s.trigger.own ≠ .none) (hg : s.trigger.group = some g) :
    s.dropTrigger = { s with trigger := { s.trigger with own := .none, group := none, returnTimer := none } } ∧
      s.trigger.abandonEvents status = [.triggerDone g status] := by
  refine ⟨if_neg h, ?_⟩
  unfold TriggerUnit.abandonEvents
  rw [if_neg h, hg]
  rfl

end Trigger

theorem State.dropTrigger_congr (t u : State) (htrigger : t.trigger = u.trigger) :
    t.dropTrigger.trigger = u.dropTrigger.trigger := by
  unfold State.dropTrigger
  rw [htrigger]
  split
  · exact htrigger
  · rfl

/-! ### The notice as a whole (R30, R171) -/

theorem State.postAll_events (es : List Event) : ∀ s t : State, s.events = t.events →
    (s.postAll es).events = (t.postAll es).events := by
  induction es with
  | nil => exact fun _ _ h => h
  | cons e es ih => exact fun s t h => ih (s.post e) (t.post e) (congrArg (·.post e) h)

/-- What the ring's loss is to a state: the send unit and the trigger unit act on it, and the three blocks post. -/
theorem State.ringLeft_onRing (w : State) (cause : StateCause) : ∃ events,
    w.ringLeft true (some cause) = { w.ringLostSends.dropTrigger with events := events } ∧
    events = (w.postAll (takeTurns w.order w.send.ringLostEvents (w.trigger.abandonEvents .ringLost)
      (w.entryEvents (some cause)))).events := by
  obtain ⟨trigger, htrigger⟩ := w.ringLostSends.dropTrigger_frame
  obtain ⟨send, bus, hsends⟩ := w.ringLostSends_frame
  obtain ⟨events, he⟩ := w.ringLostSends.dropTrigger.postAll_frame (takeTurns w.order w.send.ringLostEvents
    (w.trigger.abandonEvents .ringLost) (w.entryEvents (some cause)))
  refine ⟨events, he, ?_⟩
  have hevents := congrArg State.events he
  rw [State.postAll_events _ _ w (by rw [htrigger, hsends])] at hevents
  exact hevents.symm

/-- A state `w` that has left active mode from `s`: all but the membership unit, the path and the counters. -/
structure State.LeftFrom (w s : State) : Prop where
  send     : w.send = s.leftSend
  filter   : w.filter = { s.filter with duplicates := Vector.replicate 30 none, context := none }
  delivery : w.delivery = s.discarded
  trigger  : w.trigger = s.trigger
  bus      : w.bus = s.bus
  order    : w.order = s.order
  now      : w.now = s.now
  events   : w.events = s.events
  resetPin : w.resetPin = s.resetPin
  receiver : w.receiver = s.receiver
  host     : w.host = s.host
  outside  : w.outside = s.outside
  pending  : w.pending = s.pending

section LeftFrom
variable {w s : State} (h : w.LeftFrom s)
include h

theorem State.LeftFrom.head : w.send.head = s.send.head := by rw [h.send]; rfl

theorem State.LeftFrom.queue : w.send.queue = s.send.queue := by rw [h.send]; rfl

theorem State.LeftFrom.ringLostEvents : w.send.ringLostEvents = s.send.ringLostEvents := by
  cases hqueue : s.send.queue with
  | nil =>
    have hnone (u : SendUnit) (hu : u.queue = []) : u.ringLostEvents = [] := by
      unfold SendUnit.ringLostEvents
      split
      · exact SendUnit.headSent_nil _ _ (u.abandonAttempt_queue.trans hu)
      · exact SendUnit.headSent_nil _ _ (u.abandonAttempt_queue.trans hu)
      · rfl
    rw [hnone _ hqueue, hnone _ (h.queue.trans hqueue)]
  | cons e rest =>
    by_cases hends : s.send.head = some .inFlight ∨ s.send.head = some .retryWait
    · rw [(s.ringLostSends_completes e rest hqueue hends _ _ rfl rfl).2,
        (w.ringLostSends_completes e rest (h.queue.trans hqueue) (by rwa [h.head]) _ _ rfl rfl).2, h.send]
      rfl
    · push Not at hends
      rw [(s.ringLostSends_kept hends.1 hends.2).2,
        (w.ringLostSends_kept (by rw [h.head]; exact hends.1) (by rw [h.head]; exact hends.2)).2]

/-- The send unit with a head that has not been inserted, or none. -/
theorem State.LeftFrom.kept (hflight : s.send.head ≠ some .inFlight) (hretry : s.send.head ≠ some .retryWait) :
    w.ringLostSends.send = { s.send with
      context := .closed, returnTimer := none, gapTimer := none
      staging := s.send.staging ++ s.send.incoming, incoming := [] } ∧ w.ringLostSends.bus = s.bus := by
  rw [(w.ringLostSends_kept (by rwa [h.head]) (by rwa [h.head])).1]
  unfold State.returnClosed
  rw [h.send]
  exact ⟨rfl, h.bus⟩

/-- The send unit whose head's attempt is lost with the ring. -/
theorem State.LeftFrom.completes (e : SendEntry) (rest : List SendEntry) (hqueue : s.send.queue = e :: rest)
    (hends : s.send.head = some .inFlight ∨ s.send.head = some .retryWait) (accept held : BitVec 5)
    (haccept : accept = if s.send.head = some .inFlight then 0 else s.send.accept)
    (hheld : held = if s.send.head = some .inFlight then 0 else s.send.held) :
    w.ringLostSends.send = (s.headLost rest accept held).adoptHead.send ∧
      w.ringLostSends.bus = (s.headLost rest accept held).adoptHead.bus := by
  have haccept' : accept = if w.send.head = some .inFlight then 0 else w.send.accept := by
    rw [haccept, h.send]; rfl
  have hheld' : held = if w.send.head = some .inFlight then 0 else w.send.held := by
    rw [hheld, h.send]; rfl
  rw [(w.ringLostSends_completes e rest (h.queue.trans hqueue) (by rwa [h.head]) accept held haccept' hheld').1]
  refine State.adoptHead_congr _ _ ?_ h.bus h.now
  unfold State.headLost
  rw [h.send]
  rfl

/-- What the notice leaves: the blocks of the state that has left active mode, but for the send unit, the trigger unit, the
bus and the events. -/
theorem State.LeftFrom.ringLeft (cause : StateCause) (event : Event) (hentry : w.entryEvents (some cause) = [event]) :
    ∃ send bus events trigger, w.ringLeft true (some cause) =
      { w with send := send, bus := bus, events := events, trigger := trigger } ∧
      send = w.ringLostSends.send ∧ bus = w.ringLostSends.bus ∧ trigger = s.dropTrigger.trigger ∧
      events = (s.postAll (takeTurns s.order s.send.ringLostEvents (s.trigger.abandonEvents .ringLost) [event])).events := by
  obtain ⟨events, e, hevents⟩ := w.ringLeft_onRing cause
  obtain ⟨send, bus, hsends⟩ := w.ringLostSends_frame
  obtain ⟨trigger, htrigger⟩ := w.ringLostSends.dropTrigger_frame
  have hdropped : w.ringLostSends.dropTrigger.trigger = s.dropTrigger.trigger :=
    State.dropTrigger_congr _ _ (by rw [hsends]; exact h.trigger)
  refine ⟨send, bus, events, trigger, by rw [e, htrigger, hsends], by rw [hsends], by rw [hsends],
    by rw [← hdropped, htrigger], ?_⟩
  rw [hevents, hentry, h.order, h.ringLostEvents, h.trigger]
  exact State.postAll_events _ _ _ h.events

end LeftFrom

/-! ### The two ways off the ring -/

section OnRing
variable (s : State) (hring : s.onRing = true)
include hring

/-- The state of a census entry from the ring before the start of an attempt and the notice (R29). -/
def State.censusLeft (s : State) : State :=
  { s with
    path := { s.path with phase := .clear, bypass := [], insertion := none }
    send := s.leftSend
    filter := { s.filter with duplicates := Vector.replicate 30 none, context := none }
    delivery := s.discarded
    member := { s.member with station := .census, attempts := 0, roster := Vector.replicate 30 none, number := none,
                              provisional := none, announce := .none, depart := .none, departTimer := none,
                              isolationTimer := none }
    counters := { s.counters with censusEntries := saturatingInc s.counters.censusEntries } }

theorem State.openCensus_onRing : s.openCensus = s.censusLeft := by
  have hdiscards : s.toCensusMode.filterDiscard =
      { s.leaveMode.filterDiscard with path := { s.leaveMode.filterDiscard.path with bypass := [] } } := by
    have hdiscarded : s.toCensusMode.discarded = s.leaveMode.discarded := State.discarded_congr _ _ rfl rfl
    rw [State.filterDiscard_eq, State.filterDiscard_eq s.leaveMode, hdiscarded]
    rfl
  unfold State.openCensus
  rw [if_pos hring]
  dsimp only
  rw [hdiscards, s.leaveMode_discards]
  rfl

/-- The state of a census entry from the ring at the notice (R30, R31, R44). -/
def State.censusStarted (s : State) : State :=
  if s.member.station = .leaving then
    { s.censusLeft with member := { s.censusLeft.member with
        leavePending := true, sub := some .deferred, claimBegun := false, numberSent := none
        censusTimer := some (s.now + 200000) } }
  else s.censusLeft.startAttempt

theorem State.enterCensus_onRing (cause : StateCause) : s.enterCensus cause = s.censusStarted.ringLeft true (some cause) := by
  unfold State.enterCensus State.censusEntryLeaving State.censusEntry State.censusStarted
  rw [s.openCensus_onRing hring, hring]
  split <;> rfl

/-- The state of a change to BARRED from the ring at the notice (R43). -/
def State.barredLeft (s : State) : State :=
  { s with
    path := { s.path with phase := .clear, insertion := none, ownCensus := none }
    send := s.leftSend
    filter := { s.filter with duplicates := Vector.replicate 30 none, context := none }
    delivery := s.discarded
    member := { s.member with
      station := .barred, sub := none, censusTimer := none, departTimer := none, isolationTimer := none
      announce := s.member.announce.withdraw, depart := s.member.depart.withdraw, leavePending := false
      provisional := none, number := none } }

theorem State.enterBarred_onRing : s.enterBarred = s.barredLeft.ringLeft true (some .markClash) := by
  unfold State.enterBarred
  rw [hring, if_pos rfl, s.leaveMode_discards]
  rfl

end OnRing

theorem State.censusStarted_leftFrom (s : State) : s.censusStarted.LeftFrom s := by
  unfold State.censusStarted
  split <;> exact ⟨rfl, rfl, rfl, rfl, rfl, rfl, rfl, rfl, rfl, rfl, rfl, rfl, rfl⟩

theorem State.barredLeft_leftFrom (s : State) : s.barredLeft.LeftFrom s :=
  ⟨rfl, rfl, rfl, rfl, rfl, rfl, rfl, rfl, rfl, rfl, rfl, rfl, rfl⟩

theorem State.censusStarted_entryEvents (s : State) (cause : StateCause) : s.censusStarted.entryEvents (some cause) =
    [.stateChange .census cause s.member.ringSize 0 s.member.epoch] := by
  unfold State.censusStarted
  split <;> rfl

theorem OwnState.withdraw_eq (a : OwnState) : a.withdraw = if a = .waiting then .none else a := by
  cases a <;> rfl

/-- The change to BARRED of a station that is not on the ring (R43). -/
theorem State.enterBarred_offRing (s : State) (hring : s.onRing = false) : s.enterBarred = State.post
    { s with
      path := { s.path with ownCensus := none }
      member := { s.member with
        station := .barred, sub := none, censusTimer := none, departTimer := none, isolationTimer := none
        announce := s.member.announce.withdraw, depart := s.member.depart.withdraw, leavePending := false
        provisional := none, number := none } }
    (.stateChange .barred .markClash s.member.ringSize 0 s.member.epoch) := by
  unfold State.enterBarred
  rw [hring, if_neg Bool.false_ne_true]
  rfl

/-- Settles O36. -/
theorem ringIsLeftWhole : Obligations.RingIsLeftWhole := by
  refine ⟨?whole, ?census, ?barred⟩
  case whole =>
    intro s u hring hu
    have hcensus (cause : StateCause) := s.censusStarted_leftFrom.ringLeft cause _ (s.censusStarted_entryEvents cause)
    have hbarred := s.barredLeft_leftFrom.ringLeft .markClash
      (.stateChange .barred .markClash s.member.ringSize 0 s.member.epoch) rfl
    obtain ⟨w, hw, send, bus, events, trigger, rfl, rfl, rfl, rfl⟩ : ∃ w : State, w.LeftFrom s ∧ ∃ send bus events trigger,
        u = { w with send := send, bus := bus, events := events, trigger := trigger } ∧
        send = w.ringLostSends.send ∧ bus = w.ringLostSends.bus ∧ trigger = s.dropTrigger.trigger := by
      rcases hu with ⟨cause, rfl⟩ | rfl
      · obtain ⟨send, bus, events, trigger, e, hsend, hbus, htrigger, -⟩ := hcensus cause
        exact ⟨_, s.censusStarted_leftFrom, send, bus, events, trigger,
          by rw [s.enterCensus_onRing hring cause]; exact e, hsend, hbus, htrigger⟩
      · obtain ⟨send, bus, events, trigger, e, hsend, hbus, htrigger, -⟩ := hbarred
        exact ⟨_, s.barredLeft_leftFrom, send, bus, events, trigger,
          by rw [s.enterBarred_onRing hring]; exact e, hsend, hbus, htrigger⟩
    refine ⟨s.send.ringLostEvents, s.trigger.abandonEvents .ringLost, fun cause hu => ?_, fun hu => ?_, fun hown => ?_,
      fun g hown hg => ?_, fun hflight hretry => ⟨(s.ringLostSends_kept hflight hretry).2, hw.kept hflight hretry⟩,
      fun e rest hqueue hends => ⟨_, _, s.headLost rest _ _, rfl, rfl,
        (s.ringLostSends_completes e rest hqueue hends _ _ rfl rfl).2, rfl,
        hw.completes e rest hqueue hends _ _ rfl rfl⟩,
      hw.filter, ?_, fun c older e hc hverdict hstore hfilling => ?_, fun hc => ?_,
      hw.resetPin, hw.receiver, hw.host, hw.outside, hw.now, hw.pending⟩
    · obtain ⟨_, _, events', _, e, -, -, -, hevents⟩ := hcensus cause
      rw [hu, s.enterCensus_onRing hring cause, e]
      exact hevents
    · obtain ⟨_, _, events', _, e, -, -, -, hevents⟩ := hbarred
      rw [hu, s.enterBarred_onRing hring, e]
      exact hevents
    · obtain ⟨hdrop, hnone⟩ := s.dropTrigger_none .ringLost hown
      exact ⟨hnone, by show s.dropTrigger.trigger = _; rw [hdrop]⟩
    · obtain ⟨hdrop, hdone⟩ := s.dropTrigger_pending .ringLost g hown hg
      exact ⟨hdone, by show s.dropTrigger.trigger = _; rw [hdrop]⟩
    · show w.delivery.engine = _
      rw [hw.delivery, s.discarded_engine]
    · exact hw.delivery.trans (s.discarded_reserved c older e hc hverdict hstore hfilling)
    · exact hw.delivery.trans (s.discarded_unreserved hc)
  case census =>
    rintro s u cause hring rfl
    obtain ⟨send, bus, events, trigger, e, -⟩ :=
      s.censusStarted_leftFrom.ringLeft cause _ (s.censusStarted_entryEvents cause)
    rw [s.enterCensus_onRing hring cause, e]
    unfold State.censusStarted
    refine ⟨fun hrun => ?_, fun hleaving => ?_, ?_⟩
    · rw [if_neg (by simp [hrun])]; exact ⟨rfl, rfl⟩
    · rw [if_pos hleaving]; exact ⟨rfl, rfl⟩
    · split <;> rfl
  case barred =>
    rintro s u rfl
    rw [← OwnState.withdraw_eq, ← OwnState.withdraw_eq]
    cases hring : s.onRing with
    | true =>
      obtain ⟨send, bus, events, trigger, e, -⟩ := s.barredLeft_leftFrom.ringLeft .markClash
        (.stateChange .barred .markClash s.member.ringSize 0 s.member.epoch) rfl
      rw [s.enterBarred_onRing hring, e]
      exact ⟨rfl, rfl, rfl, rfl, rfl, fun h => by cases h⟩
    | false =>
      rw [s.enterBarred_offRing hring]
      exact ⟨rfl, rfl, rfl, rfl, rfl, fun _ => ⟨rfl, rfl, rfl, rfl, rfl, rfl⟩⟩

end Sys2Proof.Machine
end

section
/-! PROOF. What every command does to the queue of commands, the bypass buffer, the event queue and the collector: an arriving
frame adds at most one frame to the bypass buffer, no operation touches the waiting commands (O4), and the event queue and
the collector keep their guarantees (O55). -/

namespace Sys2Proof.Machine

/-- From `s` to `t` the waiting commands stay, at most `n` frames join the bypass buffer, and the event queue and the
collector keep their guarantees. -/
structure State.Adds (n : Nat) (s t : State) : Prop where
  bypass  : t.path.bypass.length ≤ s.path.bypass.length + n
  pending : t.pending = s.pending
  events  : s.events.Sound → t.events.Sound
  host    : s.host.Sound = true → t.host.Sound = true

namespace State.Adds
variable {s t u : State} {n m : Nat}

theorem refl (s : State) : s.Adds 0 s := ⟨Nat.le_refl _, rfl, id, id⟩

theorem trans (h : s.Adds n t) (k : t.Adds m u) : s.Adds (n + m) u :=
  ⟨by have := h.bypass; have := k.bypass; omega, k.pending.trans h.pending, k.events ∘ h.events, k.host ∘ h.host⟩

/-- A step that adds no frame, then one that adds some. -/
theorem andThen (h : s.Adds 0 t) (k : t.Adds n u) : s.Adds n u := by simpa using h.trans k

/-- The same, from the end: what came before the last step added no frame. -/
theorem after (k : t.Adds n u) (h : s.Adds 0 t) : s.Adds n u := h.andThen k

/-- A last step that touches neither. -/
theorem same (h : s.Adds n t) (hb : u.path.bypass = t.path.bypass) (hp : u.pending = t.pending)
    (he : u.events = t.events) (hh : u.host = t.host) : s.Adds n u :=
  ⟨by rw [hb]; exact h.bypass, hp.trans h.pending, by rw [he]; exact h.events, by rw [hh]; exact h.host⟩

/-- A first step that touches neither. -/
theorem pre (h : t.Adds n u) (hb : t.path.bypass = s.path.bypass) (hp : t.pending = s.pending)
    (he : t.events = s.events) (hh : t.host = s.host) : s.Adds n u :=
  ⟨by rw [← hb]; exact h.bypass, h.pending.trans hp, by rw [← he]; exact h.events, by rw [← hh]; exact h.host⟩

theorem mono (h : s.Adds 0 t) (n : Nat) : s.Adds n t := ⟨h.bypass.trans (Nat.le_add_right _ n), h.pending, h.events, h.host⟩

end State.Adds

/-! ### Posting (R167 to R170) -/

/-- The length of a record lies between 2 and 32 words (R168). -/
def Event.Fits (e : Event) : Prop := 2 ≤ e.length ∧ e.length ≤ 32

/-- REPORT, the one record whose length its fields do not fix. -/
def Event.isReport : Event → Bool
  | .report _ _ => true
  | _ => false

theorem Event.fits_of_no_report (e : Event) (h : e.isReport = false) : e.Fits := by
  cases e with
  | report subject contents => exact absurd h (by simp [Event.isReport])
  | _ => exact ⟨by simp [Event.length, Event.fields, slotWords], by simp [Event.length, Event.fields, slotWords]⟩

theorem fits_report (subject : Subject) (s : State) : (Event.report subject (reportContents subject s)).Fits := by
  unfold Event.Fits
  rw [length_report]
  cases subject <;> decide

theorem EventQueue.sound_post (q : EventQueue) (e : Event) (he : e.Fits) (h : q.Sound) : (q.post e).Sound := by
  obtain ⟨hused, hcurrent, hwhole⟩ := h
  by_cases hroom : e.length ≤ q.free
  · have hfree : q.free = 128 - q.used := rfl
    refine ⟨by rw [q.post_entered_used e hroom]; omega, by rw [q.post_entered e hroom]; exact hcurrent, ?_⟩
    rw [q.post_entered e hroom]
    intro r hr
    rcases List.mem_append.mp hr with hr | hr
    · exact hwhole r hr
    · rw [List.mem_singleton.mp hr]; exact he
  · rw [q.post_dropped e (Nat.lt_of_not_le hroom)]
    exact ⟨hused, hcurrent, hwhole⟩

theorem EventQueue.sound_afterRead (q : EventQueue) (h : q.Sound) : q.afterRead.Sound := by
  obtain ⟨current, whole, lost, enable⟩ := q
  obtain ⟨hused, hcurrent, hwhole⟩ := h
  unfold EventQueue.used at hused
  cases current with
  | cons w rest =>
    refine ⟨?_, (Nat.le_succ _).trans hcurrent, hwhole⟩
    exact (Nat.add_le_add_right (Nat.le_succ _) _).trans hused
  | nil =>
    cases whole with
    | nil => exact ⟨hused, hcurrent, hwhole⟩
    | cons r rest =>
      have hlength := (hwhole r (List.mem_cons_self ..)).2
      have hfields : r.event.length = r.event.fields.length + 1 := rfl
      simp only [List.map_cons, List.sum_cons, List.length_nil] at hused
      refine ⟨?_, ?_, fun r' hr' => hwhole r' (List.mem_cons_of_mem _ hr')⟩
      · show r.event.fields.length + (rest.map (fun r => r.event.length)).sum ≤ 128
        omega
      · show r.event.fields.length ≤ 31
        omega

/-- Every record of a list fits. -/
def AllFit (es : List Event) : Prop := ∀ e ∈ es, e.Fits

theorem AllFit.nil : AllFit [] := fun _ h => by cases h

theorem AllFit.cons {e : Event} {es : List Event} (he : e.Fits) (h : AllFit es) : AllFit (e :: es) := fun x hx => by
  rcases List.mem_cons.mp hx with rfl | hx
  · exact he
  · exact h x hx

theorem AllFit.append {es fs : List Event} (h : AllFit es) (k : AllFit fs) : AllFit (es ++ fs) := fun x hx => by
  rcases List.mem_append.mp hx with hx | hx
  · exact h x hx
  · exact k x hx

theorem AllFit.takeTurns {send trigger member : List Event} (hsend : AllFit send) (htrigger : AllFit trigger)
    (hmember : AllFit member) (turns : List Poster) : AllFit (takeTurns turns send trigger member) := fun x hx =>
  ((hsend.append htrigger).append hmember) x ((takeTurns_interleaves turns send trigger member).1.mem_iff.mp hx)

theorem fits_sent (tag : Halfword) (status : SendStatus) (attempts : Nat) (accept held : BitVec 5) :
    (Event.sent tag status attempts accept held).Fits := Event.fits_of_no_report _ rfl

theorem headSent_fits (u : SendUnit) (status : SendStatus) : AllFit (u.headSent status) := by
  unfold SendUnit.headSent
  split
  · exact .nil
  · exact .cons (fits_sent _ _ _ _ _) .nil

theorem unsentEvents_fits (status : SendStatus) (entries : List SendEntry) : AllFit (unsentEvents status entries) := by
  intro e he
  obtain ⟨x, -, rfl⟩ := List.mem_map.mp he
  exact fits_sent _ _ _ _ _

theorem leftEvents_fits (u : SendUnit) : AllFit u.leftEvents := by
  unfold SendUnit.leftEvents
  split
  · exact unsentEvents_fits _ _
  · exact (headSent_fits _ _).append (unsentEvents_fits _ _)

theorem ringLostEvents_fits (u : SendUnit) : AllFit u.ringLostEvents := by
  unfold SendUnit.ringLostEvents
  split
  · exact headSent_fits _ _
  · exact headSent_fits _ _
  · exact .nil

theorem abandonEvents_fits (u : TriggerUnit) (status : TriggerStatus) : AllFit (u.abandonEvents status) := by
  unfold TriggerUnit.abandonEvents
  split
  · exact .nil
  · exact .cons (Event.fits_of_no_report _ rfl) .nil

theorem entryEvents_fits (s : State) (cause : Option StateCause) : AllFit (s.entryEvents cause) := by
  unfold State.entryEvents
  split
  · exact .cons (Event.fits_of_no_report _ rfl) .nil
  · exact .nil

section Post
variable (s : State)

theorem State.Adds.post (e : Event) (he : e.Fits) : s.Adds 0 (s.post e) :=
  ⟨Nat.le_refl _, rfl, s.events.sound_post e he, id⟩

/-- The posting of any record but a report. -/
theorem State.Adds.postPlain (e : Event) (h : e.isReport = false) :
    s.Adds 0 (s.post e) := .post s e (e.fits_of_no_report h)

theorem State.Adds.postAll (es : List Event) (h : AllFit es) : s.Adds 0 (s.postAll es) := by
  induction es generalizing s with
  | nil => exact .refl s
  | cons e es ih =>
    exact (State.Adds.post s e (h e (List.mem_cons_self ..))).andThen (ih (s.post e) fun x hx => h x (List.mem_cons_of_mem _ hx))

end Post

/-! ### The send unit -/

section Sends
variable (s : State)

theorem State.Adds.nextHead : s.Adds 0 s.nextHead := by
  obtain ⟨_, _, e⟩ := s.nextHead_frame
  rw [e]; exact ⟨Nat.le_refl _, rfl, id, id⟩

theorem State.Adds.completeHead (status : SendStatus) : s.Adds 0 (s.completeHead status) :=
  (State.Adds.nextHead s).andThen (.postAll _ _ (headSent_fits _ _))

theorem State.Adds.contextToStale : s.Adds 0 s.contextToStale := by
  obtain ⟨_, _, e⟩ := s.contextToStale_frame
  rw [e]; exact ⟨Nat.le_refl _, rfl, id, id⟩

theorem State.Adds.afterOutcome (status : SendStatus) : s.Adds 0 (s.afterOutcome status) := by
  unfold State.afterOutcome
  split
  · exact .completeHead s _
  · split
    · exact .completeHead s _
    · split
      · exact ⟨Nat.le_refl _, rfl, id, id⟩
      · exact .completeHead s _

theorem State.Adds.endWith (status : SendStatus) (accept held : BitVec 5) : s.Adds 0 (s.endWith status accept held) := by
  unfold State.endWith
  split
  · exact .pre (.afterOutcome _ _) rfl rfl rfl rfl
  · exact .refl s

theorem State.Adds.returnTruncated : s.Adds 0 s.returnTruncated := by
  unfold State.returnTruncated
  split
  · exact .pre (.endWith _ _ _ _) rfl rfl rfl rfl
  · exact ⟨Nat.le_refl _, rfl, id, id⟩
  · exact .refl s
  · exact .refl s

theorem State.Adds.ownTail (b : TailBody) : s.Adds 0 (s.ownTail b) := by
  unfold State.ownTail
  dsimp only
  split
  · exact .pre (.endWith _ _ _ _) rfl rfl rfl rfl
  · exact .pre (.endWith _ _ _ _) rfl rfl rfl rfl
  · exact .pre (.endWith _ _ _ _) rfl rfl rfl rfl
  · exact .pre (.endWith _ _ _ _) rfl rfl rfl rfl
  all_goals exact ⟨Nat.le_refl _, rfl, id, id⟩

theorem State.Adds.attemptLost : s.Adds 0 s.attemptLost := by
  unfold State.attemptLost
  split
  · exact (State.Adds.contextToStale s).andThen (.endWith _ _ _ _)
  · exact ⟨Nat.le_refl _, rfl, id, id⟩

theorem State.Adds.leaveSends : s.Adds 0 s.leaveSends := by
  have hempty : s.Adds 0 s.emptySends := by
    obtain ⟨_, _, _, e⟩ := s.emptySends_frame
    rw [e]; exact ⟨Nat.le_refl _, rfl, id, id⟩
  exact hempty.andThen (.postAll _ _ (leftEvents_fits _))

theorem State.Adds.cancelSends (tag : Halfword) : s.Adds 0 (s.cancelSends tag) := by
  have hgone (entries : List SendEntry) := unsentEvents_fits .cancelled entries
  unfold State.cancelSends
  split
  · exact .refl s
  · dsimp only
    split
    · split
      · refine State.Adds.andThen ?_ (.postAll _ _ ((headSent_fits _ _).append (hgone _)))
        exact .pre (.nextHead _) rfl rfl rfl rfl
      · exact .pre (.postAll _ _ (hgone _)) rfl rfl rfl rfl
    · exact .pre (.postAll _ _ (hgone _)) rfl rfl rfl rfl

theorem State.Adds.fetchCompleted : s.Adds 0 s.fetchCompleted := by
  unfold State.fetchCompleted
  split
  · exact ⟨Nat.le_refl _, rfl, id, id⟩
  · exact .completeHead s _
  · exact .completeHead s _

theorem State.Adds.fetchFailed : s.Adds 0 s.fetchFailed := by
  unfold State.fetchFailed
  split <;> exact .completeHead s _

end Sends

/-! ### The trigger unit -/

section Triggers
variable (s : State)

theorem State.Adds.finishTrigger (status : TriggerStatus) : s.Adds 0 (s.finishTrigger status) :=
  .pre (.postPlain _ _ rfl) rfl rfl rfl rfl

theorem State.Adds.fire (group : BitVec 3) (source : BitVec 5) : s.Adds 0 (s.fire group source) :=
  .pre (.postPlain _ _ rfl) rfl rfl rfl rfl

theorem State.Adds.requestFire (group : BitVec 3) (source : BitVec 5) (delay : Time) :
    s.Adds 0 (s.requestFire group source delay) := by
  unfold State.requestFire
  split
  · split
    · exact .fire s _ _
    · exact ⟨Nat.le_refl _, rfl, id, id⟩
  · exact .postPlain s _ rfl

theorem State.Adds.ownTriggerFrame (b : TriggerBody) : s.Adds 0 (s.ownTriggerFrame b) := by
  unfold State.ownTriggerFrame
  split
  · dsimp only
    split
    · exact (State.Adds.finishTrigger s _).andThen (.requestFire _ _ _ _)
    · exact .finishTrigger s _
  · exact ⟨Nat.le_refl _, rfl, id, id⟩

theorem State.Adds.otherTrigger (b : TriggerBody) : s.Adds 0 (s.otherTrigger b) := by
  unfold State.otherTrigger
  split
  · exact .requestFire s _ _ _
  · exact .refl s

theorem State.Adds.dropTrigger : s.Adds 0 s.dropTrigger := by
  obtain ⟨_, e⟩ := s.dropTrigger_frame
  rw [e]; exact ⟨Nat.le_refl _, rfl, id, id⟩

end Triggers

/-! ### The delivery engine and the loader -/

section Engine
variable (s : State)

theorem State.Adds.beginDelivery : s.Adds 0 s.beginDelivery := by
  obtain ⟨_, _, e⟩ := s.beginDelivery_frame
  rw [e]; exact ⟨Nat.le_refl _, rfl, id, id⟩

theorem State.Adds.requestPhase (phase : Phase) (ring : BitVec 2) (slot : Nat) (length : BitVec 7) :
    s.Adds 0 (s.requestPhase phase ring slot length) := by
  obtain ⟨_, e⟩ := s.requestPhase_frame phase ring slot length
  rw [e]; exact ⟨Nat.le_refl _, rfl, id, id⟩

theorem State.Adds.completeDelivery : s.Adds 0 s.completeDelivery := by
  unfold State.completeDelivery
  split
  · dsimp only
    refine .after (.beginDelivery _) ?_
    exact .pre (.postPlain _ _ rfl) rfl rfl rfl rfl
  · exact .refl s

theorem State.Adds.skipDelivery : s.Adds 0 s.skipDelivery := by
  unfold State.skipDelivery
  split
  · dsimp only
    refine .after (.beginDelivery _) ?_
    exact .pre (.postPlain _ _ rfl) rfl rfl rfl rfl
  · exact .refl s

theorem State.Adds.deliveryRequestCompleted : s.Adds 0 s.deliveryRequestCompleted := by
  unfold State.deliveryRequestCompleted
  split
  · exact .pre (.requestPhase _ _ _ _ _) rfl rfl rfl rfl
  · exact .pre (.requestPhase _ _ _ _ _) rfl rfl rfl rfl
  · exact .completeDelivery s
  · exact .refl s

theorem State.Adds.failDelivery (cause : BusCause) (address : Word) : s.Adds 0 (s.failDelivery cause address) := by
  unfold State.failDelivery
  split
  · exact .pre (.postPlain _ _ rfl) rfl rfl rfl rfl
  · exact .refl s

/-- The end of a load touches neither the collector nor COMMAND STATUS. -/
theorem State.Adds.endLoad : s.Adds 0 { s with host := s.host.endLoad } := ⟨Nat.le_refl _, rfl, id, id⟩

theorem State.Adds.loadCompleted : s.Adds 0 s.loadCompleted := by
  unfold State.loadCompleted
  split
  · exact (State.Adds.endLoad s).andThen (.pre (.postPlain _ _ rfl) rfl rfl rfl rfl)
  · exact (State.Adds.endLoad s).andThen (.postPlain _ _ rfl)

theorem State.Adds.requestCompleted (c : Client) : s.Adds 0 (s.requestCompleted c) := by
  cases c with
  | loader => exact .loadCompleted s
  | fetch => exact .fetchCompleted s
  | delivery => exact .deliveryRequestCompleted s

theorem State.Adds.requestFailed (c : Client) (cause : BusCause) (a : Word) : s.Adds 0 (s.requestFailed c cause a) := by
  cases c with
  | loader => exact (State.Adds.endLoad s).andThen (.postPlain { s with host := s.host.endLoad } (.configFault cause a) rfl)
  | fetch => exact .fetchFailed s
  | delivery => exact .failDelivery s _ _

theorem State.Adds.transferWord (b : Burst) (r : Request) (w : Word) : s.Adds 0 (s.transferWord b r w) := by
  unfold State.transferWord
  split
  · exact ⟨Nat.le_refl _, rfl, id, id⟩
  · obtain ⟨_, e⟩ := s.stageWord_frame w
    rw [e]; exact ⟨Nat.le_refl _, rfl, id, id⟩
  · exact ⟨Nat.le_refl _, rfl, id, id⟩

end Engine

/-! ### Operations that leave the path as it is -/

section Frames
variable (s : State)

theorem State.Adds.filterHead (b : HeadBody) : s.Adds 0 (s.filterHead b) := by
  obtain ⟨_, _, e⟩ := s.filterHead_frame b
  rw [e]; exact ⟨Nat.le_refl _, rfl, id, id⟩

theorem State.Adds.filterData (b : DataBody) : s.Adds 0 (s.filterData b) := by
  obtain ⟨_, _, e⟩ := s.filterData_frame b
  rw [e]; exact ⟨Nat.le_refl _, rfl, id, id⟩

theorem State.Adds.filterVoid : s.Adds 0 s.filterVoid := by
  obtain ⟨_, e⟩ := s.filterVoid_frame
  rw [e]; exact ⟨Nat.le_refl _, rfl, id, id⟩

theorem State.Adds.filterTail (b : TailBody) : s.Adds 0 (s.filterTail b) := by
  obtain ⟨_, _, _, _, -, e⟩ := s.filterTail_frame b
  rw [e]; exact ⟨Nat.le_refl _, rfl, id, id⟩

theorem State.Adds.ownHead (b : HeadBody) : s.Adds 0 (s.ownHead b) := by
  obtain ⟨_, _, e⟩ := s.ownHead_frame b
  rw [e]; exact ⟨Nat.le_refl _, rfl, id, id⟩

theorem State.Adds.ownData (b : DataBody) : s.Adds 0 (s.ownData b) := by
  obtain ⟨_, _, e⟩ := s.ownData_frame b
  rw [e]; exact ⟨Nat.le_refl _, rfl, id, id⟩

theorem State.Adds.ownVoid : s.Adds 0 s.ownVoid := by
  obtain ⟨_, e⟩ := s.ownVoid_frame
  rw [e]; exact ⟨Nat.le_refl _, rfl, id, id⟩

end Frames

/-! ### Operations on the path -/

section Path
variable (s : State)

theorem State.Adds.passes {t : State} (h : s.Passes t) : s.Adds 0 t :=
  ⟨h.bypass.length_le, h.pending, by rw [h.events]; exact id, by rw [h.host]; exact id⟩

theorem State.Adds.reach (t : Time) : s.Adds 0 (s.reach t) := .passes s (s.reach_passes t)

theorem State.Adds.at (o : Occasion) : s.Adds 0 (s.at o) :=
  ⟨s.at_bypass_length o, s.at_pending o, by rw [s.at_events]; exact id, by rw [s.at_host]; exact id⟩

theorem State.Adds.sendIfNext (i : Item) : s.Adds 0 (s.sendIfNext i) := by
  unfold State.sendIfNext
  split
  · exact .passes s (s.sendItem_passes i)
  · exact .refl s

theorem State.Adds.sendCensusIf (kind : Frame → Bool) : s.Adds 0 (s.sendCensusIf kind) := by
  unfold State.sendCensusIf
  split
  · exact .sendIfNext s _
  · exact .refl s

theorem State.Adds.forward (f : Frame) : s.Adds 1 (s.forward f) := by
  have hlength := s.forward_bypass_length f
  obtain ⟨_, _, e⟩ := s.forward_frame f
  rw [e] at hlength ⊢
  exact ⟨hlength, rfl, id, id⟩

theorem State.Adds.cutThrough (f : Frame) : s.Adds 0 (s.cutThrough f) := by
  have hbypass := s.cutThrough_bypass f
  obtain ⟨_, _, e⟩ := s.cutThrough_frame f
  rw [e] at hbypass ⊢
  exact ⟨(congrArg List.length hbypass).le, rfl, id, id⟩

theorem State.Adds.overtake (f : Frame) : s.Adds 0 (s.overtake f) := by
  have hbypass := s.overtake_bypass f
  obtain ⟨_, _, _, _, _, _, e, -⟩ := s.overtake_frame f
  rw [e] at hbypass ⊢
  exact ⟨(congrArg List.length hbypass).le, rfl, id, id⟩

theorem State.Adds.truncate : s.Adds 0 s.truncate := by
  unfold State.truncate
  dsimp only
  split
  · obtain ⟨_, _, _, -, e⟩ := State.filterTruncated_frame { s with path := { s.path with phase := .clear } }
    rw [e]; exact ⟨Nat.le_refl _, rfl, id, id⟩
  · exact .pre (.returnTruncated _) rfl rfl rfl rfl
  all_goals exact ⟨Nat.le_refl _, rfl, id, id⟩

theorem State.Adds.ringLeft (onRing : Bool) (cause : Option StateCause) : s.Adds 0 (s.ringLeft onRing cause) := by
  have hsends : s.Adds 0 s.ringLostSends := by
    obtain ⟨_, _, e⟩ := s.ringLostSends_frame
    rw [e]; exact ⟨Nat.le_refl _, rfl, id, id⟩
  unfold State.ringLeft
  split
  · exact (hsends.andThen (.dropTrigger _)).andThen
      (.postAll _ _ (.takeTurns (ringLostEvents_fits _) (abandonEvents_fits _ _) (entryEvents_fits _ _) _))
  · exact .postAll s _ (entryEvents_fits _ _)

theorem State.Adds.openCensus : s.Adds 0 s.openCensus := by
  have hbypass := s.openCensus_bypass
  obtain ⟨_, _, _, _, _, _, -, -, e⟩ := s.openCensus_frame
  rw [e] at hbypass ⊢
  exact ⟨by rw [hbypass]; exact Nat.zero_le _, rfl, id, id⟩

theorem State.Adds.censusEntry (cause : Option StateCause) : s.Adds 0 (s.censusEntry cause) :=
  (State.Adds.openCensus s).andThen (.pre (.ringLeft s.openCensus.startAttempt _ _) rfl rfl rfl rfl)

theorem State.Adds.enterCensus (cause : StateCause) : s.Adds 0 (s.enterCensus cause) := by
  unfold State.enterCensus State.censusEntryLeaving
  split
  · exact (State.Adds.openCensus s).andThen (.pre (.ringLeft _ _ _) rfl rfl rfl rfl)
  · exact .censusEntry s _

theorem State.Adds.enterBarred : s.Adds 0 s.enterBarred := by
  have hleft : s.Adds 0 ((s.leaveMode.filterDiscard).clearDuplicates) := by
    obtain ⟨_, _, _, emode⟩ := s.leaveMode_frame
    obtain ⟨_, _, -, e⟩ := s.leaveMode.filterDiscard_frame
    rw [e, emode]; exact ⟨Nat.le_refl _, rfl, id, id⟩
  unfold State.enterBarred
  dsimp only
  split
  · exact hleft.andThen (.pre (.ringLeft _ _ _) rfl rfl rfl rfl)
  · exact .pre (.ringLeft _ _ _) rfl rfl rfl rfl

theorem State.Adds.leaveRing : s.Adds 0 s.leaveRing := by
  obtain ⟨_, _, _, e⟩ := s.inputEnded_frame
  rw [s.leaveRing_eq, e]
  exact .pre (.postPlain _ _ rfl) rfl rfl rfl rfl

end Path

/-! ### Arriving frames -/

section Arrivals
variable (s : State)

theorem State.Adds.substituteVoid : s.Adds 1 s.substituteVoid := by
  have hcount : s.Adds 0 s.countVoided := ⟨Nat.le_refl _, rfl, id, id⟩
  cases h : s.path.phase with
  | clear => rw [s.substituteVoid_clear h]; exact hcount.andThen (.forward _ _)
  | forwarding => rw [s.substituteVoid_forwarding h]; exact (hcount.andThen (.filterVoid _)).andThen (.forward _ _)
  | returning => rw [s.substituteVoid_returning h]; exact (hcount.andThen (.ownVoid _)).mono 1
  | orphan => rw [s.substituteVoid_orphan h]; exact hcount.mono 1

theorem State.Adds.badFrame (f : Frame) : s.Adds 1 (s.badFrame f) := by
  unfold State.badFrame
  split
  · exact .forward s f
  · exact (State.Adds.refl s).mono 1
  · exact .substituteVoid s

theorem State.Adds.byMode (f : Frame) (act : State → State) (hact : s.Adds 1 (act s)) : s.Adds 1 (s.byMode f act) := by
  unfold State.byMode
  split
  · exact .badFrame s f
  · split
    · exact .forward s f
    · exact (State.Adds.refl s).mono 1
    · exact hact

theorem State.Adds.activeHead (b : HeadBody) : s.Adds 1 (s.activeHead b) := by
  refine (State.Adds.truncate s).andThen ?_
  unfold State.activeHead
  dsimp only
  split
  · refine State.Adds.mono ?_ 1
    exact .same (.ownHead _ b) rfl rfl rfl rfl
  · split
    · exact ⟨Nat.le_succ _, rfl, id, id⟩
    · exact .after (.forward _ _) (.same (.filterHead _ b) rfl rfl rfl rfl)

theorem State.Adds.activeData (b : DataBody) : s.Adds 1 (s.activeData b) := by
  unfold State.activeData
  split
  · exact (State.Adds.ownData s b).mono 1
  · split
    · exact (State.Adds.filterData s b).andThen (.forward _ _)
    · exact (State.Adds.refl s).mono 1
    · exact ⟨Nat.le_succ _, rfl, id, id⟩
    · exact ⟨Nat.le_succ _, rfl, id, id⟩

theorem State.Adds.activeTail (b : TailBody) : s.Adds 1 (s.activeTail b) := by
  unfold State.activeTail
  split
  · refine State.Adds.mono ?_ 1
    exact .same (.ownTail s b) rfl rfl rfl rfl
  · split
    · exact .after (.forward _ _) (.same (.filterTail s b) rfl rfl rfl rfl)
    · exact ⟨Nat.le_succ _, rfl, id, id⟩
    · exact ⟨Nat.le_succ _, rfl, id, id⟩
    · exact ⟨Nat.le_succ _, rfl, id, id⟩

theorem State.Adds.activeTrigger (b : TriggerBody) : s.Adds 1 (s.activeTrigger b) := by
  unfold State.activeTrigger
  split
  · exact (State.Adds.ownTriggerFrame s b).mono 1
  · split
    · exact ⟨Nat.le_succ _, rfl, id, id⟩
    · exact ((State.Adds.otherTrigger s b).andThen (.overtake _ _)).mono 1

theorem State.Adds.voidReturned : s.Adds 0 s.voidReturned := by
  obtain ⟨_, e⟩ := s.voidReturned_frame
  rw [e]; exact ⟨Nat.le_refl _, rfl, id, id⟩

theorem State.Adds.activeVoid (b : VoidBody) : s.Adds 1 (s.activeVoid b) := by
  rw [s.activeVoid_eq b]
  refine (State.Adds.voidReturned s).andThen ?_
  split
  · exact (State.Adds.refl _).mono 1
  · split
    · exact ⟨Nat.le_succ _, rfl, id, id⟩
    · split
      · exact (State.Adds.filterVoid _).andThen (.forward _ _)
      · exact .forward _ _

theorem State.Adds.barredForward (f : Frame) : s.Adds 1 (s.enterBarred.forward f) :=
  (State.Adds.enterBarred s).andThen (.forward _ f)

theorem State.Adds.activeAnnounce (b : AnnounceBody) : s.Adds 1 (s.activeAnnounce b) := by
  refine (State.Adds.truncate s).andThen ?_
  unfold State.activeAnnounce State.ownAnnounce State.otherAnnounce
  dsimp only
  split
  · split
    · exact ⟨Nat.le_succ _, rfl, id, id⟩
    · split
      · exact .barredForward _ _
      · exact (State.Adds.enterCensus _ _).mono 1
  · split
    · exact ⟨Nat.le_succ _, rfl, id, id⟩
    · split
      · exact .barredForward _ _
      · split
        · exact (State.Adds.enterCensus _ _).mono 1
        · split
          · exact (State.Adds.enterCensus _ _).mono 1
          · split
            · exact (State.Adds.enterCensus _ _).mono 1
            · exact .pre (.forward _ _) rfl rfl rfl rfl

theorem State.Adds.activeDepart (b : DepartBody) : s.Adds 1 (s.activeDepart b) := by
  refine .after (.mono ?_ 1) (.truncate s)
  unfold State.activeDepart State.ownDepart
  dsimp only
  split
  · split
    · exact .leaveRing _
    · exact .enterCensus _ _
  · split
    · exact ⟨Nat.le_refl _, rfl, id, id⟩
    · exact .enterCensus _ _

end Arrivals

/-! ### Census frames -/

section Census
variable (s : State)

theorem State.Adds.clashForward (f : Frame) : s.Adds 1 (s.markClash.forward f) :=
  (State.Adds.andThen (⟨Nat.le_refl _, rfl, id, id⟩ : s.Adds 0 { s with member := { s.member with numberSent := none } })
    (.enterBarred _)).andThen (.forward _ f)

theorem State.Adds.judgeElection (b : ClaimBody) : s.Adds 1 (s.judgeElection b) := by
  unfold State.judgeElection
  split
  · refine State.Adds.mono ?_ 1
    exact .pre (.cutThrough _ _) rfl rfl rfl rfl
  · split
    · exact (State.Adds.refl s).mono 1
    · split
      · exact ⟨Nat.le_succ _, rfl, id, id⟩
      · exact .clashForward s _

theorem State.Adds.startAttempt : s.Adds 0 s.startAttempt := ⟨Nat.le_refl _, rfl, id, id⟩

theorem State.Adds.censusClaim (b : ClaimBody) : s.Adds 1 (s.censusClaim b) := by
  unfold State.censusClaim
  split
  · exact (State.Adds.cutThrough s _).mono 1
  · split
    · exact .judgeElection s b
    · exact .judgeElection s b
    · exact (State.Adds.startAttempt s).andThen (.judgeElection _ b)
    · split
      · exact .clashForward s _
      · exact (State.Adds.startAttempt s).andThen (.judgeElection _ b)
    · split
      · exact .clashForward s _
      · exact (State.Adds.startAttempt s).andThen (.judgeElection _ b)
    · exact (State.Adds.refl s).mono 1

theorem State.Adds.numberReturned (b : NumberBody) (sent : Time) : s.Adds 0 (s.numberReturned b sent) := by
  unfold State.numberReturned
  split <;> exact ⟨Nat.le_refl _, rfl, id, id⟩

theorem State.Adds.censusNumber (b : NumberBody) : s.Adds 0 (s.censusNumber b) := by
  have htaken (m : Membership) (f : Frame) : s.Adds 0 (State.cutThrough { s.withdrawCensusFrame with member := m } f) :=
    State.Adds.pre (.cutThrough _ f) rfl rfl rfl rfl
  unfold State.censusNumber
  split
  · exact .cutThrough s _
  · split
    · dsimp only
      split <;> exact htaken _ _
    · dsimp only
      split <;> exact htaken _ _
    · split
      · exact .refl s
      · exact .numberReturned s b _
    all_goals exact .refl s

theorem State.Adds.enterRun : s.Adds 0 s.enterRun := .pre (.postPlain _ _ rfl) rfl rfl rfl rfl

theorem State.Adds.enterExcluded : s.Adds 0 s.enterExcluded := .pre (.postPlain _ _ rfl) rfl rfl rfl rfl

theorem State.Adds.enterIsolated : s.Adds 0 s.enterIsolated := .pre (.postPlain _ _ rfl) rfl rfl rfl rfl

theorem State.Adds.endLeavePending : s.Adds 0 s.endLeavePending := by
  rw [s.endLeavePending_eq]
  refine .after (.postPlain _ _ rfl) ?_
  exact .same (.leaveSends s) rfl rfl rfl rfl

theorem State.Adds.censusRingUp (b : RingUpBody) : s.Adds 0 (s.censusRingUp b) := by
  have hpassed := State.Adds.cutThrough s (.ringUp b)
  have hrestarted : s.Adds 0 (s.cutThrough (.ringUp b)).startAttempt := hpassed.andThen (.startAttempt _)
  unfold State.censusRingUp
  split
  · exact hpassed.andThen (.endLeavePending _)
  · split
    · dsimp only
      split
      · exact hpassed.andThen (.pre (.enterRun _) rfl rfl rfl rfl)
      · exact hrestarted
    · dsimp only
      split
      · exact hpassed.andThen (.enterExcluded _)
      · exact hrestarted
    · dsimp only
      split
      · exact hpassed.andThen (.enterExcluded _)
      · exact hrestarted
    · exact .startAttempt s
    · exact .pre (.enterRun _) rfl rfl rfl rfl
    · exact .refl s

theorem State.Adds.censusFrame (f : Frame) (judge after : State → State) (hjudge : ∀ u : State, u.Adds 1 (judge u))
    (hafter : ∀ u : State, u.Adds 1 (after u)) : s.Adds 1 (s.censusFrame f judge after) := by
  unfold State.censusFrame
  split
  · exact .badFrame s f
  · split
    · exact hjudge s
    · have hentered := (State.Adds.truncate s).andThen (.enterCensus _ .claimSeen)
      dsimp only
      split
      · exact (hentered.andThen (.cutThrough _ f)).mono 1
      · exact hentered.andThen (hafter _)
    · split
      · exact (State.Adds.censusEntry s _).andThen (hjudge _)
      · exact .forward s f

end Census

/-! ### The receiver -/

section Receiver
variable (s : State)

theorem State.Adds.symbolArrives : s.Adds 0 s.symbolArrives := by
  unfold State.symbolArrives
  dsimp only
  split
  · exact ⟨Nat.le_refl _, rfl, id, id⟩
  · split
    · exact .pre (.censusEntry _ none) rfl rfl rfl rfl
    · exact ⟨Nat.le_refl _, rfl, id, id⟩

theorem State.Adds.flushWaiting : s.Adds 0 s.flushWaiting := by
  unfold State.flushWaiting
  split <;> exact ⟨Nat.le_refl _, rfl, id, id⟩

theorem State.Adds.frameJudged (silence : Option Time) : s.Adds 0 (s.frameJudged silence) :=
  .after (.flushWaiting _) (.same (.reach s s.receiver.nextFrame) rfl rfl rfl rfl)

theorem State.Adds.receive (silence : Option Time) (handle : State → State) (h : ∀ u : State, u.Adds 1 (handle u)) :
    s.Adds 1 (s.receive silence handle) := by
  unfold State.receive
  split
  · exact (State.Adds.frameJudged s silence).andThen (h _)
  · split
    · exact ((State.Adds.frameJudged s silence).andThen (.symbolArrives _)).andThen (h _)
    · exact (State.Adds.refl s).mono 1

theorem State.Adds.pathFill : s.Adds 0 s.pathFill := by
  unfold State.pathFill
  split
  · exact .truncate s
  · exact .refl s

theorem State.Adds.memberLinkLoss : s.Adds 0 s.memberLinkLoss := by
  unfold State.memberLinkLoss
  split
  · exact .enterCensus s _
  · exact .refl s

theorem State.Adds.linkLost (first : Bool) : s.Adds 0 (s.linkLost first) := by
  have hdown : s.Adds 0 (State.countLinkLoss
      { s with receiver := { s.receiver with up := false, lossTimer := none, lostAt := some s.now } }) := ⟨Nat.le_refl _, rfl, id, id⟩
  unfold State.linkLost
  dsimp only
  split
  · exact (hdown.andThen (.pathFill _)).andThen (.memberLinkLoss _)
  · exact (hdown.andThen (.memberLinkLoss _)).andThen (.pathFill _)

theorem State.Adds.fillReported : s.Adds 0 s.fillReported := by
  unfold State.fillReported
  split
  · exact .after (.pathFill _) (.same (.reach s s.receiver.nextFrame) rfl rfl rfl rfl)
  · exact .refl s

theorem State.Adds.expiry (timer : State → Timer) (act : State → State) (h : ∀ u : State, u.Adds 0 (act u)) :
    s.Adds 0 (s.expiry timer act) := by
  unfold State.expiry
  split
  · exact (State.Adds.reach s _).andThen (h _)
  · exact .refl s

theorem State.Adds.censusTimedOut : s.Adds 0 s.censusTimedOut := by
  unfold State.censusTimedOut
  split
  · exact .endLeavePending s
  · dsimp only
    split
    · exact .pre (.enterIsolated _) rfl rfl rfl rfl
    · exact ⟨Nat.le_refl _, rfl, id, id⟩

theorem State.Adds.fireEntry (entry : Nat) : s.Adds 0 (s.fireEntry entry) := by
  unfold State.fireEntry
  split
  · exact .refl s
  · split
    · exact (State.Adds.reach s _).andThen (.pre (.fire _ _ _) rfl rfl rfl rfl)
    · exact .refl s

end Receiver

/-! ### The bus master -/

section Bus
variable (s : State)

theorem State.Adds.failBurst (b : Burst) (cause : BusCause) : s.Adds 0 (s.failBurst b cause) := by
  rw [s.failBurst_eq b cause]
  exact .same (.pre (.requestFailed (s.burstFailed b) _ _ _) rfl rfl rfl rfl) rfl rfl rfl rfl

theorem State.Adds.completeBurst (b : Burst) (r : Request) : s.Adds 0 (s.completeBurst b r) := by
  unfold State.completeBurst
  dsimp only
  split
  · exact .same (.pre (.requestCompleted { s with bus := s.bus.endBurst.setRequest b.client none } b.client) rfl rfl rfl rfl) rfl rfl rfl rfl
  · exact ⟨Nat.le_refl _, rfl, id, id⟩

theorem State.Adds.busAnswer (answer : BusAnswer) : s.Adds 0 (s.busAnswer answer) := by
  unfold State.busAnswer
  split
  · exact .refl s
  · split
    · exact .refl s
    · unfold State.answerWord
      dsimp only
      split
      · exact .same (.transferWord s _ _ _) rfl rfl rfl rfl
      · exact (State.Adds.transferWord s _ _ _).andThen (.completeBurst _ _ _)
    · exact .failBurst s _ _
    · exact .refl s

theorem State.Adds.busTimedOut : s.Adds 0 s.busTimedOut := by
  unfold State.busTimedOut
  split
  · exact .refl s
  · exact .failBurst s _ _

end Bus

/-! ### The host port -/

section Host
variable (s : State)

theorem State.Adds.leaveRun : s.Adds 0 s.leaveRun := by
  have hdiscard : s.Adds 0 s.filterDiscard.startLeaving := by rw [s.filterDiscard_eq]; exact ⟨Nat.le_refl _, rfl, id, id⟩
  have hempty (u : State) : u.Adds 0 u.emptySends := by
    obtain ⟨_, _, _, e⟩ := u.emptySends_frame
    rw [e]; exact ⟨Nat.le_refl _, rfl, id, id⟩
  exact ((hdiscard.andThen (hempty _)).andThen (.dropTrigger _)).andThen
    (.postAll _ _ (.takeTurns (leftEvents_fits _) (abandonEvents_fits _ _) .nil _))

theorem State.Adds.judgeLeave : s.Adds 0 s.judgeLeave.2 := by
  have hsends := State.Adds.leaveSends s
  unfold State.judgeLeave
  split
  · exact .leaveRun s
  · exact hsends.andThen (.pre (.postPlain _ _ rfl) rfl rfl rfl rfl)
  · exact hsends.andThen (.pre (.postPlain _ _ rfl) rfl rfl rfl rfl)
  · exact hsends.andThen (.pre (.postPlain _ _ rfl) rfl rfl rfl rfl)
  all_goals exact .refl s

/-- What the judgment of a command gives: not COLLECTING, and a state with the same collector. -/
structure State.Decides (s : State) (p : CommandValue × State) : Prop where
  adds      : s.Adds 0 p.2
  value     : p.1 ≠ .collecting
  collector : p.2.host.collector = s.host.collector

theorem HostCommand.words_length_le (c : HostCommand) : c.words.length ≤ 8 := by
  cases c <;> simp [HostCommand.words]

theorem State.Decides.refused (v : CommandValue) (h : v ≠ .collecting) : s.Decides (v, s) := ⟨.refl s, h, rfl⟩

theorem State.Decides.taken {t : State} (h : s.Adds 0 t) (hcollector : t.host.collector = s.host.collector) :
    s.Decides (.ok, t) := ⟨h, nofun, hcollector⟩

theorem State.Adds.startLoad (a : Word) : s.Adds 0 (s.startLoad a) := by
  have hbegun : s.Adds 0 { s with
      host := { s.host with loading := true, loadAddress := some a, loadBuffer := [] } } := ⟨Nat.le_refl _, rfl, id, id⟩
  unfold State.startLoad
  obtain ⟨_, e⟩ := State.makeRequest_frame
    { s with host := { s.host with loading := true, loadAddress := some a, loadBuffer := [] } } .loader false a 20
  rw [e]
  exact hbegun.same rfl rfl rfl rfl

theorem State.startLoad_collector (a : Word) : (s.startLoad a).host.collector = s.host.collector := rfl

theorem State.leaveRun_host : s.leaveRun.host = s.host := by
  obtain ⟨_, _, _, e⟩ := s.filterDiscard.startLeaving.emptySends_frame
  obtain ⟨_, e'⟩ := s.filterDiscard.startLeaving.emptySends.dropTrigger_frame
  obtain ⟨_, e''⟩ := s.filterDiscard.startLeaving.emptySends.dropTrigger.postAll_frame
    (takeTurns s.order s.send.leftEvents (s.trigger.abandonEvents .left) [])
  show (State.postAll _ _).host = _
  rw [e'', e', e, s.filterDiscard_eq]
  rfl

theorem State.Decides.judgeConfigure (a : Word) : s.Decides (s.judgeConfigure a) := by
  unfold State.judgeConfigure
  split
  · exact .refused s _ nofun
  · split
    · exact .refused s _ nofun
    · split
      · exact .refused s _ nofun
      · exact .taken s (.startLoad s a) (s.startLoad_collector a)

theorem State.Decides.judgeJoin : s.Decides s.judgeJoin := by
  obtain ⟨_, _, _, _, _, _, _, _, _, e⟩ := s.censusEntry_frame (some .joined)
  unfold State.judgeJoin
  split
  · exact .taken s (.censusEntry s _) (by rw [e])
  · exact .refused s _ nofun

theorem State.Decides.judgeLeave : s.Decides s.judgeLeave := by
  have hsends := State.Adds.leaveSends s
  have hhost : s.leaveSends.host = s.host := by
    obtain ⟨_, _, _, _, e⟩ := s.leaveSends_frame
    rw [e]
  unfold State.judgeLeave
  split
  · exact .taken s (.leaveRun s) (by rw [s.leaveRun_host])
  · exact .taken s (hsends.andThen (.pre (.postPlain _ _ rfl) rfl rfl rfl rfl)) (congrArg HostPort.collector hhost)
  · exact .taken s (hsends.andThen (.pre (.postPlain _ _ rfl) rfl rfl rfl rfl)) (congrArg HostPort.collector hhost)
  · exact .taken s (hsends.andThen (.pre (.postPlain _ _ rfl) rfl rfl rfl rfl)) (congrArg HostPort.collector hhost)
  all_goals exact .refused s _ nofun

theorem State.Decides.judgeSend (stream length : BitVec 8) (a : Word) (tag : Halfword) :
    s.Decides (s.judgeSend stream length a tag) := by
  obtain ⟨_, _, e⟩ := s.enqueue_frame (sendEntryOf stream length a tag)
  have henqueued : s.Adds 0 (s.enqueue (sendEntryOf stream length a tag)) := by
    rw [e]; exact ⟨Nat.le_refl _, rfl, id, id⟩
  cases h : s.member.station.takesSends with
  | false => rw [s.judgeSend_state _ _ _ _ h]; exact .refused s _ nofun
  | true =>
    rw [s.judgeSend_checked _ _ _ _ h]
    split
    · exact .refused s _ nofun
    · split
      · exact .refused s _ nofun
      · exact .taken s henqueued (by rw [e])

theorem State.Decides.judgeCancel (tag : Halfword) : s.Decides (s.judgeCancel tag) := by
  obtain ⟨_, _, _, e⟩ := s.cancelSends_frame tag
  unfold State.judgeCancel
  split
  · exact .taken s (.cancelSends s tag) (by rw [e])
  · exact .refused s _ nofun

theorem State.Decides.judgeTrigger (g : BitVec 8) : s.Decides (s.judgeTrigger g) := by
  unfold State.judgeTrigger
  split
  · exact .refused s _ nofun
  · split
    · exact .refused s _ nofun
    · split
      · exact .refused s _ nofun
      · exact .taken s ⟨Nat.le_refl _, rfl, id, id⟩ rfl

theorem State.Decides.judgeRelease (ring n : BitVec 8) : s.Decides (s.judgeRelease ring n) := by
  unfold State.judgeRelease
  dsimp only
  split
  · exact .refused s _ nofun
  · split
    · exact .refused s _ nofun
    · exact .taken s ⟨Nat.le_refl _, rfl, id, id⟩ rfl

theorem State.Decides.judgeResume (skip : Bool) : s.Decides (s.judgeResume skip) := by
  obtain ⟨_, _, e⟩ := s.resumeDelivery_frame
  obtain ⟨_, _, _, e'⟩ := s.skipDelivery_frame
  unfold State.judgeResume
  split
  · cases skip with
    | false => exact .taken s (.pre (.beginDelivery _) rfl rfl rfl rfl) (congrArg (·.host.collector) e)
    | true => exact .taken s (.skipDelivery s) (congrArg (·.host.collector) e')
  · exact .refused s _ nofun
  · exact .refused s _ nofun

theorem State.Decides.judgeQuery (subject : BitVec 8) : s.Decides (s.judgeQuery subject) := by
  have hreport (subject : Subject) := State.Adds.post s _ (fits_report subject s)
  unfold State.judgeQuery
  split
  · exact .refused s _ nofun
  next subject _ =>
    split
    · exact .refused s _ nofun
    · cases subject with
      | counters => exact .taken s ((hreport .counters).same rfl rfl rfl rfl) rfl
      | roster => exact .taken s (hreport .roster) rfl
      | ring => exact .taken s (hreport .ring) rfl
      | queues => exact .taken s (hreport .queues) rfl

theorem State.Decides.judge (c : HostCommand) : s.Decides (s.judge c) := by
  cases c with
  | configure a => exact .judgeConfigure s a
  | join => exact .judgeJoin s
  | leave => exact .judgeLeave s
  | send stream length a tag => exact .judgeSend s stream length a tag
  | cancel tag => exact .judgeCancel s tag
  | trigger g => exact .judgeTrigger s g
  | release ring n => exact .judgeRelease s ring n
  | resume skip => exact .judgeResume s skip
  | query subject => exact .judgeQuery s subject

/-! ### The collector (R149, R151, R152) -/

theorem HostPort.sound_empty (h : HostPort) (hempty : h.collector = none) :
    h.Sound = true ↔ h.status.value ≠ .collecting ∧ h.status.words ≤ 8 := by
  unfold HostPort.Sound; rw [hempty]; simp

theorem HostPort.sound_held (h : HostPort) (c : Collector) (hheld : h.collector = some c) : h.Sound = true ↔
    h.status = { value := .collecting, code := c.code, words := c.words.length } ∧ codeCount c.code = some c.count ∧
      1 ≤ c.words.length ∧ c.words.length < c.count := by
  unfold HostPort.Sound; rw [hheld]; simp [and_assoc]

theorem State.setStatus_sound (value : CommandValue) (code : BitVec 8) (words : Nat) (hempty : s.host.collector = none)
    (hvalue : value ≠ .collecting) (hwords : words ≤ 8) : (s.setStatus value code words).host.Sound = true :=
  (HostPort.sound_empty (s.setStatus value code words).host hempty).mpr ⟨hvalue, hwords⟩

/-- A whole record has at most five words. -/
theorem ofWords_length (code : BitVec 8) (words : List Halfword) (c : HostCommand)
    (h : HostCommand.ofWords code words = some c) : words.length ≤ 8 := by
  unfold HostCommand.ofWords at h
  split at h
  case h_10 => cases h
  all_goals simp

/-- A record whole at its last word leaves the collector empty and its result in COMMAND STATUS. -/
theorem State.Adds.finishCommand (code : BitVec 8) (words : List Halfword) : s.Adds 0 (s.finishCommand code words) := by
  cases h : HostCommand.ofWords code words with
  | none =>
    have hfinished : s.finishCommand code words = s.emptyCollector.setStatus .unknown code 0 := by
      simp only [State.finishCommand, h]; rfl
    rw [hfinished]
    exact ⟨Nat.le_refl _, rfl, id, fun _ => (HostPort.sound_empty _ rfl).mpr ⟨nofun, Nat.zero_le _⟩⟩
  | some c =>
    have hdecides := State.Decides.judge s.emptyCollector c
    rw [s.finishCommand_spelled code words c h]
    exact ⟨hdecides.adds.bypass, hdecides.adds.pending, hdecides.adds.events, fun _ =>
      State.setStatus_sound _ _ _ _ hdecides.collector hdecides.value (ofWords_length code words c h)⟩

theorem State.Adds.collect (code : BitVec 8) (count : Nat) (words : List Halfword) (hcode : codeCount code = some count)
    (hsome : 1 ≤ words.length) (hmore : words.length < count) : s.Adds 0 (s.collect code count words) :=
  ⟨Nat.le_refl _, rfl, id, fun _ => (HostPort.sound_held _ _ rfl).mpr ⟨rfl, hcode, hsome, hmore⟩⟩

/-- What holds where the collector has its guarantee holds of a step that keeps it. -/
theorem State.Adds.of_sound {t : State} {n : Nat} (hbypass : t.path.bypass.length ≤ s.path.bypass.length + n)
    (hpending : t.pending = s.pending) (hevents : s.events.Sound → t.events.Sound)
    (h : s.host.Sound = true → s.Adds n t) : s.Adds n t :=
  ⟨hbypass, hpending, hevents, fun hs => (h hs).host hs⟩

theorem codeCount_pos (code : BitVec 8) (count : Nat) (h : codeCount code = some count) : 1 ≤ count := by
  unfold codeCount at h
  split at h
  case h_10 => cases h
  all_goals
    injection h with h
    omega

theorem State.Adds.writeCommand (w : Halfword) : s.Adds 0 (s.writeCommand w) := by
  cases hheld : s.host.collector with
  | some c =>
    rcases Nat.lt_or_ge (c.words.length + 1) c.count with hmore | hwhole
    · rw [s.writeCommand_joins w c hheld hmore]
      refine .of_sound s (Nat.le_refl _) rfl id fun hsound => ?_
      obtain ⟨-, hcode, -, -⟩ := (s.host.sound_held c hheld).mp hsound
      exact .collect s _ _ _ hcode (by simp) (by simpa using hmore)
    · rw [s.writeCommand_completes w c hheld hwhole]
      exact .finishCommand s _ _
  | none =>
    by_cases hcode : codeCount (wordCode w) = some (wordCount w)
    · by_cases hsingle : wordCount w = 1
      · rw [s.writeCommand_single w hheld hcode hsingle]
        exact .finishCommand s _ _
      · have hpos := codeCount_pos _ _ hcode
        rw [s.writeCommand_opens w hheld hcode hsingle]
        exact .collect s _ _ _ hcode (by simp) (by simp; omega)
    · rw [s.writeCommand_unknown w hheld hcode]
      exact ⟨Nat.le_refl _, rfl, id, fun _ => s.setStatus_sound _ _ _ hheld nofun (Nat.zero_le _)⟩

theorem State.Adds.writeRecord (c : HostCommand) : s.Adds 0 (s.writeRecord c) := by
  unfold State.writeRecord
  split
  next hempty =>
    have hdecides := State.Decides.judge s c
    exact ⟨hdecides.adds.bypass, hdecides.adds.pending, hdecides.adds.events, fun _ =>
      State.setStatus_sound _ _ _ _ (hdecides.collector.trans hempty) hdecides.value (HostCommand.words_length_le c)⟩
  next =>
    suffices h : ∀ (ws : List Halfword) (u : State), u.Adds 0 (ws.foldl State.writeCommand u) from h _ s
    intro ws
    induction ws with
    | nil => exact .refl
    | cons w ws ih => exact fun u => (State.Adds.writeCommand u w).andThen (ih _)

theorem State.Adds.windowWrite (a : BitVec 5) (v : Halfword) : s.Adds 0 (s.windowWrite a v) := by
  unfold State.windowWrite
  split
  · exact .writeCommand s v
  · exact ⟨Nat.le_refl _, rfl, id, fun _ => (HostPort.sound_empty _ rfl).mpr ⟨nofun, Nat.zero_le _⟩⟩
  · exact ⟨Nat.le_refl _, rfl, id, id⟩
  · exact .refl s

theorem State.Adds.windowRead (a : BitVec 5) : s.Adds 0 (s.windowRead a) := by
  have hread (u : State) (w : Halfword) : u.Adds 0 { u with host := { u.host with readData := w } } :=
    ⟨Nat.le_refl _, rfl, id, id⟩
  have htake : s.Adds 0 (s.windowTake a) := by
    unfold State.windowTake
    split
    · exact ⟨Nat.le_refl _, rfl, s.events.sound_afterRead, id⟩
    · exact ⟨Nat.le_refl _, rfl, id, id⟩
    · exact .refl s
  unfold State.windowRead
  dsimp only
  split
  · exact hread s _
  · exact htake.andThen (hread _ _)

end Host

/-! ### Every command -/

/-- RESET empties the bypass buffer, the event queue and the collector (R1). -/
theorem State.Adds.assertReset (s : State) : s.Adds 0 s.assertReset :=
  ⟨Nat.zero_le _, rfl, fun _ => ⟨Nat.zero_le _, Nat.zero_le _, fun _ h => by cases h⟩, fun _ => rfl⟩

theorem State.Adds.actOf (c : Instr) (s : State) : s.Adds (if c.isArrival then 1 else 0) (actOf c s) := by
  cases c with
  | resetAsserted o => exact .assertReset s
  | resetReleased o => exact ⟨Nat.le_refl _, rfl, id, id⟩
  | linkUp o | fillSymbolArrives o => exact .symbolArrives s
  | linkLoss o first => exact .expiry s (·.receiver.lossTimer) _ (.linkLost · first)
  | fill o => exact .fillReported s
  | badFrameArrives o r => exact .receive s _ _ (.badFrame · _)
  | headArrives o b => exact .receive s _ _ fun u => .byMode u _ _ (.activeHead u b)
  | dataArrives o b => exact .receive s _ _ fun u => .byMode u _ _ (.activeData u b)
  | tailArrives o b => exact .receive s _ _ fun u => .byMode u _ _ (.activeTail u b)
  | announceArrives o b => exact .receive s _ _ fun u => .byMode u _ _ (.activeAnnounce u b)
  | triggerArrives o b => exact .receive s _ _ fun u => .byMode u _ _ (.activeTrigger u b)
  | voidArrives o b => exact .receive s _ _ fun u => .byMode u _ _ (.activeVoid u b)
  | departArrives o b => exact .receive s _ _ fun u => .byMode u _ _ (.activeDepart u b)
  | claimArrives o b => exact .receive s _ _ fun u => .censusFrame u _ _ _ (.censusClaim · b) (.censusClaim · b)
  | numberArrives o b =>
    exact .receive s _ _ fun u => .censusFrame u _ _ _ (fun v => (State.Adds.censusNumber v b).mono 1)
      (fun v => (State.Adds.refl v).mono 1)
  | ringUpArrives o b =>
    exact .receive s _ _ fun u => .censusFrame u _ _ _ (fun v => (State.Adds.censusRingUp v b).mono 1)
      (fun v => (State.Adds.refl v).mono 1)
  | ownClaimSent o | ownNumberSent o | ownRingUpSent o => exact .sendCensusIf s _
  | ownAnnounceSent o | ownDepartSent o | attemptBegins o | ownRecordFrameSent o | ownTriggerSent o
  | bypassBufferFrameSent o | arrivingFrameForwarded o => exact .sendIfNext s _
  | censusTimerExpires o => exact .expiry s (·.member.censusTimer) _ .censusTimedOut
  | isolationIntervalExpires o => exact .expiry s (·.member.isolationTimer) _ (.censusEntry · none)
  | departLimitTimerExpires o => exact .expiry s (·.member.departTimer) _ .leaveRing
  | returnTimerExpires o => exact .expiry s (·.send.returnTimer) _ .attemptLost
  | retryGapTimerExpires o =>
    exact .expiry s (·.send.gapTimer) (fun u => { u with send := { u.send with gapTimer := none } }) fun _ => ⟨Nat.le_refl _, rfl, id, id⟩
  | triggerReturnTimerExpires o =>
    exact .expiry s (·.trigger.returnTimer) (·.finishTrigger .lost) (.finishTrigger · _)
  | trigPulseTimerExpires o =>
    exact .expiry s (·.trigger.pulseTimer) (fun u => { u with trigger := { u.trigger with pulseTimer := none, pin := false } })
      fun _ => ⟨Nat.le_refl _, rfl, id, id⟩
  | fireDue o entry => exact .fireEntry s entry
  | busTimeout o => exact .expiry s (·.bus.timeout) _ .busTimedOut
  | busWordAnswered o answer => exact .busAnswer s answer
  | configure o a | join o | leave o | send o stream length a tag | cancel o tag | trigger o g | release o ring n
  | resume o | resumeWithSkip o | queryCounters o | queryRoster o | queryRing o | queryQueues o
  | querySubjectOutOfRange o subject => exact .writeRecord s _
  | unknownCommand o w => exact .writeCommand s w
  | commandWordCollected o w => exact .windowWrite s 0 w
  | commandClear o w => exact .windowWrite s 2 w
  | interruptEnableWrite o w => exact .windowWrite s 14 w
  | ignoredWrite o a w => exact .windowWrite s a w
  | eventRead o | stationStatusFirstRead o => exact .windowRead s _

/-- What any command leaves of the state of its moment: with RESET asserted most act on nothing. -/
theorem exec_answers (c : Instr) (s : State) : ∃ t, exec c s = answerOf c t ∧ s.Adds (if c.isArrival then 1 else 0) t := by
  cases h : s.resetPin with
  | false => exact ⟨_, exec_released c s h, (State.Adds.at s c.occasion).andThen (.actOf c _)⟩
  | true =>
    cases hc : actsUnlessReset c with
    | true =>
      exact ⟨_, exec_asserted c s h hc, (State.Adds.at s c.occasion).mono _⟩
    | false =>
      have hat (o : Occasion) {t : State} (k : (s.at o).Adds 0 t) : s.Adds 0 t := (State.Adds.at s o).andThen k
      cases c with
      | resetAsserted o => exact ⟨(s.at o).assertReset, rfl, hat o (.assertReset _)⟩
      | resetReleased o => exact ⟨{ s.at o with resetPin := false }, rfl, hat o ⟨Nat.le_refl _, rfl, id, id⟩⟩
      | eventRead o => exact ⟨(s.at o).windowRead 6, rfl, hat o (.windowRead _ _)⟩
      | stationStatusFirstRead o => exact ⟨(s.at o).windowRead 10, rfl, hat o (.windowRead _ _)⟩
      | _ => cases hc

theorem answerOf_refused (c : Instr) (s : State) (r : Refusal) : answerOf c s ≠ .refused r := by
  unfold answerOf withinBypass
  split
  · split <;> simp
  · simp

theorem answerOf_room (c : Instr) (s : State) (h : c.isArrival = true → s.path.bypass.length ≤ 72) :
    answerOf c s = .next s := by
  unfold answerOf
  split
  next hc => exact withinBypass_next (h hc)
  next => rfl

/-- Settles O4. -/
theorem commandsAnswerNextStates : Obligations.CommandsAnswerNextStates := by
  intro c s
  obtain ⟨t, e, hadds⟩ := exec_answers c s
  rw [e]
  refine ⟨fun hroom => ⟨t, answerOf_room c t fun hc => ?_, hadds.pending⟩, answerOf_refused c t⟩
  have hbypass := hadds.bypass
  rw [if_pos hc] at hbypass
  exact hbypass.trans (hroom hc)

/-- Settles O55. -/
theorem queueAndCollectorStaySound : Obligations.QueueAndCollectorStaySound := by
  have hkept (s s' : State) (h : step s = .next s') : (s.events.Sound → s'.events.Sound) ∧
      (s.host.Sound = true → s'.host.Sound = true) := by
    cases hp : s.pending with
    | nil =>
      rw [step_empty s hp] at h
      cases h
      exact ⟨id, id⟩
    | cons c rest =>
      obtain ⟨t, e, hadds⟩ := exec_answers c { s with pending := rest }
      rw [step_front s c rest hp, e] at h
      rw [answerOf_cases c t s' h]
      exact ⟨hadds.events, hadds.host⟩
  exact ⟨fun s s' hsound h => (hkept s s' h).1 hsound, fun s s' hsound h => (hkept s s' h).2 hsound⟩

end Sys2Proof.Machine
end

section
/-! PROOF. A census frame met outside CENSUS starts one (O37), and a RING_UP closes the census (O40): the two handlers equation
by equation, first what a census entry leaves to the frame that caused it. -/

namespace Sys2Proof.Machine

/-! ### A census entry and the frame that caused it (R28, R44) -/

section Entry
variable (s : State)

theorem State.censusEntry_bypass (cause : Option StateCause) : (s.censusEntry cause).path.bypass = [] := by
  unfold State.censusEntry
  rw [State.ringLeft_path]
  exact s.openCensus_bypass

theorem State.truncate_member : s.truncate.member = s.member := by
  obtain ⟨_, _, _, _, _, _, _, -, e⟩ := s.truncate_frame
  rw [e]

theorem State.enterCensus_member (hring : s.onRing = true) (cause : StateCause) :
    (s.enterCensus cause).member = s.censusStarted.member := by
  obtain ⟨_, _, _, _, e⟩ := s.censusStarted.ringLeft_frame true (some cause)
  rw [s.enterCensus_onRing hring cause, e]

/-- From LEAVING the leave is pending after a census entry, from RUN it is as it was (R44). -/
theorem State.enterCensus_leavePending (hring : s.onRing = true) (cause : StateCause) :
    (s.enterCensus cause).member.leavePending = if s.member.station = .leaving then true else s.member.leavePending := by
  rw [s.enterCensus_member hring]
  unfold State.censusStarted
  split <;> rfl

theorem State.censusFrame_run (f : Frame) (judge after : State → State) (hf : f.unusable = false)
    (hstation : s.member.station = .run) (hleave : s.member.leavePending = false) :
    s.censusFrame f judge after = after (s.truncate.enterCensus .claimSeen) := by
  have hmode : s.mode = .active := by simp [State.mode, hstation, StationState.mode]
  have hring : s.truncate.onRing = true := by
    simp [State.onRing, State.mode, s.truncate_member, hstation, StationState.mode]
  have hkept := s.truncate.enterCensus_leavePending hring .claimSeen
  rw [s.truncate_member, hstation, if_neg (by decide), hleave] at hkept
  simp [State.censusFrame, hf, hmode, hkept]

theorem State.censusFrame_leaving (f : Frame) (judge after : State → State) (hf : f.unusable = false)
    (hstation : s.member.station = .leaving) :
    s.censusFrame f judge after = (s.truncate.enterCensus .claimSeen).cutThrough f := by
  have hmode : s.mode = .active := by simp [State.mode, hstation, StationState.mode]
  have hring : s.truncate.onRing = true := by
    simp [State.onRing, State.mode, s.truncate_member, hstation, StationState.mode]
  have hpending := s.truncate.enterCensus_leavePending hring .claimSeen
  rw [s.truncate_member, hstation, if_pos rfl] at hpending
  simp [State.censusFrame, hf, hmode, hpending]

theorem State.censusFrame_offRing (f : Frame) (judge after : State → State) (hf : f.unusable = false)
    (hclaim : f.isClaim = true) (hstation : s.member.station = .isolated ∨ s.member.station = .excluded) :
    s.censusFrame f judge after = judge (s.censusEntry (some .claimSeen)) := by
  have hmode : s.mode = .transparent := by
    rcases hstation with h | h <;> simp [State.mode, h, StationState.mode]
  simp [State.censusFrame, hf, hmode, hstation, hclaim]

end Entry

/-! ### The three rows (R28) -/

theorem ringUp_usable (b : RingUpBody) (h0 : b.size ≠ 0) (h31 : b.size ≠ 31) : (Frame.ringUp b).unusable = false := by
  rw [Bool.eq_false_iff]
  show ¬noRingNumber b.size = true
  rw [noRingNumber_iff]
  exact fun h => h.elim h0 h31

theorem exec_ringUpArrives (o : Occasion) (b : RingUpBody) (s : State) :
    exec (.ringUpArrives o b) s =
      arrivalStep o (some 0) (·.censusFrame (.ringUp b) (·.censusRingUp b) id) s := by
  rfl

/-- What a census frame answers in the state that handles it. -/
theorem arrivalStep_censusFrame (o : Occasion) (f : Frame) (judge after : State → State) (s : State) (h : s.Receiving) :
    arrivalStep o (some 0) (·.censusFrame f judge after) s = withinBypass ((s.heard o).censusFrame f judge after) :=
  arrivalStep_receiving o _ s h

section Rows
variable (s : State) (o : Occasion) (f : Frame) (judge after : State → State) (h : s.Receiving) (hf : f.unusable = false)
include h hf

theorem arrivalStep_censusFrame_run (hafter : ∀ u : State, u.Adds 1 (after u)) (hstation : s.member.station = .run)
    (hleave : s.member.leavePending = false) :
    arrivalStep o (some 0) (·.censusFrame f judge after) s =
      .next (after ((s.heard o).truncate.enterCensus .claimSeen)) := by
  rw [arrivalStep_censusFrame o f judge after s h, State.censusFrame_run (s.heard o) f judge after hf (by simpa using hstation)
    (by simpa using hleave)]
  have hroom := (hafter ((s.heard o).truncate.enterCensus .claimSeen)).bypass
  rw [State.enterCensus_bypass] at hroom
  exact withinBypass_next (hroom.trans (by decide))

theorem arrivalStep_censusFrame_leaving (hstation : s.member.station = .leaving) :
    arrivalStep o (some 0) (·.censusFrame f judge after) s =
      .next (((s.heard o).truncate.enterCensus .claimSeen).cutThrough f) := by
  rw [arrivalStep_censusFrame o f judge after s h, State.censusFrame_leaving (s.heard o) f judge after hf
    (by simpa using hstation)]
  exact withinBypass_cutThrough f (by rw [State.enterCensus_bypass]; decide)

end Rows

/-- Settles O37. -/
theorem censusFrameStartsCensus : Obligations.CensusFrameStartsCensus := by
  have hclaim (b : ClaimBody) (h : b.mark ≠ 0) : (Frame.claim b).unusable = false := by simpa [Frame.unusable] using h
  have hnumber (b : NumberBody) (h : b.count ≠ 0) : (Frame.number b).unusable = false := by simpa [Frame.unusable] using h
  intro s o h
  refine ⟨fun hrun hleave => ⟨fun b hb => ?_, fun b hb => ?_, fun b h0 h31 => ?_⟩,
    fun hleaving => ⟨fun b hb => ?_, fun b hb => ?_, fun b h0 h31 => ?_⟩, fun hoff b hb => ?_⟩
  · rw [exec_claimArrives]
    exact arrivalStep_censusFrame_run s o _ _ _ h (hclaim b hb) (.censusClaim · b) hrun hleave
  · rw [exec_numberArrives]
    exact arrivalStep_censusFrame_run s o _ _ _ h (hnumber b hb) (fun u => (State.Adds.refl u).mono 1) hrun hleave
  · rw [exec_ringUpArrives]
    exact arrivalStep_censusFrame_run s o _ _ _ h (ringUp_usable b h0 h31) (fun u => (State.Adds.refl u).mono 1) hrun hleave
  · rw [exec_claimArrives]
    exact arrivalStep_censusFrame_leaving s o _ _ _ h (hclaim b hb) hleaving
  · rw [exec_numberArrives]
    exact arrivalStep_censusFrame_leaving s o _ _ _ h (hnumber b hb) hleaving
  · rw [exec_ringUpArrives]
    exact arrivalStep_censusFrame_leaving s o _ _ _ h (ringUp_usable b h0 h31) hleaving
  · rw [exec_claimArrives, arrivalStep_censusFrame o _ _ _ s h,
      State.censusFrame_offRing (s.heard o) _ _ _ (hclaim b hb) rfl (by simpa using hoff)]
    have hroom := (State.Adds.censusClaim ((s.heard o).censusEntry (some .claimSeen)) b).bypass
    rw [State.censusEntry_bypass] at hroom
    exact withinBypass_next (hroom.trans (by decide))

/-! ### A RING_UP at a station in CENSUS (R38, R39, R42, R44) -/

theorem exec_ringUpArrives_census (o : Occasion) (b : RingUpBody) (s : State) (h : s.Receiving)
    (hstation : s.member.station = .census) (h0 : b.size ≠ 0) (h31 : b.size ≠ 31) :
    exec (.ringUpArrives o b) s = .next ((s.heard o).censusRingUp b) := by
  have hroom := (State.Adds.censusRingUp (s.heard o) b).bypass
  rw [exec_ringUpArrives, arrivalStep_censusFrame o _ _ _ s h, State.censusFrame_census _ _ _ _
    (ringUp_usable b h0 h31) (State.mode_census _ (by simpa using hstation))]
  exact withinBypass_next (hroom.trans (s.heard_bypass_room o h).le)

/-- The frame of R31: the own CLAIM of a new attempt, in a state whose membership unit is that of `t`. -/
def State.restartedAs (s t : State) : State :=
  { s with
    member := { t.member with
      sub := some .claiming, provisional := none, numberSent := none, claimBegun := false
      censusTimer := some (t.now + 200000) }
    path := { s.path with ownCensus := some (.claim { spareHigh := 0, mark := t.member.mark, spareLow := 0 }) } }

/-- RUN entry with ring number `p` of `n` and a hop time (R39), in a state whose membership unit is that of `t`. -/
def State.ringFormedAs (s t : State) (p n : BitVec 5) (hop : BitVec 16) : State :=
  State.post
    { s with
      path := { s.path with ownCensus := none }
      member := { t.member with
        station := .run, sub := none, number := some p, ringSize := n, hopTime := hop
        censusTimer := none, claimBegun := false, attempts := 0, epoch := t.member.epoch + 1
        roster := tableSet t.member.roster p (some t.member.mark), announce := .waiting } }
    (.stateChange .run .ringFormed n p (t.member.epoch + 1))

section RingUp
variable (s : State) (b : RingUpBody)

theorem State.startAttempt_passed (f : Frame) : (s.cutThrough f).startAttempt = (s.cutThrough f).restartedAs s := by
  obtain ⟨_, _, e⟩ := s.cutThrough_frame f
  rw [e]; rfl

theorem State.enterRun_eq (p : BitVec 5) (hp : s.member.provisional = some p) :
    s.enterRun = s.ringFormedAs s p s.member.ringSize s.member.hopTime := by
  unfold State.enterRun
  dsimp only
  have hnumber : s.withdrawCensusFrame.member.provisional.getD 0 = p := by
    rw [show s.withdrawCensusFrame.member.provisional = some p from hp]; rfl
  rw [hnumber]
  rfl

theorem State.censusRingUp_leavePending (h : s.member.leavePending = true) : s.censusRingUp b = State.post
    { (s.cutThrough (.ringUp b)).leaveSends with
      member := { s.member with station := .pass, sub := none, leavePending := false, censusTimer := none } }
    (.stateChange .pass .left s.member.ringSize (s.member.number.getD 0) s.member.epoch) := by
  obtain ⟨_, _, e⟩ := s.cutThrough_frame (.ringUp b)
  rw [State.censusRingUp, if_pos h, State.endLeavePending_eq, e]

variable (hleave : s.member.leavePending = false)
include hleave

theorem State.censusRingUp_numbered (p : BitVec 5) (hsub : s.member.sub = some .numbered)
    (hp : s.member.provisional = some p) (hle : p.toNat ≤ b.size.toNat) :
    s.censusRingUp b = (s.cutThrough (.ringUp b)).ringFormedAs s p b.size b.hopTime := by
  have hformed : s.censusRingUp b = State.enterRun { s.cutThrough (.ringUp b) with
      member := { (s.cutThrough (.ringUp b)).member with ringSize := b.size, hopTime := b.hopTime } } := by
    simp [State.censusRingUp, hleave, hsub, hp, hle]
  obtain ⟨_, _, e⟩ := s.cutThrough_frame (.ringUp b)
  rw [hformed, e]
  exact State.enterRun_eq _ p (by exact hp)

theorem State.censusRingUp_aboveSize (p : BitVec 5) (hsub : s.member.sub = some .numbered)
    (hp : s.member.provisional = some p) (hlt : b.size.toNat < p.toNat) :
    s.censusRingUp b = (s.cutThrough (.ringUp b)).restartedAs s := by
  rw [← s.startAttempt_passed]
  simp [State.censusRingUp, hleave, hsub, hp, Nat.not_le.mpr hlt]

theorem State.censusRingUp_excluded (hsub : s.member.sub = some .claiming ∨ s.member.sub = some .deferred)
    (hover : b.overfull = true) : s.censusRingUp b = State.post
      { s.cutThrough (.ringUp b) with
        path := { (s.cutThrough (.ringUp b)).path with ownCensus := none }
        member := { s.member with station := .excluded, sub := none, censusTimer := none, attempts := 0 } }
      (.stateChange .excluded .overfull s.member.ringSize (s.member.number.getD 0) s.member.epoch) := by
  have hexcluded : s.censusRingUp b = (s.cutThrough (.ringUp b)).enterExcluded := by
    rcases hsub with hsub | hsub <;> simp [State.censusRingUp, hleave, hsub, hover]
  obtain ⟨_, _, e⟩ := s.cutThrough_frame (.ringUp b)
  rw [hexcluded, e]; rfl

theorem State.censusRingUp_unnumbered (hsub : s.member.sub = some .claiming ∨ s.member.sub = some .deferred)
    (hover : b.overfull = false) : s.censusRingUp b = (s.cutThrough (.ringUp b)).restartedAs s := by
  rw [← s.startAttempt_passed]
  rcases hsub with hsub | hsub <;> simp [State.censusRingUp, hleave, hsub, hover]

theorem State.censusRingUp_counting (hsub : s.member.sub = some .counting) : s.censusRingUp b = s.restartedAs s := by
  simp only [State.censusRingUp, hleave, hsub, Bool.false_eq_true, if_false]
  rfl

theorem State.censusRingUp_closing (p : BitVec 5) (hsub : s.member.sub = some .closing)
    (hp : s.member.provisional = some p) :
    s.censusRingUp b = s.ringFormedAs s p s.member.pendingSize s.member.pendingHop := by
  have hformed : s.censusRingUp b = State.enterRun { s with
      member := { s.member with ringSize := s.member.pendingSize, hopTime := s.member.pendingHop } } := by
    unfold State.censusRingUp
    rw [if_neg (by simp [hleave]), hsub]
  rw [hformed]
  exact State.enterRun_eq _ p (by exact hp)

end RingUp

/-- Settles O40. -/
theorem ringUpClosesTheCensus : Obligations.RingUpClosesTheCensus := by
  intro s o b h hstation h0 h31
  rw [exec_ringUpArrives_census o b s h hstation h0 h31, ← s.heard_member_mark o, ← s.heard_member_sub o,
    ← s.heard_member_leavePending o, ← s.heard_member_provisional o, ← s.heard_member_ringSize o, ← s.heard_member_number o,
    ← s.heard_member_epoch o, ← s.heard_member_roster o, ← s.heard_member_pendingSize o, ← s.heard_member_pendingHop o]
  generalize s.heard o = t
  refine ⟨t, _, rfl, rfl, fun hleave => congrArg _ (t.censusRingUp_leavePending b hleave), fun hleave => ⟨_, rfl,
    fun p hsub hp => ⟨fun hle => ?_, fun hlt => ?_⟩, fun hsub => ⟨fun hover => ?_, fun hover => ?_⟩, fun hsub => ?_,
    fun p hsub hp => ?_⟩⟩
  · exact congrArg _ (t.censusRingUp_numbered b hleave p hsub hp hle)
  · exact congrArg _ (t.censusRingUp_aboveSize b hleave p hsub hp hlt)
  · exact congrArg _ (t.censusRingUp_excluded b hleave hsub hover)
  · exact congrArg _ (t.censusRingUp_unnumbered b hleave hsub hover)
  · exact congrArg _ (t.censusRingUp_counting b hleave hsub)
  · exact congrArg _ (t.censusRingUp_closing b hleave p hsub hp)

end Sys2Proof.Machine
end

section
/-! PROOF. The formats (O5, O6, O7): words as their fields in order, the frames of a link and their check, the command records,
and halfwords in words. -/

namespace Sys2Proof

/-! ### A word is its fields in order -/

/-- A field of a field. -/
theorem field_of_field {w : Nat} (x : BitVec w) (start n s len : Nat) (h : s + len ≤ n) :
    (x.extractLsb' start n).extractLsb' s len = x.extractLsb' (start + s) len := by
  ext i hi
  have hin : s + i < n := by omega
  simp [hin, Nat.add_assoc]

theorem ofBool_getLsbD {w : Nat} (x : BitVec w) (n : Nat) : BitVec.ofBool (x.getLsbD n) = x.extractLsb' n 1 := by
  ext i hi
  obtain rfl : i = 0 := by omega
  simp

section Words
variable {a b c d e f g h : Nat} (p : BitVec a) (q : BitVec b) (r : BitVec c) (t : BitVec d) (u : BitVec e) (v : BitVec f)
  (y : BitVec g) (z : BitVec h)

theorem two_fields_iff (x : BitVec (a + b)) : p ++ q = x ↔ x.extractLsb' b a = p ∧ x.extractLsb' 0 b = q := by
  constructor
  · rintro rfl
    exact ⟨BitVec.extractLsb'_append_eq_left, BitVec.extractLsb'_append_eq_right⟩
  · rintro ⟨rfl, rfl⟩
    exact BitVec.extractLsb'_append_extractLsb'

theorem three_fields_iff (x : BitVec (a + b + c)) : p ++ q ++ r = x ↔
    x.extractLsb' (c + b) a = p ∧ x.extractLsb' c b = q ∧ x.extractLsb' 0 c = r := by
  rw [two_fields_iff (p ++ q) r x, eq_comm, two_fields_iff p q, and_assoc,
    field_of_field x c (a + b) b a (by omega), field_of_field x c (a + b) 0 b (by omega), Nat.add_zero]

theorem four_fields_iff (x : BitVec (a + b + c + d)) : p ++ q ++ r ++ t = x ↔
    x.extractLsb' (d + (c + b)) a = p ∧ x.extractLsb' (d + c) b = q ∧ x.extractLsb' d c = r ∧ x.extractLsb' 0 d = t := by
  rw [two_fields_iff (p ++ q ++ r) t x, eq_comm, three_fields_iff p q r, and_assoc, and_assoc,
    field_of_field x d (a + b + c) (c + b) a (by omega), field_of_field x d (a + b + c) c b (by omega),
    field_of_field x d (a + b + c) 0 c (by omega), Nat.add_zero]

theorem five_fields_iff (x : BitVec (a + b + c + d + e)) : p ++ q ++ r ++ t ++ u = x ↔
    x.extractLsb' (e + (d + (c + b))) a = p ∧ x.extractLsb' (e + (d + c)) b = q ∧ x.extractLsb' (e + d) c = r ∧
      x.extractLsb' e d = t ∧ x.extractLsb' 0 e = u := by
  rw [two_fields_iff (p ++ q ++ r ++ t) u x, eq_comm, four_fields_iff p q r t, and_assoc, and_assoc, and_assoc,
    field_of_field x e (a + b + c + d) (d + (c + b)) a (by omega), field_of_field x e (a + b + c + d) (d + c) b (by omega),
    field_of_field x e (a + b + c + d) d c (by omega), field_of_field x e (a + b + c + d) 0 d (by omega), Nat.add_zero]

theorem six_fields_iff (x : BitVec (a + b + c + d + e + f)) : p ++ q ++ r ++ t ++ u ++ v = x ↔
    x.extractLsb' (f + (e + (d + (c + b)))) a = p ∧ x.extractLsb' (f + (e + (d + c))) b = q ∧
      x.extractLsb' (f + (e + d)) c = r ∧ x.extractLsb' (f + e) d = t ∧ x.extractLsb' f e = u ∧ x.extractLsb' 0 f = v := by
  rw [two_fields_iff (p ++ q ++ r ++ t ++ u) v x, eq_comm, five_fields_iff p q r t u, and_assoc, and_assoc, and_assoc,
    and_assoc, field_of_field x f _ (e + (d + (c + b))) a (by omega), field_of_field x f _ (e + (d + c)) b (by omega),
    field_of_field x f _ (e + d) c (by omega), field_of_field x f _ e d (by omega), field_of_field x f _ 0 e (by omega),
    Nat.add_zero]

/-- Two words of four fields each, the longest body of 11.1. -/
theorem eight_fields_iff (x : BitVec (a + b + c + d + e + f + g + h)) : p ++ q ++ r ++ t ++ u ++ v ++ y ++ z = x ↔
    x.extractLsb' (h + (g + (f + (e + (d + (c + b)))))) a = p ∧ x.extractLsb' (h + (g + (f + (e + (d + c))))) b = q ∧
      x.extractLsb' (h + (g + (f + (e + d)))) c = r ∧ x.extractLsb' (h + (g + (f + e))) d = t ∧
      x.extractLsb' (h + (g + f)) e = u ∧ x.extractLsb' (h + g) f = v ∧ x.extractLsb' h g = y ∧ x.extractLsb' 0 h = z := by
  rw [three_fields_iff (p ++ q ++ r ++ t ++ u ++ v) y z x, eq_comm, six_fields_iff p q r t u v]
  simp only [and_assoc]
  rw [field_of_field x _ _ (f + (e + (d + (c + b)))) a (by omega), field_of_field x _ _ (f + (e + (d + c))) b (by omega),
    field_of_field x _ _ (f + (e + d)) c (by omega), field_of_field x _ _ (f + e) d (by omega),
    field_of_field x _ _ f e (by omega), field_of_field x _ _ 0 f (by omega)]
  simp only [Nat.add_assoc, Nat.add_zero]

end Words

/-! ### The bodies of the frames (11.1.1, 11.1.2): the position of each field -/

theorem HeadBody.bits_iff (b : HeadBody) (w : BitVec 32) : b.bits = w ↔ w.extractLsb' 27 5 = b.source ∧
    w.extractLsb' 21 6 = b.stream ∧ w.extractLsb' 13 8 = b.seq ∧ w.extractLsb' 6 7 = b.length ∧ w.extractLsb' 1 5 = b.hop ∧
    w.extractLsb' 0 1 = BitVec.ofBool b.attempt :=
  six_fields_iff b.source b.stream b.seq b.length b.hop (BitVec.ofBool b.attempt) w

theorem DataBody.bits_iff (b : DataBody) (w : BitVec 32) : b.bits = w ↔ w.extractLsb' 27 5 = b.source ∧
    w.extractLsb' 21 6 = b.index ∧ w.extractLsb' 16 5 = b.spare ∧ w.extractLsb' 0 16 = b.word :=
  four_fields_iff b.source b.index b.spare b.word w

theorem TailBody.bits_iff (b : TailBody) (w : BitVec 32) : b.bits = w ↔ w.extractLsb' 27 5 = b.source ∧
    w.extractLsb' 19 8 = b.seq ∧ w.extractLsb' 18 1 = BitVec.ofBool b.attempt ∧ w.extractLsb' 13 5 = b.accept ∧
    w.extractLsb' 8 5 = b.held ∧ w.extractLsb' 7 1 = BitVec.ofBool b.refused ∧
    w.extractLsb' 6 1 = BitVec.ofBool b.damaged ∧ w.extractLsb' 0 6 = b.spare :=
  eight_fields_iff b.source b.seq (BitVec.ofBool b.attempt) b.accept b.held (BitVec.ofBool b.refused)
    (BitVec.ofBool b.damaged) b.spare w

theorem ClaimBody.bits_iff (b : ClaimBody) (w : BitVec 32) : b.bits = w ↔ w.extractLsb' 29 3 = 0 ∧
    w.extractLsb' 24 5 = b.spareHigh ∧ w.extractLsb' 8 16 = b.mark ∧ w.extractLsb' 0 8 = b.spareLow :=
  four_fields_iff 0#3 b.spareHigh b.mark b.spareLow w

theorem NumberBody.bits_iff (b : NumberBody) (w : BitVec 32) : b.bits = w ↔ w.extractLsb' 29 3 = 1 ∧
    w.extractLsb' 24 5 = b.count ∧ w.extractLsb' 23 1 = BitVec.ofBool b.overfull ∧ w.extractLsb' 0 23 = b.spare :=
  four_fields_iff 1#3 b.count (BitVec.ofBool b.overfull) b.spare w

theorem RingUpBody.bits_iff (b : RingUpBody) (w : BitVec 32) : b.bits = w ↔ w.extractLsb' 29 3 = 2 ∧
    w.extractLsb' 24 5 = b.size ∧ w.extractLsb' 23 1 = BitVec.ofBool b.overfull ∧ w.extractLsb' 16 7 = b.spare ∧
    w.extractLsb' 0 16 = b.hopTime :=
  five_fields_iff 2#3 b.size (BitVec.ofBool b.overfull) b.spare b.hopTime w

theorem AnnounceBody.bits_iff (b : AnnounceBody) (w : BitVec 32) : b.bits = w ↔ w.extractLsb' 29 3 = 3 ∧
    w.extractLsb' 24 5 = b.number ∧ w.extractLsb' 8 16 = b.mark ∧ w.extractLsb' 5 3 = b.spare ∧
    w.extractLsb' 0 5 = b.hop :=
  five_fields_iff 3#3 b.number b.mark b.spare b.hop w

theorem TriggerBody.bits_iff (b : TriggerBody) (w : BitVec 32) : b.bits = w ↔ w.extractLsb' 29 3 = 4 ∧
    w.extractLsb' 24 5 = b.source ∧ w.extractLsb' 21 3 = b.group ∧ w.extractLsb' 5 16 = b.spare ∧
    w.extractLsb' 0 5 = b.hop :=
  five_fields_iff 4#3 b.source b.group b.spare b.hop w

theorem VoidBody.bits_iff (b : VoidBody) (w : BitVec 32) : b.bits = w ↔ w.extractLsb' 29 3 = 5 ∧
    w.extractLsb' 24 5 = b.station ∧ w.extractLsb' 5 19 = b.spare ∧ w.extractLsb' 0 5 = b.hop :=
  four_fields_iff 5#3 b.station b.spare b.hop w

theorem DepartBody.bits_iff (b : DepartBody) (w : BitVec 32) : b.bits = w ↔ w.extractLsb' 29 3 = 6 ∧
    w.extractLsb' 24 5 = b.source ∧ w.extractLsb' 5 19 = b.spare ∧ w.extractLsb' 0 5 = b.hop :=
  four_fields_iff 6#3 b.source b.spare b.hop w

/-! A body read from a word spells that word, and a body's word reads as the body. -/

theorem HeadBody.bits_ofBits (w : BitVec 32) : (HeadBody.ofBits w).bits = w :=
  ((ofBits w).bits_iff w).mpr ⟨rfl, rfl, rfl, rfl, rfl, (ofBool_getLsbD w 0).symm⟩

theorem DataBody.bits_ofBits (w : BitVec 32) : (DataBody.ofBits w).bits = w :=
  ((ofBits w).bits_iff w).mpr ⟨rfl, rfl, rfl, rfl⟩

theorem TailBody.bits_ofBits (w : BitVec 32) : (TailBody.ofBits w).bits = w :=
  ((ofBits w).bits_iff w).mpr ⟨rfl, rfl, (ofBool_getLsbD w 18).symm, rfl, rfl, (ofBool_getLsbD w 7).symm,
    (ofBool_getLsbD w 6).symm, rfl⟩

theorem ClaimBody.bits_ofBits (w : BitVec 32) (h : w.extractLsb' 29 3 = 0) : (ClaimBody.ofBits w).bits = w :=
  ((ofBits w).bits_iff w).mpr ⟨h, rfl, rfl, rfl⟩

theorem NumberBody.bits_ofBits (w : BitVec 32) (h : w.extractLsb' 29 3 = 1) : (NumberBody.ofBits w).bits = w :=
  ((ofBits w).bits_iff w).mpr ⟨h, rfl, (ofBool_getLsbD w 23).symm, rfl⟩

theorem RingUpBody.bits_ofBits (w : BitVec 32) (h : w.extractLsb' 29 3 = 2) : (RingUpBody.ofBits w).bits = w :=
  ((ofBits w).bits_iff w).mpr ⟨h, rfl, (ofBool_getLsbD w 23).symm, rfl, rfl⟩

theorem AnnounceBody.bits_ofBits (w : BitVec 32) (h : w.extractLsb' 29 3 = 3) : (AnnounceBody.ofBits w).bits = w :=
  ((ofBits w).bits_iff w).mpr ⟨h, rfl, rfl, rfl, rfl⟩

theorem TriggerBody.bits_ofBits (w : BitVec 32) (h : w.extractLsb' 29 3 = 4) : (TriggerBody.ofBits w).bits = w :=
  ((ofBits w).bits_iff w).mpr ⟨h, rfl, rfl, rfl, rfl⟩

theorem VoidBody.bits_ofBits (w : BitVec 32) (h : w.extractLsb' 29 3 = 5) : (VoidBody.ofBits w).bits = w :=
  ((ofBits w).bits_iff w).mpr ⟨h, rfl, rfl, rfl⟩

theorem DepartBody.bits_ofBits (w : BitVec 32) (h : w.extractLsb' 29 3 = 6) : (DepartBody.ofBits w).bits = w :=
  ((ofBits w).bits_iff w).mpr ⟨h, rfl, rfl, rfl⟩

theorem HeadBody.ofBits_bits (b : HeadBody) : HeadBody.ofBits b.bits = b := by
  obtain ⟨hsource, hstream, hseq, hlength, hhop, hattempt⟩ := (b.bits_iff _).mp rfl
  simp only [ofBits, hsource, hstream, hseq, hlength, hhop, getLsbD_of_extractLsb' _ _ _ hattempt]

theorem DataBody.ofBits_bits (b : DataBody) : DataBody.ofBits b.bits = b := by
  obtain ⟨hsource, hindex, hspare, hword⟩ := (b.bits_iff _).mp rfl
  simp only [ofBits, hsource, hindex, hspare, hword]

theorem TailBody.ofBits_bits (b : TailBody) : TailBody.ofBits b.bits = b := by
  obtain ⟨hsource, hseq, hattempt, haccept, hheld, hrefused, hdamaged, hspare⟩ := (b.bits_iff _).mp rfl
  simp only [ofBits, hsource, hseq, getLsbD_of_extractLsb' _ _ _ hattempt, haccept, hheld,
    getLsbD_of_extractLsb' _ _ _ hrefused, getLsbD_of_extractLsb' _ _ _ hdamaged, hspare]

theorem ClaimBody.ofBits_bits (b : ClaimBody) : ClaimBody.ofBits b.bits = b := by
  obtain ⟨-, hhigh, hmark, hlow⟩ := (b.bits_iff _).mp rfl
  simp only [ofBits, hhigh, hmark, hlow]

theorem NumberBody.ofBits_bits (b : NumberBody) : NumberBody.ofBits b.bits = b := by
  obtain ⟨-, hcount, hoverfull, hspare⟩ := (b.bits_iff _).mp rfl
  simp only [ofBits, hcount, getLsbD_of_extractLsb' _ _ _ hoverfull, hspare]

theorem RingUpBody.ofBits_bits (b : RingUpBody) : RingUpBody.ofBits b.bits = b := by
  obtain ⟨-, hsize, hoverfull, hspare, htime⟩ := (b.bits_iff _).mp rfl
  simp only [ofBits, hsize, getLsbD_of_extractLsb' _ _ _ hoverfull, hspare, htime]

theorem AnnounceBody.ofBits_bits (b : AnnounceBody) : AnnounceBody.ofBits b.bits = b := by
  obtain ⟨-, hnumber, hmark, hspare, hhop⟩ := (b.bits_iff _).mp rfl
  simp only [ofBits, hnumber, hmark, hspare, hhop]

theorem TriggerBody.ofBits_bits (b : TriggerBody) : TriggerBody.ofBits b.bits = b := by
  obtain ⟨-, hsource, hgroup, hspare, hhop⟩ := (b.bits_iff _).mp rfl
  simp only [ofBits, hsource, hgroup, hspare, hhop]

theorem VoidBody.ofBits_bits (b : VoidBody) : VoidBody.ofBits b.bits = b := by
  obtain ⟨-, hstation, hspare, hhop⟩ := (b.bits_iff _).mp rfl
  simp only [ofBits, hstation, hspare, hhop]

theorem DepartBody.ofBits_bits (b : DepartBody) : DepartBody.ofBits b.bits = b := by
  obtain ⟨-, hsource, hspare, hhop⟩ := (b.bits_iff _).mp rfl
  simp only [ofBits, hsource, hspare, hhop]

/-! ### Whole frames (R2, R3, 11.1) -/

theorem RawFrame.bad_iff (r : RawFrame) : r.bad = true ↔ r.undecoded ≠ 0 ∨ r.check ≠ frameCheck r.kind r.body := by
  simp [RawFrame.bad]

theorem RawFrame.checked_good (kind : BitVec 2) (body : BitVec 32) : (RawFrame.checked kind body).bad = false := by
  simp [RawFrame.bad, RawFrame.checked]

/-- A content that is not bad is the one a sender makes of its kind and body. -/
theorem RawFrame.checked_of_good (r : RawFrame) (h : r.bad = false) : RawFrame.checked r.kind r.body = r := by
  have hgood : ¬(r.undecoded ≠ 0 ∨ r.check ≠ frameCheck r.kind r.body) := by rw [← r.bad_iff]; simp [h]
  push Not at hgood
  obtain ⟨hdecoded, hcheck⟩ := hgood
  rw [RawFrame.checked, ← hcheck, ← hdecoded]

theorem RawFrame.read_bad (r : RawFrame) (h : r.bad = true) : r.read = .raw r := by
  unfold RawFrame.read; rw [if_pos h]

section Read
variable (r : RawFrame) (h : r.bad = false)
include h

theorem RawFrame.read_head (hk : r.kind = 0) : r.read = .head (.ofBits r.body) := by
  unfold RawFrame.read; rw [h, hk]; rfl

theorem RawFrame.read_data (hk : r.kind = 1) : r.read = .data (.ofBits r.body) := by
  unfold RawFrame.read; rw [h, hk]; rfl

theorem RawFrame.read_tail (hk : r.kind = 2) : r.read = .tail (.ofBits r.body) := by
  unfold RawFrame.read; rw [h, hk]; rfl

variable (hk : r.kind = 3)
include hk

theorem RawFrame.read_claim (hc : r.body.extractLsb' 29 3 = 0) : r.read = .claim (.ofBits r.body) := by
  unfold RawFrame.read; rw [h, hk, hc]; rfl

theorem RawFrame.read_number (hc : r.body.extractLsb' 29 3 = 1) : r.read = .number (.ofBits r.body) := by
  unfold RawFrame.read; rw [h, hk, hc]; rfl

theorem RawFrame.read_ringUp (hc : r.body.extractLsb' 29 3 = 2) : r.read = .ringUp (.ofBits r.body) := by
  unfold RawFrame.read; rw [h, hk, hc]; rfl

theorem RawFrame.read_announce (hc : r.body.extractLsb' 29 3 = 3) : r.read = .announce (.ofBits r.body) := by
  unfold RawFrame.read; rw [h, hk, hc]; rfl

theorem RawFrame.read_trigger (hc : r.body.extractLsb' 29 3 = 4) : r.read = .trigger (.ofBits r.body) := by
  unfold RawFrame.read; rw [h, hk, hc]; rfl

theorem RawFrame.read_void (hc : r.body.extractLsb' 29 3 = 5) : r.read = .void (.ofBits r.body) := by
  unfold RawFrame.read; rw [h, hk, hc]; rfl

theorem RawFrame.read_depart (hc : r.body.extractLsb' 29 3 = 6) : r.read = .depart (.ofBits r.body) := by
  unfold RawFrame.read; rw [h, hk, hc]; rfl

theorem RawFrame.read_noCode (hc : r.body.extractLsb' 29 3 = 7) : r.read = .raw r := by
  unfold RawFrame.read; rw [h, hk, hc]; rfl

end Read

/-- Every frame that is no `raw` one is read back, whatever its fields and spare bits hold. -/
theorem Frame.read_content (f : Frame) (hraw : ∀ r, f ≠ .raw r) : f.content.read = f := by
  have hgood (kind : BitVec 2) (body : BitVec 32) := RawFrame.checked_good kind body
  cases f with
  | head b => exact ((RawFrame.checked 0 b.bits).read_head (hgood _ _) rfl).trans (congrArg _ b.ofBits_bits)
  | data b => exact ((RawFrame.checked 1 b.bits).read_data (hgood _ _) rfl).trans (congrArg _ b.ofBits_bits)
  | tail b => exact ((RawFrame.checked 2 b.bits).read_tail (hgood _ _) rfl).trans (congrArg _ b.ofBits_bits)
  | claim b =>
    obtain ⟨hcode, -⟩ := (b.bits_iff _).mp rfl
    exact ((RawFrame.checked 3 b.bits).read_claim (hgood _ _) rfl hcode).trans (congrArg _ b.ofBits_bits)
  | number b =>
    obtain ⟨hcode, -⟩ := (b.bits_iff _).mp rfl
    exact ((RawFrame.checked 3 b.bits).read_number (hgood _ _) rfl hcode).trans (congrArg _ b.ofBits_bits)
  | ringUp b =>
    obtain ⟨hcode, -⟩ := (b.bits_iff _).mp rfl
    exact ((RawFrame.checked 3 b.bits).read_ringUp (hgood _ _) rfl hcode).trans (congrArg _ b.ofBits_bits)
  | announce b =>
    obtain ⟨hcode, -⟩ := (b.bits_iff _).mp rfl
    exact ((RawFrame.checked 3 b.bits).read_announce (hgood _ _) rfl hcode).trans (congrArg _ b.ofBits_bits)
  | trigger b =>
    obtain ⟨hcode, -⟩ := (b.bits_iff _).mp rfl
    exact ((RawFrame.checked 3 b.bits).read_trigger (hgood _ _) rfl hcode).trans (congrArg _ b.ofBits_bits)
  | void b =>
    obtain ⟨hcode, -⟩ := (b.bits_iff _).mp rfl
    exact ((RawFrame.checked 3 b.bits).read_void (hgood _ _) rfl hcode).trans (congrArg _ b.ofBits_bits)
  | depart b =>
    obtain ⟨hcode, -⟩ := (b.bits_iff _).mp rfl
    exact ((RawFrame.checked 3 b.bits).read_depart (hgood _ _) rfl hcode).trans (congrArg _ b.ofBits_bits)
  | raw r => exact absurd rfl (hraw r)

theorem kind_cases (k : BitVec 2) : k = 0 ∨ k = 1 ∨ k = 2 ∨ k = 3 := by revert k; decide

theorem code_cases (c : BitVec 3) : c = 0 ∨ c = 1 ∨ c = 2 ∨ c = 3 ∨ c = 4 ∨ c = 5 ∨ c = 6 ∨ c = 7 := by revert c; decide

/-- A frame sent on as it was read has the content it arrived with (R8). -/
theorem RawFrame.content_read (r : RawFrame) : r.read.content = r := by
  cases h : r.bad with
  | true => rw [r.read_bad h]; rfl
  | false =>
    have hsent {kind : BitVec 2} {body : BitVec 32} (hk : r.kind = kind) (hb : body = r.body) :
        RawFrame.checked kind body = r := by rw [← hk, hb]; exact r.checked_of_good h
    obtain hk | hk | hk | hk := kind_cases r.kind
    · rw [r.read_head h hk]; exact hsent hk (HeadBody.bits_ofBits _)
    · rw [r.read_data h hk]; exact hsent hk (DataBody.bits_ofBits _)
    · rw [r.read_tail h hk]; exact hsent hk (TailBody.bits_ofBits _)
    obtain hc | hc | hc | hc | hc | hc | hc | hc := code_cases (r.body.extractLsb' 29 3)
    · rw [r.read_claim h hk hc]; exact hsent hk (ClaimBody.bits_ofBits _ hc)
    · rw [r.read_number h hk hc]; exact hsent hk (NumberBody.bits_ofBits _ hc)
    · rw [r.read_ringUp h hk hc]; exact hsent hk (RingUpBody.bits_ofBits _ hc)
    · rw [r.read_announce h hk hc]; exact hsent hk (AnnounceBody.bits_ofBits _ hc)
    · rw [r.read_trigger h hk hc]; exact hsent hk (TriggerBody.bits_ofBits _ hc)
    · rw [r.read_void h hk hc]; exact hsent hk (VoidBody.bits_ofBits _ hc)
    · rw [r.read_depart h hk hc]; exact hsent hk (DepartBody.bits_ofBits _ hc)
    · rw [r.read_noCode h hk hc]; rfl

/-! ### The bits on a link (R1, R184) -/

section Sequence
variable (r : RawFrame)

theorem RawFrame.sequence_length : r.sequence.length = 40 := by simp [RawFrame.sequence]

theorem RawFrame.sequence_get (i : Nat) (hi : i < 40) :
    r.sequence[i]? = some ((r.kind ++ r.body ++ r.check : BitVec 40).getMsbD i) := by
  simp [RawFrame.sequence, List.getElem?_range hi]

theorem RawFrame.sequence_kind (i : Nat) (hi : i < 2) : r.sequence[0 + i]? = some (r.kind.getMsbD i) := by
  rw [r.sequence_get _ (by omega), BitVec.getMsbD_append, BitVec.getMsbD_append]
  simp [show ¬34 ≤ i by omega, show ¬2 ≤ i by omega]

theorem RawFrame.sequence_body (i : Nat) (hi : i < 32) : r.sequence[2 + i]? = some (r.body.getMsbD i) := by
  rw [r.sequence_get _ (by omega), BitVec.getMsbD_append, BitVec.getMsbD_append]
  simp [show ¬34 ≤ 2 + i by omega]

theorem RawFrame.sequence_check (i : Nat) (hi : i < 6) : r.sequence[34 + i]? = some (r.check.getMsbD i) := by
  rw [r.sequence_get _ (by omega), BitVec.getMsbD_append]
  simp

end Sequence

/-- A number is made of its bits, most significant bit first. -/
theorem bitsOf_getMsbD {w : Nat} (x : BitVec w) : bitsOf ((List.range w).map x.getMsbD) = x := by
  suffices h : ∀ k ≤ w, bitsOf ((List.range k).map x.getMsbD) = x >>> (w - k) by simpa using h w le_rfl
  intro k
  induction k with
  | zero => intro _; exact (BitVec.ushiftRight_eq_zero (Nat.le_refl _)).symm
  | succ k ih =>
    intro hk
    have hbit : x.getLsbD (w - k - 1) = x.getMsbD k := by
      rw [BitVec.getMsbD, Nat.sub_sub, Nat.sub_sub, Nat.add_comm 1 k]
      simp [show k < w by omega]
    have hstep := BitVec.shiftRight_sub_one_eq_shiftConcat x (wn := w - k) (by omega)
    rw [← ih (by omega), hbit, Nat.sub_sub] at hstep
    rw [hstep, bitsOf, List.range_succ, List.map_append, List.foldl_append]
    rfl

/-- A part of a list of bits is the number whose bits stand there. -/
theorem bitsOf_part {w : Nat} (l : List Bool) (n : Nat) (x : BitVec w) (h : ∀ i, i < w → l[n + i]? = some (x.getMsbD i)) :
    bitsOf ((l.drop n).take w) = x := by
  have hpart : (l.drop n).take w = (List.range w).map x.getMsbD := by
    refine List.ext_getElem? fun i => ?_
    by_cases hi : i < w
    · simp [hi, h i hi]
    · simp [hi]
  rw [hpart, bitsOf_getMsbD]

/-- The content taken from a link is the one the bits were made of. -/
theorem RawFrame.ofSequence_sequence (r : RawFrame) : RawFrame.ofSequence r.sequence r.undecoded = r := by
  have hkind : bitsOf (r.sequence.take 2) = r.kind := bitsOf_part r.sequence 0 r.kind r.sequence_kind
  have hbody : bitsOf ((r.sequence.drop 2).take 32) = r.body := bitsOf_part r.sequence 2 r.body r.sequence_body
  have hcheck : bitsOf ((r.sequence.drop 34).take 6) = r.check := bitsOf_part r.sequence 34 r.check r.sequence_check
  rw [RawFrame.ofSequence, hkind, hbody, hcheck]

/-! ### The check (R184) -/

/-- The remainder after the first `k` coefficients of a dividend. -/
def checkAfter (d : BitVec 40) (k : Nat) : BitVec 6 := (List.range k).foldl (fun r i => checkStep r (d.getMsbD i)) 0

theorem checkAfter_succ (d : BitVec 40) (k : Nat) : checkAfter d (k + 1) = checkStep (checkAfter d k) (d.getMsbD k) := by
  rw [checkAfter, List.range_succ, List.foldl_append]
  rfl

/-- The first `k + 1` coefficients: the first `k` times x, and the next. -/
theorem coefficients_succ (d : BitVec 40) (k : Nat) (hk : k < 40) :
    d >>> (40 - (k + 1)) = ((d >>> (40 - k)) <<< 1) ^^^ (BitVec.ofBool (d.getMsbD k)).setWidth 40 := by
  refine BitVec.eq_of_getLsbD_eq fun i hi => ?_
  rcases Nat.eq_zero_or_pos i with rfl | hpos
  · simp [BitVec.getMsbD, hk, show 40 - (k + 1) = 39 - k by omega]
  · have hone : ¬i < 1 := by omega
    have hplace : 40 - k + (i - 1) = 40 - (k + 1) + i := by omega
    simp [hone, hi, hplace, hpos.ne']

/-- After `k` coefficients the division has a quotient of `k - 6` bits and the remainder (long division, R184). -/
theorem checkAfter_divides (d : BitVec 40) (k : Nat) (hk : k ≤ 40) : ∃ q : BitVec 40,
    d >>> (40 - k) = (q <<< 6) ^^^ (q <<< 1) ^^^ q ^^^ (checkAfter d k).setWidth 40 ∧
    (∀ i, k ≤ i + 6 → q.getLsbD i = false) ∧ ∀ i, k ≤ i → (checkAfter d k).getLsbD i = false := by
  induction k with
  | zero => exact ⟨0, by rw [BitVec.ushiftRight_eq_zero (Nat.le_refl _)]; simp [checkAfter], by simp, by simp [checkAfter]⟩
  | succ k ih =>
    obtain ⟨q, hdivides, hquotient, hremainder⟩ := ih (by omega)
    refine ⟨(q <<< 1) ^^^ (BitVec.ofBool ((checkAfter d k).getLsbD 5)).setWidth 40, ?_, fun i hi => ?_, fun i hi => ?_⟩
    · rw [coefficients_succ d k (by omega), checkAfter_succ]
      exact Machine.checkStep_divides q _ _ _ _ hdivides rfl
    · rcases Nat.eq_zero_or_pos i with rfl | hpos
      · rw [hremainder 5 (by omega)]; simp
      · simp [hpos.ne', hquotient (i - 1) (by omega)]
    · have hlow : i ≠ 0 := by omega
      rw [checkAfter_succ, Machine.checkStep_getLsbD, if_neg hlow]
      split
      · rw [hremainder 0 (by omega), hremainder 5 (by omega)]; rfl
      · rw [hremainder (i - 1) (by omega), Bool.and_false]

/-- The check is what a quotient of 34 bits leaves. -/
theorem frameCheck_divides (kind : BitVec 2) (body : BitVec 32) : ∃ q : BitVec 34, (kind ++ body ++ 0#6 : BitVec 40) =
    (q.setWidth 40 <<< 6) ^^^ (q.setWidth 40 <<< 1) ^^^ q.setWidth 40 ^^^ (frameCheck kind body).setWidth 40 := by
  obtain ⟨q, hdivides, hquotient, -⟩ := checkAfter_divides (kind ++ body ++ 0#6) 40 (Nat.le_refl _)
  have hwidth : (q.setWidth 34).setWidth 40 = q := by
    refine BitVec.eq_of_getLsbD_eq fun i hi => ?_
    by_cases hlow : i < 34
    · simp [hi, hlow]
    · simp [hlow, hquotient i (by omega)]
  refine ⟨q.setWidth 34, ?_⟩
  rw [hwidth]
  rw [Nat.sub_self, BitVec.ushiftRight_zero] at hdivides
  exact hdivides

/-! ### The receiver's judgment (R2, R3) -/

section Arrival
variable (o : Occasion) (r : RawFrame)

theorem RawFrame.arrival_unusable (h : r.read.unusable = true) : r.arrival o = .badFrameArrives o r := by
  unfold RawFrame.arrival; exact if_pos h

section Usable
variable (h : r.read.unusable = false)
include h

theorem RawFrame.arrival_head (b : HeadBody) (hf : r.read = .head b) : r.arrival o = .headArrives o b := by
  rw [hf] at h; unfold RawFrame.arrival; rw [hf]; exact if_neg (by simp [h])

theorem RawFrame.arrival_data (b : DataBody) (hf : r.read = .data b) : r.arrival o = .dataArrives o b := by
  rw [hf] at h; unfold RawFrame.arrival; rw [hf]; exact if_neg (by simp [h])

theorem RawFrame.arrival_tail (b : TailBody) (hf : r.read = .tail b) : r.arrival o = .tailArrives o b := by
  rw [hf] at h; unfold RawFrame.arrival; rw [hf]; exact if_neg (by simp [h])

theorem RawFrame.arrival_claim (b : ClaimBody) (hf : r.read = .claim b) : r.arrival o = .claimArrives o b := by
  rw [hf] at h; unfold RawFrame.arrival; rw [hf]; exact if_neg (by simp [h])

theorem RawFrame.arrival_number (b : NumberBody) (hf : r.read = .number b) : r.arrival o = .numberArrives o b := by
  rw [hf] at h; unfold RawFrame.arrival; rw [hf]; exact if_neg (by simp [h])

theorem RawFrame.arrival_ringUp (b : RingUpBody) (hf : r.read = .ringUp b) : r.arrival o = .ringUpArrives o b := by
  rw [hf] at h; unfold RawFrame.arrival; rw [hf]; exact if_neg (by simp [h])

theorem RawFrame.arrival_announce (b : AnnounceBody) (hf : r.read = .announce b) : r.arrival o = .announceArrives o b := by
  rw [hf] at h; unfold RawFrame.arrival; rw [hf]; exact if_neg (by simp [h])

theorem RawFrame.arrival_trigger (b : TriggerBody) (hf : r.read = .trigger b) : r.arrival o = .triggerArrives o b := by
  rw [hf] at h; unfold RawFrame.arrival; rw [hf]; exact if_neg (by simp [h])

theorem RawFrame.arrival_void (b : VoidBody) (hf : r.read = .void b) : r.arrival o = .voidArrives o b := by
  rw [hf] at h; unfold RawFrame.arrival; rw [hf]; exact if_neg (by simp [h])

theorem RawFrame.arrival_depart (b : DepartBody) (hf : r.read = .depart b) : r.arrival o = .departArrives o b := by
  rw [hf] at h; unfold RawFrame.arrival; rw [hf]; exact if_neg (by simp [h])

end Usable

/-- The arrival of any content is a well-formed command, at its moment. -/
theorem RawFrame.arrival_wellFormed : (r.arrival o).wellFormed = true ∧ (r.arrival o).occasion = o := by
  cases h : r.read.unusable with
  | true => rw [r.arrival_unusable o h]; exact ⟨h, rfl⟩
  | false =>
    have hfits (f : Frame) (hf : r.read = f) : (!f.unusable) = true := by rw [← hf, h]; rfl
    cases hf : r.read with
    | head b => rw [r.arrival_head o h b hf]; exact ⟨hfits _ hf, rfl⟩
    | data b => rw [r.arrival_data o h b hf]; exact ⟨hfits _ hf, rfl⟩
    | tail b => rw [r.arrival_tail o h b hf]; exact ⟨hfits _ hf, rfl⟩
    | claim b => rw [r.arrival_claim o h b hf]; exact ⟨hfits _ hf, rfl⟩
    | number b => rw [r.arrival_number o h b hf]; exact ⟨hfits _ hf, rfl⟩
    | ringUp b => rw [r.arrival_ringUp o h b hf]; exact ⟨hfits _ hf, rfl⟩
    | announce b => rw [r.arrival_announce o h b hf]; exact ⟨hfits _ hf, rfl⟩
    | trigger b => rw [r.arrival_trigger o h b hf]; exact ⟨hfits _ hf, rfl⟩
    | void b => rw [r.arrival_void o h b hf]; exact ⟨hfits _ hf, rfl⟩
    | depart b => rw [r.arrival_depart o h b hf]; exact ⟨hfits _ hf, rfl⟩
    | raw r' => simp [hf, Frame.unusable] at h

end Arrival

/-- Settles O5. -/
theorem framesReadBack : Obligations.FramesReadBack := by
  refine ⟨Frame.read_content, RawFrame.content_read, fun r => ⟨r.sequence_length, r.ofSequence_sequence,
    by simpa using r.sequence_kind, r.sequence_body, r.sequence_check⟩, frameCheck_divides, fun f hraw => ?sent, RawFrame.bad_iff,
    fun f kind body hkind hbody => ?fields, fun o r => ?arrival⟩
  case sent =>
    cases f with
    | raw r => exact absurd rfl (hraw r)
    | _ => exact ⟨rfl, rfl⟩
  case fields =>
    subst hkind hbody
    cases f with
    | head b => exact ⟨rfl, (b.bits_iff _).mp rfl⟩
    | data b => exact ⟨rfl, (b.bits_iff _).mp rfl⟩
    | tail b => exact ⟨rfl, (b.bits_iff _).mp rfl⟩
    | claim b => exact ⟨rfl, (b.bits_iff _).mp rfl⟩
    | number b => exact ⟨rfl, (b.bits_iff _).mp rfl⟩
    | ringUp b => exact ⟨rfl, (b.bits_iff _).mp rfl⟩
    | announce b => exact ⟨rfl, (b.bits_iff _).mp rfl⟩
    | trigger b => exact ⟨rfl, (b.bits_iff _).mp rfl⟩
    | void b => exact ⟨rfl, (b.bits_iff _).mp rfl⟩
    | depart b => exact ⟨rfl, (b.bits_iff _).mp rfl⟩
    | raw r => rfl
  case arrival =>
    obtain ⟨hfits, hmoment⟩ := r.arrival_wellFormed o
    exact ⟨hfits, hmoment, r.arrival_unusable o, fun h => ⟨r.arrival_head o h, r.arrival_data o h, r.arrival_tail o h,
      r.arrival_claim o h, r.arrival_number o h, r.arrival_ringUp o h, r.arrival_announce o h, r.arrival_trigger o h,
      r.arrival_void o h, r.arrival_depart o h⟩⟩

/-! ### Command records (11.5) -/

theorem twoBytes (high low : BitVec 8) : lowByte (high ++ low) = low ∧ highByte (high ++ low) = high :=
  ⟨BitVec.extractLsb'_append_eq_right, BitVec.extractLsb'_append_eq_left⟩

theorem halves_append (a : Word) : highHalf a ++ lowHalf a = a := (two_fields_iff (highHalf a) (lowHalf a) a).mpr ⟨rfl, rfl⟩

/-- The words of a record spell the command they were written for. -/
theorem HostCommand.ofWords_words (c : HostCommand) : HostCommand.ofWords c.code c.words = some c := by
  cases c with
  | configure a => exact congrArg (some ∘ HostCommand.configure) (halves_append a)
  | join => rfl
  | leave => rfl
  | send stream length a tag =>
    obtain ⟨hstream, hlength⟩ := twoBytes length stream
    show some (HostCommand.send (lowByte (length ++ stream)) (highByte (length ++ stream)) (highHalf a ++ lowHalf a) tag) = _
    rw [hstream, hlength, halves_append]
  | cancel tag => rfl
  | trigger group => exact congrArg (some ∘ HostCommand.trigger) (twoBytes 0 group).1
  | release ring n =>
    obtain ⟨hring, hn⟩ := twoBytes n ring
    show some (HostCommand.release (lowByte (n ++ ring)) (highByte (n ++ ring))) = _
    rw [hring, hn]
  | resume skip =>
    exact congrArg (some ∘ HostCommand.resume) (getLsbD_of_extractLsb' _ _ _ BitVec.extractLsb'_append_eq_right)
  | query subject => exact congrArg (some ∘ HostCommand.query) (twoBytes 0 subject).1

theorem wordCount_firstWord (code : BitVec 8) (count : BitVec 4) : wordCount (firstWord code count) = count.toNat :=
  congrArg BitVec.toNat BitVec.extractLsb'_append_eq_right

/-- A record begins with its code and the count of its words. -/
theorem HostCommand.words_first (c : HostCommand) : ∃ (count : BitVec 4) (rest : List Halfword),
    c.words = firstWord c.code count :: rest ∧ c.words.length = count.toNat ∧ codeCount c.code = some count.toNat := by
  cases c with
  | _ => exact ⟨_, _, rfl, rfl, rfl⟩

/-- Settles O6. -/
theorem commandRecordReadsBack : Obligations.CommandRecordReadsBack := by
  intro c
  obtain ⟨count, rest, hwords, hlength, hcount⟩ := c.words_first
  have hcode : wordCode (firstWord c.code count) = c.code := by
    unfold firstWord wordCode
    rw [BitVec.append_assoc]
    exact BitVec.extractLsb'_append_eq_left
  refine ⟨_, rest, hwords, hcode, ?_, ?_, c.ofWords_words⟩
  · rw [wordCount_firstWord, hcount]
  · rw [wordCount_firstWord, hlength]

end Sys2Proof

namespace Sys2Proof.Machine

/-! ### Halfwords in words (R147) -/

theorem HalfwordOrder.split_join (order : HalfwordOrder) (a b : Halfword) : order.split (order.join a b) = [a, b] := by
  cases order with
  | lowFirst =>
    show [(b ++ a).extractLsb' 0 16, (b ++ a).extractLsb' 16 16] = _
    rw [BitVec.extractLsb'_append_eq_right, BitVec.extractLsb'_append_eq_left]
  | highFirst =>
    show [(a ++ b).extractLsb' 16 16, (a ++ b).extractLsb' 0 16] = _
    rw [BitVec.extractLsb'_append_eq_right, BitVec.extractLsb'_append_eq_left]

theorem payloadWord_succ (order : HalfwordOrder) (x y : Halfword) (payload : List Halfword) (k : Nat) :
    payloadWord order (x :: y :: payload) (k + 1) = payloadWord order payload k := by
  unfold payloadWord
  rw [show 2 * (k + 1) = 2 * k + 1 + 1 by omega]
  rfl

/-- A payload assembled into words is read back, two halfwords at a time. -/
theorem payload_readBack (order : HalfwordOrder) : ∀ payload : List Halfword,
    (((List.range ((payload.length + 1) / 2)).map (payloadWord order payload)).flatMap order.split).take payload.length = payload
  | [] => rfl
  | [x] => by
    have hword : payloadWord order [x] 0 = order.join x 0 := rfl
    simp [hword, order.split_join]
  | x :: y :: payload => by
    have hwords : ((x :: y :: payload).length + 1) / 2 = (payload.length + 1) / 2 + 1 := by simp; omega
    have hfirst : payloadWord order (x :: y :: payload) 0 = order.join x y := rfl
    rw [hwords, List.range_succ_eq_map, List.map_cons, List.map_map, List.flatMap_cons, hfirst, order.split_join]
    have hrest : payloadWord order (x :: y :: payload) ∘ Nat.succ = payloadWord order payload :=
      funext fun k => payloadWord_succ order x y payload k
    rw [hrest]
    exact congrArg (x :: y :: ·) (payload_readBack order payload)

/-- Settles O7. -/
theorem halfwordsComeBack : Obligations.HalfwordsComeBack := by
  refine ⟨fun a b => ⟨?_, ?_, ?_, ?_⟩, HalfwordOrder.split_join, fun order payload length h => ?_⟩
  · exact BitVec.extractLsb'_append_eq_right
  · exact BitVec.extractLsb'_append_eq_left
  · exact BitVec.extractLsb'_append_eq_left
  · exact BitVec.extractLsb'_append_eq_right
  · rw [payloadWords, ← h]
    exact payload_readBack order payload

end Sys2Proof.Machine
end

section
/-! PROOF. The ring receiver: the moment a frame is judged (O21), and the modes that pass or discard
every frame (O23). -/

namespace Sys2Proof.Machine

/-! ### The output does not look at the receiver -/

/-- The same state with another record of the receiver. -/
def State.withReceiver (s : State) (r : Receiver) : State := { s with receiver := r }

section WithReceiver
variable (s : State) (r : Receiver)

theorem State.sendItem_withReceiver (i : Item) : (s.withReceiver r).sendItem i = (s.sendItem i).withReceiver r := by
  cases i with
  | arriving =>
    simp only [State.sendItem, State.sendWaiting, State.withReceiver]
    split <;> rfl
  | buffered =>
    simp only [State.sendItem, State.sendBypass, State.withReceiver]
    split <;> rfl
  | census =>
    simp only [State.sendItem, State.sendCensusFrame, State.withReceiver]
    split <;> rfl
  | recordFrame =>
    simp only [State.sendItem, State.sendRecordFrame, State.withReceiver]
    split
    · split <;> rfl
    · rfl
  | record =>
    simp only [State.sendItem, State.beginAttempt, State.withReceiver]
    split <;> rfl
  | trigger | announce | depart => rfl

theorem State.catchUp_withReceiver (t : Time) : ∀ (n : Nat) (s : State),
    (s.withReceiver r).catchUp t n = (s.catchUp t n).withReceiver r
  | 0, _ => rfl
  | n + 1, s => by
    by_cases hs : s.nextItem = none ∨ t ≤ s.boundary
    · rw [s.catchUp_stop t _ hs]
      exact (s.withReceiver r).catchUp_stop t _ hs
    · push Not at hs
      obtain ⟨i, hi⟩ := Option.ne_none_iff_exists'.mp hs.1
      rw [s.catchUp_send t n i hi hs.2, ← State.catchUp_withReceiver t n, ← s.sendItem_withReceiver]
      exact (s.withReceiver r).catchUp_send t n i hi hs.2

theorem State.reach_withReceiver (t : Time) : (s.withReceiver r).reach t = (s.reach t).withReceiver r := by
  have hcaught := State.catchUp_withReceiver r t (t - s.boundary) s
  unfold State.reach
  rw [show (s.withReceiver r).boundary = s.boundary from rfl, hcaught]
  rfl

theorem State.at_withReceiver (o : Occasion) : (s.withReceiver r).at o = (s.at o).withReceiver r := by
  unfold State.at
  rw [show (s.withReceiver r).reach o.time = (s.reach o.time).withReceiver r from s.reach_withReceiver r o.time]
  rfl

end WithReceiver

/-! ### The moment an arriving frame is judged (R1, R4, R19) -/

section Judged
variable (s : State) (o : Occasion) (silence : Option Time)

theorem State.flushWaiting_none (h : s.path.waiting = none) : s.flushWaiting = s := by
  unfold State.flushWaiting; rw [h]

theorem State.flushWaiting_some (f : Frame) (h : s.path.waiting = some f) : s.flushWaiting = { s with
    path := { s.path with waiting := none, output := some { frame := f, own := false, ends := s.boundary + 80 } }
    outside := { s.outside with ringOut := s.outside.ringOut ++ [{ frame := f, start := s.boundary }] } } := by
  unfold State.flushWaiting; rw [h]; rfl

theorem State.flushWaiting_withReceiver (r : Receiver) : (s.withReceiver r).flushWaiting = s.flushWaiting.withReceiver r := by
  cases h : s.path.waiting with
  | none => rw [s.flushWaiting_none h]; exact (s.withReceiver r).flushWaiting_none h
  | some f => rw [s.flushWaiting_some f h]; exact (s.withReceiver r).flushWaiting_some f h

/-- The moment at which a frame is judged: no earlier than one frame time after the one before it. -/
theorem State.judged_now : ((s.at o).reach s.receiver.nextFrame).now = max (max s.now o.time) s.receiver.nextFrame := by
  simp

theorem State.judged_flush : (s.at o).frameJudged silence =
    (((s.at o).reach s.receiver.nextFrame).flushWaiting).withReceiver { s.receiver with
      lossTimer := s.receiver.restarted (max (max s.now o.time) s.receiver.nextFrame) silence
      nextFrame := max (max s.now o.time) s.receiver.nextFrame + 80 } := by
  rw [← State.flushWaiting_withReceiver, ← s.judged_now o]
  have hreceiver : ((s.at o).reach s.receiver.nextFrame).receiver = s.receiver := by simp
  unfold State.frameJudged
  rw [s.at_receiver o]
  dsimp only
  rw [hreceiver]
  rfl

theorem State.judged_receiver : ((s.at o).frameJudged silence).receiver = { s.receiver with
    lossTimer := s.receiver.restarted (max (max s.now o.time) s.receiver.nextFrame) silence
    nextFrame := max (max s.now o.time) s.receiver.nextFrame + 80 } := by
  rw [s.judged_flush o silence]; rfl

theorem State.heard_receiver : (s.heard o).receiver = { s.receiver with
    lossTimer := some (max (max s.now o.time) s.receiver.nextFrame + 3200)
    nextFrame := max (max s.now o.time) s.receiver.nextFrame + 80 } := s.judged_receiver o (some 0)

end Judged

/-! ### The last decodable symbol of a bad frame (R2, R4) -/

section Silence
variable (r : RawFrame)

theorem silence_of_none_decodes (h : ∀ i, i < 40 → r.undecoded.getLsbD i = true) : r.silence = none := by
  have hnone : (List.range 40).find? (fun i => !r.undecoded.getLsbD i) = none := by
    rw [List.find?_eq_none]
    intro i hi
    simp [h i (List.mem_range.mp hi)]
  rw [RawFrame.silence, hnone]
  rfl

theorem silence_of_later_undecoded (i : Nat) (hi : i < 40) (hdecodes : r.undecoded.getLsbD i = false)
    (hlater : ∀ j, j < i → r.undecoded.getLsbD j = true) : r.silence = some (2 * i) := by
  have hfound : (List.range 40).find? (fun i => !r.undecoded.getLsbD i) = some i := by
    rw [List.find?_range_eq_some]
    exact ⟨by simp [hdecodes], List.mem_range.mpr hi, fun j hj => by simp [hlater j hj]⟩
  rw [RawFrame.silence, hfound]
  rfl

theorem restarted_later (receiver : Receiver) (now d : Time) (hd : d ≠ 0) : receiver.restarted now (some d) =
    some (max (receiver.lossTimer.getD 0) (now + 3200 - d)) := by
  unfold Receiver.restarted
  split
  next h => cases h
  next h => cases h; exact absurd rfl hd
  next h => cases h; rfl

/-- Every symbol of a good frame decodes. -/
theorem usable_decodes (h : r.read.unusable = false) : r.undecoded.getLsbD 0 = false := by
  have hgood : r.bad = false := by
    rw [Bool.eq_false_iff]
    intro hbad
    rw [r.read_bad hbad] at h
    cases h
  have hdecoded : r.undecoded = 0 := by
    by_contra hne
    rw [(r.bad_iff).mpr (.inl hne)] at hgood
    cases hgood
  simp [hdecoded]

end Silence

/-! ### What the arrival of 40 content bits is handled as -/

/-- The handling of a good frame. -/
def goodHandler : Frame → State → State
  | .head b => (·.byMode (.head b) (·.activeHead b))
  | .data b => (·.byMode (.data b) (·.activeData b))
  | .tail b => (·.byMode (.tail b) (·.activeTail b))
  | .claim b => (·.censusFrame (.claim b) (·.censusClaim b) (·.censusClaim b))
  | .number b => (·.censusFrame (.number b) (·.censusNumber b) id)
  | .ringUp b => (·.censusFrame (.ringUp b) (·.censusRingUp b) id)
  | .announce b => (·.byMode (.announce b) (·.activeAnnounce b))
  | .trigger b => (·.byMode (.trigger b) (·.activeTrigger b))
  | .void b => (·.byMode (.void b) (·.activeVoid b))
  | .depart b => (·.byMode (.depart b) (·.activeDepart b))
  | .raw r => (·.badFrame (.raw r))

section ArrivalOfBits
variable (r : RawFrame) (o : Occasion) (s : State)

theorem exec_arrival_unusable (h : r.read.unusable = true) :
    exec (r.arrival o) s = arrivalStep o r.silence (·.badFrame (.raw r)) s := by
  rw [r.arrival_unusable o h]; rfl

theorem exec_arrival_usable (h : r.read.unusable = false) :
    exec (r.arrival o) s = arrivalStep o r.silence (goodHandler r.read) s := by
  rw [silence_of_last_decodes r (usable_decodes r h)]
  cases hf : r.read with
  | head b => rw [r.arrival_head o h b hf]; rfl
  | data b => rw [r.arrival_data o h b hf]; rfl
  | tail b => rw [r.arrival_tail o h b hf]; rfl
  | claim b => rw [r.arrival_claim o h b hf]; rfl
  | number b => rw [r.arrival_number o h b hf]; rfl
  | ringUp b => rw [r.arrival_ringUp o h b hf]; rfl
  | announce b => rw [r.arrival_announce o h b hf]; rfl
  | trigger b => rw [r.arrival_trigger o h b hf]; rfl
  | void b => rw [r.arrival_void o h b hf]; rfl
  | depart b => rw [r.arrival_depart o h b hf]; rfl
  | raw r' => rw [hf] at h; cases h

/-- A controller whose link is DOWN hears no frame, but one that falls together with the link loss (R4, R48). -/
theorem exec_arrival_deaf (hup : s.receiver.up = false) (hroom : s.path.bypass.length ≤ 72)
    (hloss : s.receiver.lostAt ≠ some (max (max s.now o.time) s.receiver.nextFrame) ∨ r.undecoded.getLsbD 0 = true) :
    exec (r.arrival o) s = .next (s.at o) := by
  have hapart : (s.at o).endsAtLoss r.silence = false := by
    rcases hloss with hlost | hlast
    · have hapart : (s.receiver.lostAt == some (max (max s.now o.time) s.receiver.nextFrame)) = false := by simpa using hlost
      unfold State.endsAtLoss
      rw [s.at_receiver, s.at_now, hapart, Bool.and_false]
    · have hsilent : r.silence ≠ some 0 := by
        intro hzero
        obtain ⟨i, hfound, hi⟩ := Option.map_eq_some_iff.mp (show Option.map (bitTime * ·) _ = some 0 from hzero)
        obtain rfl : i = 0 := by simpa [bitTime] using hi
        have hzeroth := List.find?_some hfound
        rw [hlast] at hzeroth
        cases hzeroth
      simp [State.endsAtLoss, hsilent]
  have hanswer (handle : State → State) : arrivalStep o r.silence handle s = .next (s.at o) :=
    (arrivalStep_deaf o r.silence handle s (.inr ⟨hup, hapart⟩)).trans
      (withinBypass_next ((s.at_bypass_length o).trans hroom))
  cases h : r.read.unusable with
  | true => exact (exec_arrival_unusable r o s h).trans (hanswer _)
  | false => exact (exec_arrival_usable r o s h).trans (hanswer _)

end ArrivalOfBits

/-- Settles O21. -/
theorem arrivingFrameIsHeard : Obligations.ArrivingFrameIsHeard := by
  rintro s o m rfl
  refine ⟨_, rfl, s.judged_now o, fun hwaiting => ?_, fun f hwaiting => ?_,
    fun r => ⟨s.receiver.restarted (max (max s.now o.time) s.receiver.nextFrame) r.silence, ?_,
    fun hnone => ?_, fun hlast => ?_, fun i hi0 hi hdecodes hlater => ?_⟩, fun hup hroom r => exec_arrival_deaf r o s hup hroom⟩
  · rw [State.heard, s.judged_flush o, State.flushWaiting_none _ hwaiting]; rfl
  · rw [State.heard, s.judged_flush o, State.flushWaiting_some _ f hwaiting]; rfl
  · rw [s.heardRaw_heard o r, State.heardRaw, s.judged_receiver o]
  · rw [silence_of_none_decodes r hnone]; rfl
  · rw [silence_of_last_decodes r hlast]; rfl
  · rw [silence_of_later_undecoded r i hi hdecodes hlater, restarted_later _ _ _ (by simp [Time]; omega)]

/-! ### The modes that pass or discard every frame (R8, R9) -/

section Modes
variable (u : State) (f : Frame)

theorem State.byMode_transparent (act : State → State) (hf : f.unusable = false) (hmode : u.mode = .transparent) :
    u.byMode f act = u.forward f := by
  simp [State.byMode, hf, hmode]

theorem State.byMode_census (act : State → State) (hf : f.unusable = false) (hmode : u.mode = .census) :
    u.byMode f act = u := by
  simp [State.byMode, hf, hmode]

theorem State.censusFrame_transparent (judge after : State → State) (hf : f.unusable = false) (hmode : u.mode = .transparent)
    (hentry : f.isClaim = false ∨ u.member.station ≠ .isolated ∧ u.member.station ≠ .excluded) :
    u.censusFrame f judge after = u.forward f := by
  unfold State.censusFrame
  rw [hf, hmode, if_neg Bool.false_ne_true]
  refine if_neg ?_
  rintro ⟨hstation, hclaim⟩
  rcases hentry with hother | ⟨hisolated, hexcluded⟩
  · rw [hother] at hclaim; cases hclaim
  · exact hstation.elim hisolated hexcluded

theorem goodHandler_transparent (hf : f.unusable = false) (hmode : u.mode = .transparent)
    (hentry : (∀ b, f ≠ .claim b) ∨ u.member.station ≠ .isolated ∧ u.member.station ≠ .excluded) :
    goodHandler f u = u.forward f := by
  unfold goodHandler
  cases f with
  | claim b => exact u.censusFrame_transparent _ _ _ hf hmode (hentry.imp (fun h => absurd rfl (h b)) id)
  | number b => exact u.censusFrame_transparent _ _ _ hf hmode (.inl rfl)
  | ringUp b => exact u.censusFrame_transparent _ _ _ hf hmode (.inl rfl)
  | raw r => cases hf
  | _ => exact u.byMode_transparent _ _ hf hmode

theorem goodHandler_census (hf : f.unusable = false) (hmode : u.mode = .census) (hclaim : ∀ b, f ≠ .claim b)
    (hnumber : ∀ b, f ≠ .number b) (hringUp : ∀ b, f ≠ .ringUp b) : goodHandler f u = u := by
  unfold goodHandler
  cases f with
  | claim b => exact absurd rfl (hclaim b)
  | number b => exact absurd rfl (hnumber b)
  | ringUp b => exact absurd rfl (hringUp b)
  | raw r => cases hf
  | _ => exact u.byMode_census _ _ hf hmode

theorem State.badFrame_transparent (hmode : u.mode = .transparent) : u.badFrame f = u.forward f := by
  unfold State.badFrame; rw [hmode]

theorem State.badFrame_census (hmode : u.mode = .census) : u.badFrame f = u := by
  unfold State.badFrame; rw [hmode]

end Modes

/-- Settles O23. -/
theorem otherModesPassOrDiscard : Obligations.OtherModesPassOrDiscard := by
  refine ⟨fun s o r h hmode hentry => ?_, fun s o r h hstation hother => ?_⟩
  · have hplace : (s.heardRaw o r).path.bypass.length < 72 := (s.heardRaw_bypass_length o r).trans_lt h.2.2
    have hmode' : (s.heardRaw o r).mode = .transparent := by simpa using hmode
    cases hread : r.read.unusable with
    | true =>
      refine ⟨.raw r, rfl, ?_⟩
      rw [exec_arrival_unusable r o s hread, arrivalStep_receivingRaw o r _ s h, State.badFrame_transparent _ _ hmode']
      exact withinBypass_forward _ hplace
    | false =>
      refine ⟨r.read, r.content_read, ?_⟩
      have hfree : (∀ b, r.read ≠ .claim b) ∨ (s.heardRaw o r).member.station ≠ .isolated ∧
          (s.heardRaw o r).member.station ≠ .excluded := by
        rw [hread] at hentry
        rw [s.heardRaw_heard o r]
        simpa using hentry
      rw [exec_arrival_usable r o s hread, arrivalStep_receivingRaw o r _ s h, goodHandler_transparent _ _ hread hmode' hfree]
      exact withinBypass_forward _ hplace
  · have hplace : (s.heardRaw o r).path.bypass.length ≤ 72 := (s.heardRaw_bypass_length o r).trans h.2.2.le
    have hmode : (s.heardRaw o r).mode = .census := by simpa using s.mode_census hstation
    cases hread : r.read.unusable with
    | true =>
      rw [exec_arrival_unusable r o s hread, arrivalStep_receivingRaw o r _ s h, State.badFrame_census _ _ hmode]
      exact withinBypass_next hplace
    | false =>
      obtain hbad | ⟨hclaim, hnumber, hringUp⟩ := hother
      · rw [hread] at hbad; cases hbad
      rw [exec_arrival_usable r o s hread, arrivalStep_receivingRaw o r _ s h,
        goodHandler_census _ _ hread hmode hclaim hnumber hringUp]
      exact withinBypass_next hplace

end Sys2Proof.Machine
end

section
/-! PROOF. Fill and the truncation of an open record (O29), and link loss (O45). -/

namespace Sys2Proof.Machine

/-! ### The truncation of an open record (R15, R62, R92) -/

section Truncate
variable (s : State)

/-- Nothing is open that a truncation would end: it ends the input phase alone. -/
theorem State.truncate_idle (h : s.path.phase = .orphan ∨ s.path.phase = .forwarding ∧ s.filter.context = none ∨
    s.path.phase = .returning ∧ (s.send.context = .closed ∨ s.send.context = .openHeadless)) :
    s.truncate = s.setPhase .clear := by
  unfold State.truncate
  rcases h with h | ⟨h, hclosed⟩ | ⟨h, hclosed⟩
  · rw [h]; rfl
  · rw [h]
    show (s.setPhase .clear).filterTruncated = _
    unfold State.filterTruncated
    rw [show (s.setPhase .clear).filter.context = none from hclosed]
  · rw [h]
    show (s.setPhase .clear).returnTruncated = _
    unfold State.returnTruncated
    rcases hclosed with hclosed | hclosed <;>
      rw [show (s.setPhase .clear).send.context = _ from hclosed]

theorem State.truncate_stale (h : s.path.phase = .returning) (hstale : s.send.context = .openStale) :
    s.truncate = (s.setPhase .clear).setContext .closed := by
  unfold State.truncate
  rw [h]
  show (s.setPhase .clear).returnTruncated = _
  unfold State.returnTruncated
  rw [show (s.setPhase .clear).send.context = _ from hstale]

theorem State.truncate_current (h : s.path.phase = .returning) (hcurrent : s.send.context = .openCurrent) :
    s.truncate = ((s.setPhase .clear).setContext .closed).endWith .damaged 0 0 := by
  unfold State.truncate
  rw [h]
  show (s.setPhase .clear).returnTruncated = _
  unfold State.returnTruncated
  rw [show (s.setPhase .clear).send.context = _ from hcurrent]

theorem State.truncate_forwarding (c : RecordContext) (h : s.path.phase = .forwarding) (hopen : s.filter.context = some c) :
    s.truncate = (((s.setPhase .clear).giveBack c).closeContext).countDamaged := by
  unfold State.truncate
  rw [h]
  show (s.setPhase .clear).filterTruncated = _
  unfold State.filterTruncated
  rw [show (s.setPhase .clear).filter.context = some c from hopen]
  rfl

theorem State.truncate_phase : s.truncate.path.phase = .clear := by
  obtain ⟨_, _, _, _, _, _, _, hpath, e⟩ := s.truncate_frame
  rw [e, hpath]

theorem State.truncate_receiver : s.truncate.receiver = s.receiver := by
  obtain ⟨_, _, _, _, _, _, _, -, e⟩ := s.truncate_frame
  rw [e]

theorem State.truncate_now : s.truncate.now = s.now := by
  obtain ⟨_, _, _, _, _, _, _, -, e⟩ := s.truncate_frame
  rw [e]

theorem State.truncate_order : s.truncate.order = s.order := by
  obtain ⟨_, _, _, _, _, _, _, -, e⟩ := s.truncate_frame
  rw [e]

theorem State.truncate_resetPin : s.truncate.resetPin = s.resetPin := by
  obtain ⟨_, _, _, _, _, _, _, -, e⟩ := s.truncate_frame
  rw [e]

theorem State.truncate_waiting : s.truncate.path.waiting = s.path.waiting := by
  obtain ⟨_, _, _, _, _, _, _, hpath, e⟩ := s.truncate_frame
  rw [e, hpath]

theorem State.truncate_bypass : s.truncate.path.bypass = s.path.bypass := by
  obtain ⟨_, _, _, _, _, _, _, hpath, e⟩ := s.truncate_frame
  rw [e, hpath]

theorem State.truncate_mode : s.truncate.mode = s.mode := by
  unfold State.mode; rw [s.truncate_member]

end Truncate

/-! ### Fill (R1, R4, R15) -/

/-- The receiver has reported fill: the next frame is judged one frame time later or more. -/
def State.filled (s : State) : State :=
  { s.reach s.receiver.nextFrame with
    receiver := { s.receiver with nextFrame := max s.now s.receiver.nextFrame + 80 } }

theorem State.filled_at (s : State) (o : Occasion) : (s.at o).filled = { (s.at o).reach s.receiver.nextFrame with
    receiver := { s.receiver with nextFrame := max (max s.now o.time) s.receiver.nextFrame + 80 } } := by
  unfold State.filled
  rw [s.at_receiver o, s.at_now o]

theorem exec_fill (o : Occasion) (s : State) (h : s.resetPin = false) : exec (.fill o) s = .next (s.at o).fillReported :=
  exec_released (.fill o) s h

section Fill
variable (s : State)

theorem State.fillReported_down (h : s.receiver.up = false) : s.fillReported = s := by
  unfold State.fillReported
  rw [if_neg (by simp [h])]

theorem State.fillReported_up (h : s.receiver.up = true) : s.fillReported = s.filled.pathFill := by
  have hnow := s.reach_now s.receiver.nextFrame
  have hreceiver := s.reach_receiver s.receiver.nextFrame
  unfold State.fillReported State.filled
  rw [if_pos h, ← hnow]
  dsimp only
  rw [hreceiver]
  rfl

theorem State.pathFill_onRing (h : s.onRing = true) : s.pathFill = s.truncate := if_pos h

theorem State.pathFill_idle (h : s.onRing = false ∨ s.path.phase = .clear) : s.pathFill = s := by
  unfold State.pathFill
  split
  next hring =>
    rcases h with h | h
    · rw [h] at hring; cases hring
    · exact s.truncate_clear h
  next => rfl

end Fill

/-! ### A frame judged in a state that has just been heard -/

/-- Where a frame has just been heard and nothing waits, hearing it again changes nothing. -/
theorem State.heard_again (x : State) (o : Occasion) (htimer : x.receiver.lossTimer = some (x.now + 3200))
    (hnext : x.receiver.nextFrame = x.now + 80) (horder : x.order = o.order) (hmoment : o.time ≤ x.now)
    (hwaiting : x.path.waiting = none) :
    State.heard { x with receiver := { x.receiver with nextFrame := x.now } } o = x := by
  let y : State := { x with receiver := { x.receiver with nextFrame := x.now } }
  have hat : y.at o = y := by
    rw [y.at_stop o (.inr (hmoment.trans (Nat.le_max_left _ _)))]
    show ({ y with now := max x.now o.time, order := o.order } : State) = y
    rw [← horder, max_eq_left hmoment]
  have hreach : (y.at o).reach y.receiver.nextFrame = y := by
    rw [hat, y.reach_stop _ (.inr (Nat.le_max_left _ _))]
    show ({ y with now := max x.now x.now } : State) = y
    rw [max_self]
  show y.heard o = x
  rw [State.heard, y.judged_flush o, hreach, State.flushWaiting_none y hwaiting]
  have hnow : max (max y.now o.time) y.receiver.nextFrame = x.now := by
    show max (max x.now o.time) x.now = x.now
    rw [max_eq_left hmoment, max_self]
  rw [hnow]
  show ({ x with receiver := { x.receiver with lossTimer := some (x.now + 3200), nextFrame := x.now + 80 } } : State) = x
  rw [← htimer, ← hnext]

theorem arrivalStep_up (o : Occasion) (handle : State → State) (s : State) (hreset : s.resetPin = false)
    (hup : s.receiver.up = true) : arrivalStep o (some 0) handle s = withinBypass (handle (s.heard o)) := by
  simp [arrivalStep, State.live, hreset, State.receive, State.heard, hup]

/-! ### HEAD, ANNOUNCE and DEPART truncate an open record (R15) -/

section TruncatesFirst
variable (s : State)

theorem State.activeHead_truncate (b : HeadBody) : s.truncate.activeHead b = s.activeHead b := by
  unfold State.activeHead
  rw [s.truncate.truncate_clear s.truncate_phase]

theorem State.activeAnnounce_truncate (b : AnnounceBody) : s.truncate.activeAnnounce b = s.activeAnnounce b := by
  unfold State.activeAnnounce
  rw [s.truncate.truncate_clear s.truncate_phase]

theorem State.activeDepart_truncate (b : DepartBody) : s.truncate.activeDepart b = s.activeDepart b := by
  unfold State.activeDepart
  rw [s.truncate.truncate_clear s.truncate_phase]

/-- A frame handled in active mode by an act that truncates first is handled as in the truncated state. -/
theorem arrivalStep_truncated (o : Occasion) (f : Frame) (act : State → State) (hf : f.unusable = false)
    (hact : ∀ u : State, act u.truncate = act u) (y : State) (h : s.Receiving) (hmode : s.mode = .active)
    (hy : y.Receiving) (hmode' : y.mode = .active) (hheard : y.heard o = (s.heard o).truncate) :
    arrivalStep o (some 0) (·.byMode f act) s = arrivalStep o (some 0) (·.byMode f act) y := by
  rw [arrivalStep_receiving o _ s h, arrivalStep_receiving o _ y hy,
    State.byMode_active _ f act hf (by simpa using hmode), State.byMode_active _ f act hf (by simpa using hmode'), hheard, hact]

end TruncatesFirst

/-- The state in which a HEAD, an ANNOUNCE and a DEPART are handled inside an open record: the truncated one (R15). -/
theorem truncated_receives (s : State) (o : Occasion) (h : s.Receiving) (hmode : s.mode = .active) (x y : State)
    (hx : x = (s.heard o).truncate) (hy : y = { x with receiver := { x.receiver with nextFrame := x.now } }) :
    y.Receiving ∧ y.mode = .active ∧ y.path.phase = .clear ∧ y.heard o = x := by
  obtain ⟨hreset, hup, hroom⟩ := h
  have hreceiver : x.receiver = { s.receiver with lossTimer := some (x.now + 3200), nextFrame := x.now + 80 } := by
    rw [hx, State.truncate_receiver, State.truncate_now, s.heard_now o, s.heard_receiver o]
  have hpin : x.resetPin = false := by rw [hx, State.truncate_resetPin, s.heard_resetPin]; exact hreset
  have hlength : x.path.bypass.length < 72 := by
    rw [hx, State.truncate_bypass]; exact (s.heard_bypass_length o).trans_lt hroom
  have hmode' : x.mode = .active := by rw [hx, State.truncate_mode, s.heard_mode]; exact hmode
  have hphase : x.path.phase = .clear := by rw [hx]; exact State.truncate_phase _
  have horder : x.order = o.order := by rw [hx, State.truncate_order, s.heard_order]
  have hmoment : o.time ≤ x.now := by rw [hx, State.truncate_now, s.heard_now]; lia
  have hwaiting : x.path.waiting = none := by rw [hx, State.truncate_waiting, s.heard_waiting]
  have hagain := x.heard_again o (by rw [hreceiver]) (by rw [hreceiver]) horder hmoment hwaiting
  rw [← hy] at hagain
  refine ⟨⟨?_, ?_, ?_⟩, ?_, ?_, hagain⟩
  · rw [hy]; exact hpin
  · rw [hy]; show x.receiver.up = true; rw [hreceiver]; exact hup
  · rw [hy]; exact hlength
  · rw [hy]; exact hmode'
  · rw [hy]; exact hphase

/-- Settles O29. -/
theorem openRecordIsTruncated : Obligations.OpenRecordIsTruncated := by
  refine ⟨fun s o hreset => ⟨fun hdown => ⟨?fillDown, (s.at o).symbolHeard, s.at_symbolHeard o, fun helsewhere => ?elsewhere,
    fun hisolated hphase hinsertion hincoming => ?isolated⟩, fun hup => ⟨?symbolUp, ?fillUp⟩⟩, fun s o h hmode => ?frames⟩
  case fillDown => rw [exec_fill o s hreset, State.fillReported_down _ (by simpa using hdown)]
  case elsewhere =>
    rw [exec_fillSymbolArrives o s hreset, State.symbolArrives_elsewhere _ (by simpa using helsewhere)]
  case isolated =>
    have hmode := s.mode_isolated hisolated
    rw [exec_fillSymbolArrives o s hreset, State.symbolArrives_isolated _ (by simpa using hdown) (by simpa using hisolated)
      (by simpa using hphase) (s.at_insertion_none o (by simp [hmode]) hinsertion) (s.at_incoming_nil o hincoming)]
  case symbolUp =>
    rw [exec_fillSymbolArrives o s hreset, State.symbolArrives_up _ (by simpa using hup), s.at_symbolHeard o]
    dsimp only
    rw [hup]
  case fillUp =>
    have hfilled := s.filled_at o
    have hfill : exec (.fill o) s = .next (s.at o).filled.pathFill := by
      rw [exec_fill o s hreset, State.fillReported_up _ (by simpa using hup)]
    have hkept : (s.at o).filled.mode = s.mode ∧ (s.at o).filled.path.phase = s.path.phase ∧ (s.at o).filled.filter = s.filter ∧
        (s.at o).filled.send.context = s.send.context ∧ (s.at o).filled.delivery = s.delivery ∧
        (s.at o).filled.counters = s.counters := by
      rw [hfilled]; simp [State.mode]
    obtain ⟨hmode, hphase, hfilter, hcontext, hdelivery, hcounters⟩ := hkept
    rw [hfill, ← hmode, ← hphase, ← hfilter, ← hcontext, ← hdelivery, ← hcounters]
    refine ⟨(s.at o).filled, (s.at o).filled.setPhase .clear, hfilled, rfl, ?_⟩
    generalize (s.at o).filled = t
    refine ⟨fun hidle => ?_, fun hactive => ?_⟩
    · rw [t.pathFill_idle (hidle.imp_left fun hmode => by simp [State.onRing, hmode])]
    rw [t.pathFill_onRing (by simp [State.onRing, hactive])]
    refine ⟨rfl, fun hidle => ?_, fun hreturning hstale => ?_, fun hreturning hcurrent hflight => ?_,
      fun c hforwarding hopen => ⟨fun hverdict => ?_, fun older e hverdict hstore hfilling => ?_⟩⟩
    · rw [t.truncate_idle hidle]
    · rw [t.truncate_stale hreturning hstale]; rfl
    · rw [t.truncate_current hreturning hcurrent, State.endWith_inFlight _ _ _ _ (by exact hflight)]; rfl
    · rw [t.truncate_forwarding c hforwarding hopen, State.giveBack_unreserved _ c hverdict]; rfl
    · rw [t.truncate_forwarding c hforwarding hopen, State.giveBack_reserved _ c hverdict,
        State.dropFilling_append _ older e (by exact hstore) hfilling]
      rfl
  case frames =>
    obtain ⟨hy, hmode', hphase, hagain⟩ := truncated_receives s o h hmode _ _ rfl rfl
    refine ⟨_, _, rfl, rfl, hy, hmode', hphase, hagain, fun b hb => ?_, fun b hb => ?_, fun b hb => ?_⟩
    · rw [exec_headArrives, exec_headArrives]
      exact arrivalStep_truncated s o _ _ hb (·.activeHead_truncate b) _ h hmode hy hmode' hagain
    · rw [exec_announceArrives, exec_announceArrives]
      exact arrivalStep_truncated s o _ _ hb (·.activeAnnounce_truncate b) _ h hmode hy hmode' hagain
    · rw [exec_departArrives, exec_departArrives]
      exact arrivalStep_truncated s o _ _ hb (·.activeDepart_truncate b) _ h hmode hy hmode' hagain

/-! ### Link loss (R4, R48) -/

section LinkLost
variable (s : State)

/-- The link is DOWN and the loss counted. -/
def State.linkDown (s : State) : State :=
  { s with
    receiver := { s.receiver with up := false, lossTimer := none, lostAt := some s.now }
    counters := { s.counters with linkLosses := saturatingInc s.counters.linkLosses } }

theorem State.linkLost_offRing (first : Bool) (h : s.onRing = false) : s.linkLost first = s.linkDown := by
  have hpath : s.linkDown.pathFill = s.linkDown := if_neg (by rw [show s.linkDown.onRing = s.onRing from rfl, h]; decide)
  have hmember : s.linkDown.memberLinkLoss = s.linkDown :=
    if_neg (by rw [show s.linkDown.onRing = s.onRing from rfl, h]; decide)
  cases first with
  | true => show s.linkDown.pathFill.memberLinkLoss = _; rw [hpath, hmember]
  | false => show s.linkDown.memberLinkLoss.pathFill = _; rw [hmember, hpath]

variable (hring : s.onRing = true)
include hring

theorem State.linkLost_truncationFirst : s.linkLost true = s.linkDown.truncate.enterCensus .linkLoss := by
  show s.linkDown.pathFill.memberLinkLoss = _
  rw [s.linkDown.pathFill_onRing hring]
  exact if_pos (by rw [State.truncate_onRing]; exact hring)

/-- The station is off the ring when the forwarding path takes a link loss second, so that nothing is truncated. -/
theorem State.linkLost_censusFirst : s.linkLost false = s.linkDown.enterCensus .linkLoss := by
  have hmember : s.linkDown.memberLinkLoss = s.linkDown.enterCensus .linkLoss := if_pos hring
  show s.linkDown.memberLinkLoss.pathFill = _
  rw [hmember]
  exact State.pathFill_idle _ (.inl (State.onRing_census _ (s.linkDown.enterCensus_station _)))

end LinkLost

/-! ### A frame that falls together with the link loss (R48) -/

/-- What an arriving frame answers, and that its last symbol decodes but in a bad frame. -/
theorem exec_arrivalStep (c : Instr) (h : c.isArrival = true)
    (hlast : ∀ o r, c = .badFrameArrives o r → r.undecoded.getLsbD 0 = false) :
    ∃ handle, ∀ s, exec c s = arrivalStep c.occasion (some 0) handle s := by
  cases c with
  | badFrameArrives o r =>
    refine ⟨(·.badFrame (.raw r)), fun s => ?_⟩
    rw [exec_badFrameArrives, silence_of_last_decodes r (hlast o r rfl)]
    rfl
  | headArrives o b => exact ⟨goodHandler (.head b), fun _ => rfl⟩
  | dataArrives o b => exact ⟨goodHandler (.data b), fun _ => rfl⟩
  | tailArrives o b => exact ⟨goodHandler (.tail b), fun _ => rfl⟩
  | claimArrives o b => exact ⟨goodHandler (.claim b), fun _ => rfl⟩
  | numberArrives o b => exact ⟨goodHandler (.number b), fun _ => rfl⟩
  | ringUpArrives o b => exact ⟨goodHandler (.ringUp b), fun _ => rfl⟩
  | announceArrives o b => exact ⟨goodHandler (.announce b), fun _ => rfl⟩
  | triggerArrives o b => exact ⟨goodHandler (.trigger b), fun _ => rfl⟩
  | voidArrives o b => exact ⟨goodHandler (.void b), fun _ => rfl⟩
  | departArrives o b => exact ⟨goodHandler (.depart b), fun _ => rfl⟩
  | _ => cases h

section AtLoss
variable (s : State) (o : Occasion)

/-- The link is UP again. -/
def Receiver.restored (r : Receiver) : Receiver := { r with up := true, lostAt := none }

theorem State.heard_restored : (s.withReceiver s.receiver.restored).heard o =
    (s.heard o).withReceiver (s.heard o).receiver.restored := by
  have hjudged := s.judged_flush o (some 0)
  have hreceiver := s.heard_receiver o
  have hreach : ((s.withReceiver s.receiver.restored).at o).reach s.receiver.nextFrame =
      ((s.at o).reach s.receiver.nextFrame).withReceiver s.receiver.restored := by
    rw [s.at_withReceiver, State.reach_withReceiver]
  rw [hreceiver, State.heard, State.heard, hjudged, State.judged_flush]
  rw [show (s.withReceiver s.receiver.restored).receiver.nextFrame = s.receiver.nextFrame from rfl, hreach,
    State.flushWaiting_withReceiver]
  rfl

theorem State.symbolHeard_heard : (s.heard o).symbolHeard = (s.heard o).withReceiver (s.heard o).receiver.restored := by
  have htimer : (s.heard o).receiver.lossTimer = some ((s.heard o).now + 3200) := by
    rw [s.heard_receiver o, s.heard_now o]
  unfold State.symbolHeard State.withReceiver Receiver.restored
  rw [htimer]

end AtLoss

section AtLossIsolated
variable (s : State) (o : Occasion)

theorem State.heard_insertion_none (hmode : s.mode ≠ .active) (h : s.path.insertion = none) :
    (s.heard o).path.insertion = none := by
  obtain ⟨_, _, rfl, rfl, -, -, -, -, e⟩ := s.judged_path o (some 0)
  rw [State.heard, e]
  exact State.reach_insertion_none _ _ (by simpa using hmode) (s.at_insertion_none o hmode h)

theorem State.heard_incoming_nil (h : s.send.incoming = []) : (s.heard o).send.incoming = [] := by
  obtain ⟨_, _, _, -, e⟩ := s.heard_eq o
  rw [e]
  exact State.reach_incoming_nil _ _ (s.at_incoming_nil o h)

/-- After the census entry of a link-up the frame is heard again in the state that it has left. -/
theorem State.restored_again (x y : State) (hx : x = ((s.heard o).withReceiver (s.heard o).receiver.restored).censusEntered)
    (hy : y = { x with receiver := { x.receiver with nextFrame := x.now } }) :
    y.heard o = x ∧ y.receiver.up = true ∧ y.resetPin = s.resetPin := by
  have hreceiver := s.heard_receiver o
  rw [← s.heard_now o] at hreceiver
  have horder := s.heard_order o
  have hwaiting := s.heard_waiting o
  have hpin := s.heard_resetPin o
  have hmoment : o.time ≤ (s.heard o).now := by rw [s.heard_now o]; lia
  generalize s.heard o = t at *
  subst hx hy
  refine ⟨State.heard_again _ o ?_ ?_ horder hmoment hwaiting, rfl, hpin⟩
  · show t.receiver.lossTimer = some (t.now + 3200)
    rw [hreceiver]
  · show t.receiver.nextFrame = t.now + 80
    rw [hreceiver]

end AtLossIsolated

/-! ### What a census entry by link loss leaves to the frame that falls together with it -/

section Counters
variable (s : State)

theorem State.afterOutcome_censusEntries (status : SendStatus) :
    (s.afterOutcome status).counters.censusEntries = s.counters.censusEntries := by
  have hcompleted (status : SendStatus) : (s.completeHead status).counters = s.counters := by
    obtain ⟨_, _, _, e⟩ := s.completeHead_frame status
    rw [e]
  unfold State.afterOutcome
  split
  · rw [hcompleted]
  · split
    · rw [hcompleted]
    · split
      · rfl
      · rw [hcompleted]

theorem State.endWith_censusEntries (status : SendStatus) (accept held : BitVec 5) :
    (s.endWith status accept held).counters.censusEntries = s.counters.censusEntries := by
  unfold State.endWith
  split
  · exact State.afterOutcome_censusEntries _ _
  · rfl

theorem State.truncate_censusEntries : s.truncate.counters.censusEntries = s.counters.censusEntries := by
  cases hphase : s.path.phase with
  | clear => rw [s.truncate_clear hphase]
  | orphan => rw [s.truncate_idle (.inl hphase)]; rfl
  | forwarding =>
    cases hopen : s.filter.context with
    | none => rw [s.truncate_idle (.inr (.inl ⟨hphase, hopen⟩))]; rfl
    | some c =>
      obtain ⟨_, e⟩ := (s.setPhase .clear).giveBack_frame c
      rw [s.truncate_forwarding c hphase hopen, e]
      rfl
  | returning =>
    cases hcontext : s.send.context with
    | closed => rw [s.truncate_idle (.inr (.inr ⟨hphase, .inl hcontext⟩))]; rfl
    | openHeadless => rw [s.truncate_idle (.inr (.inr ⟨hphase, .inr hcontext⟩))]; rfl
    | openStale => rw [s.truncate_stale hphase hcontext]; rfl
    | openCurrent =>
      rw [s.truncate_current hphase hcontext]
      exact State.endWith_censusEntries _ _ _ _

variable (hoff : s.onRing = false)
include hoff

theorem State.clashForward_counters (f : Frame) : (s.markClash.forward f).counters = s.counters := by
  obtain ⟨_, _, e⟩ := s.markClash.forward_frame f
  rw [e]
  show (State.enterBarred { s with member := { s.member with numberSent := none } }).counters = s.counters
  rw [State.enterBarred_offRing _ (by exact hoff)]
  rfl

theorem State.judgeElection_counters (b : ClaimBody) : (s.judgeElection b).counters = s.counters := by
  unfold State.judgeElection
  split
  · obtain ⟨_, _, e⟩ := State.cutThrough_frame
      { s.withdrawCensusFrame with member := { s.member with sub := some .deferred } } (.claim b)
    rw [e]
    rfl
  · split
    · rfl
    · split
      · rfl
      · exact s.clashForward_counters hoff _

theorem State.censusClaim_counters (b : ClaimBody) : (s.censusClaim b).counters = s.counters := by
  have hrestarted : (s.startAttempt.judgeElection b).counters = s.counters :=
    s.startAttempt.judgeElection_counters hoff b
  unfold State.censusClaim
  split
  · obtain ⟨_, _, e⟩ := s.cutThrough_frame (.claim b)
    rw [e]
  · split
    · exact s.judgeElection_counters hoff b
    · exact s.judgeElection_counters hoff b
    · exact hrestarted
    · split
      · exact s.clashForward_counters hoff _
      · exact hrestarted
    · split
      · exact s.clashForward_counters hoff _
      · exact hrestarted
    · rfl

end Counters

/-- What a link loss leaves of a station in RUN: the receiver, the clock, a new attempt in CLAIMING and one census entry. -/
structure State.LostInRun (s v : State) : Prop where
  resetPin : v.resetPin = s.resetPin
  receiver : v.receiver = s.linkDown.receiver
  now      : v.now = s.now
  station  : v.member.station = .census
  sub      : v.member.sub = some .claiming
  bypass   : v.path.bypass = []
  entries  : v.counters.censusEntries = saturatingInc s.counters.censusEntries

/-- The census entry of a station in RUN. -/
theorem State.enterCensus_run (s u : State) (cause : StateCause) (hstation : u.member.station = .run)
    (hreset : u.resetPin = s.resetPin) (hreceiver : u.receiver = s.linkDown.receiver) (hnow : u.now = s.now)
    (hentries : u.counters.censusEntries = s.counters.censusEntries) : s.LostInRun (u.enterCensus cause) := by
  have hring : u.onRing = true := u.onRing_iff.mpr (.inl hstation)
  have hstarted : u.censusStarted = u.censusLeft.startAttempt := if_neg (by simp [hstation])
  obtain ⟨_, _, _, _, e⟩ := u.censusStarted.ringLeft_frame true (some cause)
  refine ⟨?_, ?_, ?_, u.enterCensus_station cause, ?_, u.enterCensus_bypass cause, ?_⟩
  · rw [u.enterCensus_onRing hring, e, hstarted]; exact hreset
  · rw [u.enterCensus_onRing hring, e, hstarted]; exact hreceiver
  · rw [u.enterCensus_onRing hring, e, hstarted]; exact hnow
  · rw [u.enterCensus_onRing hring, e, hstarted]; rfl
  · rw [u.enterCensus_onRing hring, e, hstarted]; exact congrArg saturatingInc hentries

theorem State.linkLost_run (s : State) (first : Bool) (hstation : s.member.station = .run) :
    s.LostInRun (s.linkLost first) := by
  have hring : s.onRing = true := s.onRing_iff.mpr (.inl hstation)
  cases first with
  | false =>
    rw [s.linkLost_censusFirst hring]
    exact s.enterCensus_run s.linkDown _ hstation rfl rfl rfl rfl
  | true =>
    rw [s.linkLost_truncationFirst hring]
    exact s.enterCensus_run s.linkDown.truncate _ (by rw [State.truncate_member]; exact hstation)
      (State.truncate_resetPin _) (State.truncate_receiver _) (State.truncate_now _) (State.truncate_censusEntries _)

section TogetherWithLoss
variable (s : State) (c : Instr) (hreset : s.resetPin = false) (hdown : s.receiver.up = false)
  (hlost : s.receiver.lostAt = some (max (max s.now c.occasion.time) s.receiver.nextFrame)) (hc : c.isArrival = true)
  (hlast : ∀ o r, c = .badFrameArrives o r → r.undecoded.getLsbD 0 = false)
include hreset hdown hlost hc hlast

/-- Outside ISOLATED the frame is judged as if the link had been UP (R48). -/
theorem exec_atLoss_elsewhere (helsewhere : s.member.station ≠ .isolated) :
    exec c s = exec c (s.withReceiver s.receiver.restored) := by
  obtain ⟨handle, hexec⟩ := exec_arrivalStep c hc hlast
  rw [hexec, hexec, arrivalStep_atLoss _ _ s hreset hdown hlost,
    arrivalStep_up _ _ (s.withReceiver s.receiver.restored) hreset rfl, s.heard_restored,
    State.symbolArrives_elsewhere _ (by simpa using helsewhere), s.symbolHeard_heard]

theorem exec_atLoss_isolated (hstation : s.member.station = .isolated) (hphase : s.path.phase = .clear)
    (hinsertion : s.path.insertion = none) (hincoming : s.send.incoming = []) (x y : State)
    (hx : x = ((s.heard c.occasion).withReceiver (s.heard c.occasion).receiver.restored).censusEntered)
    (hy : y = { x with receiver := { x.receiver with nextFrame := x.now } }) :
    y.heard c.occasion = x ∧ exec c s = exec c y := by
  obtain ⟨hagain, hup, hpin⟩ := s.restored_again c.occasion x y hx hy
  obtain ⟨handle, hexec⟩ := exec_arrivalStep c hc hlast
  refine ⟨hagain, ?_⟩
  have hmode := s.mode_isolated hstation
  rw [hexec, hexec, arrivalStep_atLoss _ _ s hreset hdown hlost, arrivalStep_up _ _ y (hpin.trans hreset) hup, hagain, hx,
    State.symbolArrives_isolated _ (by simpa using hdown) (by simpa using hstation) (by simpa using hphase)
      (s.heard_insertion_none _ (by simp [hmode]) hinsertion) (s.heard_incoming_nil _ hincoming), s.symbolHeard_heard]

end TogetherWithLoss

/-- Settles O45. -/
theorem linkLossIsCounted : Obligations.LinkLossIsCounted := by
  refine ⟨fun s o t first hreset ht => ⟨(s.expired o t).linkDown, ?down, fun hmode => ?offRing, fun hmode => ⟨?truncated,
    ?entered⟩⟩, fun s c hreset hdown hlost hc hlast => ⟨exec_atLoss_elsewhere s c hreset hdown hlost hc hlast,
      fun hstation hphase hinsertion hincoming => ⟨_, _, rfl, rfl,
        exec_atLoss_isolated s c hreset hdown hlost hc hlast hstation hphase hinsertion hincoming _ _ rfl rfl⟩⟩,
    fun s v o o' t first b hreset ht hrun hexec hmoment hnext hmark => ?together⟩
  case down =>
    unfold State.linkDown
    rw [s.expired_receiver o t, s.expired_counters o t]
  case offRing => rw [exec_linkLoss o s t hreset first ht, State.linkLost_offRing _ _ (by simp [State.onRing, hmode])]
  case truncated => rw [exec_linkLoss o s t hreset true ht, State.linkLost_truncationFirst _ (by simp [State.onRing, hmode])]
  case entered => rw [exec_linkLoss o s t hreset false ht, State.linkLost_censusFirst _ (by simp [State.onRing, hmode])]
  case together =>
    have hv : v = (s.expired o t).linkLost first := by
      rw [exec_linkLoss o s t hreset first ht] at hexec
      injection hexec with hv
      exact hv.symm
    have hleft := (s.expired o t).linkLost_run first (by simpa using hrun)
    rw [← hv] at hleft
    have hdown : v.receiver.up = false := by rw [hleft.receiver]; rfl
    have hpin : v.resetPin = false := by rw [hleft.resetPin]; simpa using hreset
    have hlost : v.receiver.lostAt = some (max (max v.now o'.time) v.receiver.nextFrame) := by
      rw [max_eq_left hmoment, max_eq_left hnext, hleft.now, hleft.receiver]
      rfl
    have hsame : exec (.claimArrives o' b) v = exec (.claimArrives o' b) (v.withReceiver v.receiver.restored) :=
      exec_atLoss_elsewhere v (.claimArrives o' b) hpin hdown hlost rfl (fun _ _ h => by cases h)
        (by rw [hleft.station]; decide)
    have hreceiving : (v.withReceiver v.receiver.restored).Receiving :=
      ⟨hpin, rfl, by show v.path.bypass.length < 72; rw [hleft.bypass]; decide⟩
    refine ⟨v.withReceiver v.receiver.restored, State.censusClaim ((v.withReceiver v.receiver.restored).heard o') b, rfl,
      hreceiving, hleft.station, hleft.sub, hsame, ?_, ?_⟩
    · have hroom := (State.Adds.censusClaim ((v.withReceiver v.receiver.restored).heard o') b).bypass
      have hheard := State.heard_bypass_length (v.withReceiver v.receiver.restored) o'
      have hempty : (v.withReceiver v.receiver.restored).path.bypass.length = 0 := by
        show v.path.bypass.length = 0
        rw [hleft.bypass]; rfl
      rw [hsame, exec_claimArrives_census o' b _ hreceiving hleft.station hmark]
      exact withinBypass_next (by omega)
    · have hoff : ((v.withReceiver v.receiver.restored).heard o').onRing = false :=
        State.onRing_census _ ((State.heard_member_station _ o').trans hleft.station)
      rw [State.censusClaim_counters _ hoff b, State.heard_counters]
      exact hleft.entries.trans (by rw [s.expired_counters o t])

end Sys2Proof.Machine
end

section
/-! PROOF. A command record written to COMMAND word by word (O12): the judgment of a command does not look at COMMAND STATUS,
so what the words before the last leave there does not matter. -/

namespace Sys2Proof.Machine

/-! ### COMMAND STATUS does not enter a judgment (R152, R155) -/

section SetStatus
variable (s : State) (v : CommandValue) (code : BitVec 8) (n : Nat)

theorem State.postAll_setStatus (es : List Event) : (s.setStatus v code n).postAll es = (s.postAll es).setStatus v code n := by
  induction es generalizing s with
  | nil => rfl
  | cons e es ih => exact ih (s.post e)

theorem State.adoptHead_setStatus : (s.setStatus v code n).adoptHead = s.adoptHead.setStatus v code n := by
  unfold State.adoptHead
  rw [s.setStatus_send v code n]
  split
  · rfl
  · split <;> rfl

theorem State.nextHead_setStatus : (s.setStatus v code n).nextHead = s.nextHead.setStatus v code n :=
  State.adoptHead_setStatus { s with send := s.send.dropHead } v code n

theorem State.cancelSends_setStatus (tag : Halfword) :
    (s.setStatus v code n).cancelSends tag = (s.cancelSends tag).setStatus v code n := by
  unfold State.cancelSends
  rw [s.setStatus_send v code n]
  split
  · rfl
  · dsimp only
    split
    · split
      · refine Eq.symm ((State.postAll_setStatus _ v code n _).symm.trans (congrArg (State.postAll · _) ?_))
        exact (State.nextHead_setStatus _ v code n).symm
      · exact Eq.symm (State.postAll_setStatus _ v code n _).symm
    · exact Eq.symm (State.postAll_setStatus _ v code n _).symm

theorem State.enqueue_setStatus (e : SendEntry) : (s.setStatus v code n).enqueue e = (s.enqueue e).setStatus v code n := by
  unfold State.enqueue
  rw [s.setStatus_send v code n]
  dsimp only
  split
  · exact Eq.symm (State.adoptHead_setStatus _ v code n).symm
  · rfl

theorem State.requestPhase_setStatus (phase : Phase) (ring : BitVec 2) (slot : Nat) (length : BitVec 7) :
    (s.setStatus v code n).requestPhase phase ring slot length = (s.requestPhase phase ring slot length).setStatus v code n := by
  cases phase with
  | body | header1 | header0 => rfl

theorem State.beginDelivery_setStatus : (s.setStatus v code n).beginDelivery = s.beginDelivery.setStatus v code n := by
  unfold State.beginDelivery
  rw [s.setStatus_delivery v code n]
  split
  · split
    · exact Eq.symm (State.requestPhase_setStatus _ v code n _ _ _ _).symm
    · rfl
  · rfl

theorem State.skipDelivery_setStatus : (s.setStatus v code n).skipDelivery = s.skipDelivery.setStatus v code n := by
  unfold State.skipDelivery
  rw [s.setStatus_delivery v code n]
  split
  · exact Eq.symm (State.beginDelivery_setStatus _ v code n).symm
  · rfl

theorem State.enterReport_setStatus (subject : Subject) :
    (s.setStatus v code n).enterReport subject = (s.enterReport subject).setStatus v code n := by
  cases subject with
  | counters | roster | ring | queues => rfl

theorem reportContents_setStatus (subject : Subject) :
    reportContents subject (s.setStatus v code n) = reportContents subject s := by
  cases subject with
  | counters | roster | ring | queues => rfl

/-- A judgment that COMMAND STATUS does not enter. -/
def State.JudgedAlike (s : State) (v : CommandValue) (code : BitVec 8) (n : Nat) (judge : State → CommandValue × State) : Prop :=
  judge (s.setStatus v code n) = ((judge s).1, (judge s).2.setStatus v code n)

theorem State.judgeConfigure_alike (a : Word) : s.JudgedAlike v code n (·.judgeConfigure a) := by
  unfold State.JudgedAlike State.judgeConfigure
  dsimp only
  rw [s.setStatus_member v code n, s.setStatus_host v code n]
  split
  · rfl
  · split
    · rfl
    · split <;> rfl

theorem State.judgeSend_alike (stream length : BitVec 8) (a : Word) (tag : Halfword) :
    s.JudgedAlike v code n (·.judgeSend stream length a tag) := by
  unfold State.JudgedAlike State.judgeSend
  dsimp only
  rw [s.setStatus_member v code n, s.setStatus_send v code n, s.enqueue_setStatus v code n]
  split
  case h_5 | h_6 | h_7 | h_8 =>
    split
    · rfl
    · split <;> rfl
  all_goals rfl

theorem State.judgeCancel_alike (tag : Halfword) : s.JudgedAlike v code n (·.judgeCancel tag) := by
  unfold State.JudgedAlike State.judgeCancel
  dsimp only
  rw [s.setStatus_send v code n, s.cancelSends_setStatus v code n]
  split <;> rfl

theorem State.judgeTrigger_alike (group : BitVec 8) : s.JudgedAlike v code n (·.judgeTrigger group) := by
  unfold State.JudgedAlike State.judgeTrigger
  dsimp only
  rw [s.setStatus_member v code n, s.setStatus_trigger v code n]
  split
  · rfl
  · split
    · rfl
    · split <;> rfl

theorem State.judgeRelease_alike (ring n' : BitVec 8) : s.JudgedAlike v code n (·.judgeRelease ring n') := by
  unfold State.JudgedAlike State.judgeRelease
  dsimp only
  rw [s.setStatus_delivery v code n]
  split
  · rfl
  · split <;> rfl

theorem State.judgeResume_alike (skip : Bool) : s.JudgedAlike v code n (·.judgeResume skip) := by
  unfold State.JudgedAlike State.judgeResume
  dsimp only
  rw [s.setStatus_delivery v code n, s.skipDelivery_setStatus v code n]
  split
  · cases skip with
    | true => rfl
    | false => exact congrArg _ (State.beginDelivery_setStatus { s with delivery := { s.delivery with engine := .idle } } v code n)
  · rfl
  · rfl

theorem State.judgeQuery_alike (subject : BitVec 8) : s.JudgedAlike v code n (·.judgeQuery subject) := by
  unfold State.JudgedAlike State.judgeQuery
  dsimp only
  rw [s.setStatus_events v code n]
  split
  · rfl
  · rw [reportContents_setStatus s v code n, s.enterReport_setStatus v code n]
    split <;> rfl

/-- The judgment of a command of more than one word does not look at COMMAND STATUS. -/
theorem State.judge_setStatus (c : HostCommand) (h : c.words.length ≠ 1) :
    (s.setStatus v code n).judge c = ((s.judge c).1, (s.judge c).2.setStatus v code n) := by
  cases c with
  | configure a => exact s.judgeConfigure_alike v code n a
  | join | leave => exact absurd rfl h
  | send stream length a tag => exact s.judgeSend_alike v code n stream length a tag
  | cancel tag => exact s.judgeCancel_alike v code n tag
  | trigger group => exact s.judgeTrigger_alike v code n group
  | release ring n' => exact s.judgeRelease_alike v code n ring n'
  | resume skip => exact s.judgeResume_alike v code n skip
  | query subject => exact s.judgeQuery_alike v code n subject

end SetStatus

/-! ### The words of a record, one after another (R151, R152) -/

theorem wordCode_firstWord (code : BitVec 8) (count : BitVec 4) : wordCode (firstWord code count) = code := by
  unfold firstWord wordCode
  rw [BitVec.append_assoc]
  exact BitVec.extractLsb'_append_eq_left

/-- Words that join a record until it is whole: the last one finishes it, whatever COMMAND STATUS has shown before. -/
theorem State.foldl_collected (s : State) (code : BitVec 8) (count : Nat) (w : Halfword) (rest done : List Halfword)
    (h : done.length + (w :: rest).length = count) : ∃ shown : List Halfword,
      (w :: rest).foldl State.writeCommand (s.collect code count done) =
        (s.collect code count shown).finishCommand code (done ++ w :: rest) := by
  induction rest generalizing w done with
  | nil =>
    exact ⟨done, State.writeCommand_completes (s.collect code count done) w { code := code, count := count, words := done } rfl
      (Nat.le_of_eq h.symm)⟩
  | cons w' rest ih =>
    have hlength : (done ++ [w]).length + (w' :: rest).length = count := by
      rw [← h]; simp only [List.length_append, List.length_cons, List.length_nil]; omega
    have hmore : done.length + 1 < count := by rw [← h]; simp only [List.length_cons]; omega
    obtain ⟨shown, hfold⟩ := ih w' (done ++ [w]) hlength
    refine ⟨shown, ?_⟩
    rw [List.foldl_cons, State.writeCommand_joins (s.collect code count done) w { code := code, count := count, words := done } rfl hmore,
      show (done ++ w :: w' :: rest) = (done ++ [w]) ++ w' :: rest by simp]
    exact hfold

theorem State.emptyCollector_collect (s : State) (h : s.host.collector = none) (code : BitVec 8) (count : Nat)
    (words : List Halfword) : (s.collect code count words).emptyCollector = s.setStatus .collecting code words.length :=
  congrArg (State.setStatus · .collecting code words.length) (s.emptyCollector_of_none h)

/-- A record written word by word with no command being collected is judged as a whole (R151, R152, R155). -/
theorem State.foldl_writeCommand (s : State) (c : HostCommand) (h : s.host.collector = none) :
    c.words.foldl State.writeCommand s = State.setStatus (s.judge c).2 (s.judge c).1 c.code c.words.length := by
  obtain ⟨count, rest, hwords, hlength, hcount⟩ := c.words_first
  have hspelled := c.ofWords_words
  have hcode : wordCode (firstWord c.code count) = c.code := wordCode_firstWord _ _
  have hopen : codeCount (wordCode (firstWord c.code count)) = some (wordCount (firstWord c.code count)) := by
    rw [hcode, wordCount_firstWord, hcount]
  rw [hwords, List.length_cons] at hlength
  cases rest with
  | nil =>
    have hsingle : wordCount (firstWord c.code count) = 1 := by rw [wordCount_firstWord, ← hlength]; rfl
    rw [hwords] at hspelled ⊢
    rw [List.foldl_cons, State.writeCommand_single s _ h hopen hsingle, List.foldl_nil, hcode,
      State.finishCommand_spelled s _ _ c hspelled, s.emptyCollector_of_none h]
  | cons w rest =>
    have hmore : wordCount (firstWord c.code count) ≠ 1 := by
      rw [wordCount_firstWord, ← hlength, List.length_cons]; omega
    have hlong : c.words.length ≠ 1 := by rw [hwords, List.length_cons, List.length_cons]; omega
    rw [hwords, List.foldl_cons, State.writeCommand_opens s _ h hopen hmore, hcode, wordCount_firstWord]
    obtain ⟨shown, hfold⟩ := s.foldl_collected c.code count.toNat w rest [firstWord c.code count]
      (by rw [← hlength]; exact Nat.add_comm _ _)
    rw [hfold, List.singleton_append, ← hwords, State.finishCommand_spelled _ _ _ c hspelled,
      s.emptyCollector_collect h, s.judge_setStatus _ _ _ c hlong]
    rfl

theorem State.windowWrite_command : (fun (t : State) (w : Halfword) => t.windowWrite 0 w) = State.writeCommand := rfl

theorem State.writeRecord_foldl (s : State) (c : HostCommand) :
    s.writeRecord c = c.words.foldl (fun t w => t.windowWrite 0 w) s := by
  rw [State.windowWrite_command]
  cases h : s.host.collector with
  | none => rw [s.writeRecord_ready c h, s.foldl_writeCommand c h]
  | some held => simp only [State.writeRecord, h]

/-! ### The rows that stand for a whole record (notes/assumptions/1.md) -/

/-- What a row for a whole record answers. -/
def WritesRecord (row : Instr) (o : Occasion) (c : HostCommand) (s : State) : Prop :=
  exec row s = .next ((s.at o).writeRecord c)

section Rows
variable (s : State) (o : Occasion) (h : s.resetPin = false)
include h

theorem exec_resume_released (skip : Bool) :
    WritesRecord (if skip then .resumeWithSkip o else .resume o) o (.resume skip) s := by
  cases skip with
  | true | false => exact congrArg Host.Outcome.next (s.live_released o _ h)

theorem exec_query_released (subject : BitVec 8) (row : Instr)
    (hcounters : subject = 0 → row = .queryCounters o) (hroster : subject = 1 → row = .queryRoster o)
    (hring : subject = 2 → row = .queryRing o) (hqueues : subject = 3 → row = .queryQueues o)
    (hother : 3 < subject.toNat → row = .querySubjectOutOfRange o subject) : WritesRecord row o (.query subject) s := by
  have hlive : ∀ x : BitVec 8, Host.Outcome.next (s.live o (·.writeRecord (.query x))) =
      (.next ((s.at o).writeRecord (.query x)) : Host.Outcome State Fault Refusal) :=
    fun x => congrArg Host.Outcome.next (s.live_released o _ h)
  have hsubject : subject = 0 ∨ subject = 1 ∨ subject = 2 ∨ subject = 3 ∨ 3 < subject.toNat := by bv_omega
  rcases hsubject with rfl | rfl | rfl | rfl | hlarge
  · rw [hcounters rfl]; exact hlive 0
  · rw [hroster rfl]; exact hlive 1
  · rw [hring rfl]; exact hlive 2
  · rw [hqueues rfl]; exact hlive 3
  · rw [hother hlarge]; exact hlive subject

end Rows

/-- Settles O12. -/
theorem recordWordByWord : Obligations.RecordWordByWord := by
  refine ⟨fun s c h => (congrArg (fun f => c.words.foldl f s) State.windowWrite_command).trans (s.foldl_writeCommand c h),
    fun s o row c h hrow => ⟨s.at o, rfl, ?_⟩⟩
  have hwrites : WritesRecord row o c s := by
    cases c with
    | resume skip => rw [hrow]; exact exec_resume_released s o h skip
    | query subject =>
      obtain ⟨hcounters, hroster, hring, hqueues, hother⟩ := hrow
      exact exec_query_released s o h subject row hcounters hroster hring hqueues hother
    | _ => rw [hrow]; exact congrArg Host.Outcome.next (s.live_released o _ h)
  refine ⟨hwrites.trans (congrArg _ (State.writeRecord_foldl _ c)), fun hempty => hwrites.trans (congrArg _ ?_)⟩
  exact State.writeRecord_ready _ c (by rw [s.at_host o]; exact hempty)

end Sys2Proof.Machine
end

section
/-! PROOF. What LEAVE does in each station state (O15): the send unit by its head entry, the trigger unit and the open record
context. -/

namespace Sys2Proof.Machine

/-! ### LEAVE in the send unit (R72) -/

/-- The send unit without its one entry left, everything that concerns the head at its starting value. -/
def SendUnit.emptied (u : SendUnit) : SendUnit :=
  { u with
    queue := [], head := none, staging := [], incoming := [], gapTimer := none, attempts := 0
    cancelRequested := false, disposition := none, accept := 0, held := 0
    seq := if u.attempts = 0 then u.seq else u.seq + 1 }

/-- The SENT events of entries that leave with LEFT from behind the head. -/
def leftBehind (behind : List SendEntry) : List Event := behind.map fun x => .sent x.tag .left 0 0 0

/-- The last entry leaves, and no entry becomes the head. -/
theorem State.nextHead_last (s : State) (e : SendEntry) (h : s.send.queue = [e]) :
    s.nextHead = { s with send := s.send.emptied } := by
  rw [State.nextHead, SendUnit.dropHead_cons _ e [] h, State.adoptHead_empty _ rfl]
  rfl

/-- The queue holds the head entry alone. -/
def State.queueHead (s : State) (e : SendEntry) : State := { s with send := { s.send with queue := [e] } }

theorem headIdle {u : SendUnit} (h : u.head = some .staged ∨ u.head = some .retryWait) :
    u.head ≠ some .fetching ∧ u.head ≠ some .inFlight := by
  rcases h with h | h <;> rw [h] <;> exact ⟨nofun, nofun⟩

section EmptySends
variable (s : State)

theorem State.emptySends_idle (h : s.send.queue = []) : s.emptySends = s := by
  unfold State.emptySends; rw [h]

theorem SendUnit.leftEvents_idle (u : SendUnit) (h : u.queue = []) : u.leftEvents = [] := by
  unfold SendUnit.leftEvents
  split
  · rw [h]; rfl
  · rw [SendUnit.headSent_nil _ _ (u.abandonAttempt_queue.trans h), h]; rfl

variable (e : SendEntry) (behind : List SendEntry) (hqueue : s.send.queue = e :: behind)
include hqueue

theorem State.emptySends_fetching (h : s.send.head = some .fetching) : s.emptySends =
    { s with send := { s.send with queue := [e], disposition := some (s.send.disposition.getD .left) } } := by
  unfold State.emptySends
  rw [hqueue]
  dsimp only
  rw [h]

theorem State.leftEvents_fetching (h : s.send.head = some .fetching) : s.send.leftEvents = leftBehind behind := by
  unfold SendUnit.leftEvents
  rw [h, hqueue]
  rfl

theorem State.emptySends_idleHead (hfetching : s.send.head ≠ some .fetching) (hflight : s.send.head ≠ some .inFlight) :
    s.emptySends = { s with send := s.send.emptied } := by
  unfold State.emptySends
  rw [hqueue]
  dsimp only
  split
  next h => exact absurd h hfetching
  next h => exact absurd h hflight
  next => exact State.nextHead_last _ e rfl

theorem State.leftEvents_head (hfetching : s.send.head ≠ some .fetching) : s.send.leftEvents =
    .sent e.tag .left s.send.abandonAttempt.attempts s.send.abandonAttempt.accept s.send.abandonAttempt.held ::
      leftBehind behind := by
  unfold SendUnit.leftEvents
  split
  next h => exact absurd h hfetching
  next =>
    rw [SendUnit.headSent_cons _ _ e behind (s.send.abandonAttempt_queue.trans hqueue), hqueue]
    rfl

theorem State.leftEvents_idleHead (hfetching : s.send.head ≠ some .fetching) (hflight : s.send.head ≠ some .inFlight) :
    s.send.leftEvents = .sent e.tag .left s.send.attempts s.send.accept s.send.held :: leftBehind behind := by
  rw [s.leftEvents_head e behind hqueue hfetching, s.send.abandonAttempt_other hflight]

theorem State.leftEvents_inFlight (h : s.send.head = some .inFlight) :
    s.send.leftEvents = .sent e.tag .left s.send.attempts 0 0 :: leftBehind behind := by
  rw [s.leftEvents_head e behind hqueue (by rw [h]; nofun), s.send.abandonAttempt_inFlight h]

theorem State.emptySends_inFlight (h : s.send.head = some .inFlight) : s.emptySends =
    State.nextHead { (s.queueHead e).contextToStale with send := (s.queueHead e).contextToStale.send.abandonAttempt } := by
  unfold State.emptySends
  rw [hqueue]
  dsimp only
  split
  next hfetching => rw [h] at hfetching; cases hfetching
  next => rfl
  next hflight => exact absurd h hflight

theorem State.emptySends_stale (h : s.send.head = some .inFlight)
    (hcontext : s.send.context = .openCurrent ∨ s.send.context = .openHeadless) : s.emptySends =
      { s with
        send := { s.send.emptied with returnTimer := none, attempt := !s.send.attempt, context := .openStale }
        counters := { s.counters with staleReturns := saturatingInc s.counters.staleReturns } } := by
  rw [s.emptySends_inFlight e behind hqueue h, State.contextToStale_opened (s.queueHead e) hcontext,
    SendUnit.abandonAttempt_inFlight _ (by exact h), State.nextHead_last _ e rfl]
  rfl

theorem State.emptySends_closed (h : s.send.head = some .inFlight)
    (hcontext : s.send.context = .closed ∨ s.send.context = .openStale) : s.emptySends =
      { s with send := { s.send.emptied with returnTimer := none, attempt := !s.send.attempt } } := by
  rw [s.emptySends_inFlight e behind hqueue h, State.contextToStale_unopened (s.queueHead e) hcontext,
    SendUnit.abandonAttempt_inFlight _ (by exact h), State.nextHead_last _ e rfl]
  rfl

end EmptySends

/-- LEAVE takes the send unit and the count of stale returns alone. -/
theorem State.emptySends_eq (s : State) :
    s.emptySends = { s with send := s.emptySends.send, counters := s.emptySends.counters } := by
  cases hqueue : s.send.queue with
  | nil => rw [s.emptySends_idle hqueue]
  | cons e behind =>
    by_cases hfetching : s.send.head = some .fetching
    · rw [s.emptySends_fetching e behind hqueue hfetching]
    by_cases hflight : s.send.head = some .inFlight
    · cases hcontext : s.send.context with
      | openCurrent => rw [s.emptySends_stale e behind hqueue hflight (.inl hcontext)]
      | openHeadless => rw [s.emptySends_stale e behind hqueue hflight (.inr hcontext)]
      | closed => rw [s.emptySends_closed e behind hqueue hflight (.inl hcontext)]
      | openStale => rw [s.emptySends_closed e behind hqueue hflight (.inr hcontext)]
    · rw [s.emptySends_idleHead e behind hqueue hfetching hflight]

theorem State.leaveSends_idle (s : State) (h : s.send.queue = []) : s.leaveSends = s := by
  rw [State.leaveSends, s.emptySends_idle h, SendUnit.leftEvents_idle _ h]
  rfl

theorem State.leaveSends_fetching (s : State) (e : SendEntry) (behind : List SendEntry) (hqueue : s.send.queue = e :: behind)
    (h : s.send.head = some .fetching) : s.leaveSends = State.postAll
      { s with send := { s.send with queue := [e], disposition := some (s.send.disposition.getD .left) } }
      (leftBehind behind) := by
  rw [State.leaveSends, s.emptySends_fetching e behind hqueue h, s.leftEvents_fetching e behind hqueue h]

theorem State.leaveSends_idleHead (s : State) (e : SendEntry) (behind : List SendEntry) (hqueue : s.send.queue = e :: behind)
    (h : s.send.head = some .staged ∨ s.send.head = some .retryWait) : s.leaveSends = State.postAll
      { s with send := s.send.emptied }
      (.sent e.tag .left s.send.attempts s.send.accept s.send.held :: leftBehind behind) := by
  obtain ⟨hfetching, hflight⟩ := headIdle h
  rw [State.leaveSends, s.emptySends_idleHead e behind hqueue hfetching hflight,
    s.leftEvents_idleHead e behind hqueue hfetching hflight]

/-! ### LEAVE in each station state (R25, R26, R93, R128) -/

theorem exec_leave_ready (o : Occasion) (s : State) (h : s.CommandReady) :
    exec (.leave o) s = .next (State.setStatus (s.at o).judgeLeave.2 (s.at o).judgeLeave.1 3 1) :=
  congrArg Host.Outcome.next (s.live_writeRecord o .leave h)

section JudgeLeave
variable (s : State)

theorem State.judgeLeave_refused (h : s.member.station = .config ∨ s.member.station = .pass ∨
    s.member.station = .leaving ∨ s.member.station = .barred) : s.judgeLeave = (.state, s) := by
  unfold State.judgeLeave
  rcases h with h | h | h | h <;> rw [h]

theorem State.judgeLeave_isolated (h : s.member.station = .isolated) : s.judgeLeave = (.ok, State.post
    { s.leaveSends with member := { s.member with station := .pass, isolationTimer := none } }
    (.stateChange .pass .left s.member.ringSize (s.member.number.getD 0) s.member.epoch)) := by
  unfold State.judgeLeave
  rw [h]
  rfl

theorem State.judgeLeave_excluded (h : s.member.station = .excluded) : s.judgeLeave = (.ok, State.post
    { s.leaveSends with member := { s.member with station := .pass } }
    (.stateChange .pass .left s.member.ringSize (s.member.number.getD 0) s.member.epoch)) := by
  unfold State.judgeLeave
  rw [h]
  rfl

theorem State.judgeLeave_census (h : s.member.station = .census) : s.judgeLeave = (.ok, State.post
    { s.leaveSends with
      path := { s.path with ownCensus := none }
      member := { s.member with station := .pass, sub := none, censusTimer := none, provisional := none,
                                claimBegun := false, leavePending := false } }
    (.stateChange .pass .left s.member.ringSize (s.member.number.getD 0) s.member.epoch)) := by
  unfold State.judgeLeave
  rw [h]
  obtain ⟨u, b, e, c, hsends⟩ := s.leaveSends_frame
  dsimp only
  rw [hsends]
  rfl

theorem State.judgeLeave_run (h : s.member.station = .run) : s.judgeLeave = (.ok, s.leaveRun) := by
  unfold State.judgeLeave
  rw [h]

/-- The state of LEAVE in RUN with the record context discarded and the own DEPART waiting. -/
def State.leavingBegun (s : State) : State :=
  { s with
    member := { s.member with
      station := .leaving, depart := .waiting, departTimer := some (s.now + 200000)
      announce := if s.member.announce = .waiting then .none else s.member.announce }
    filter := { s.filter with context := none }
    delivery := s.discarded }

theorem State.leaveRun_eq : s.leaveRun = State.postAll
    { s.leavingBegun with
      send := s.leavingBegun.emptySends.send
      counters := s.leavingBegun.emptySends.counters
      trigger := s.dropTrigger.trigger }
    (takeTurns s.order s.send.leftEvents (s.trigger.abandonEvents .left) []) := by
  have hbegun : s.filterDiscard.startLeaving = s.leavingBegun := by
    unfold State.startLeaving
    rw [s.filterDiscard_eq, OwnState.withdraw_eq]
    rfl
  obtain ⟨trigger, htrigger⟩ := s.leavingBegun.emptySends.dropTrigger_frame
  have hdropped : trigger = s.dropTrigger.trigger := by
    rw [← State.dropTrigger_congr s.leavingBegun.emptySends s (by rw [s.leavingBegun.emptySends_eq]; rfl), htrigger]
  unfold State.leaveRun
  rw [hbegun, htrigger, hdropped, s.leavingBegun.emptySends_eq]

end JudgeLeave

/-- Settles O15. -/
theorem leaveLeavesTheRing : Obligations.LeaveLeavesTheRing := by
  refine ⟨fun s o hready => ⟨s.at o, rfl, ?_⟩, fun s => ⟨s.leaveSends_idle, s.leaveSends_fetching, s.leaveSends_idleHead⟩⟩
  rw [exec_leave_ready o s hready, ← s.at_member_station o, ← s.at_member_ringSize o, ← s.at_member_number o,
    ← s.at_member_epoch o, ← s.at_filter o, ← s.at_delivery o, ← s.at_counters o, ← s.at_send_queue o, ← s.at_now o,
    ← s.at_order o]
  generalize s.at o = t
  refine ⟨fun h => ?_, fun h => ?_, fun h => ?_, fun h => ?_, fun h => ?_⟩
  · rw [t.judgeLeave_refused h]
  · rw [t.judgeLeave_isolated h]
  · rw [t.judgeLeave_excluded h]
  · rw [t.judgeLeave_census h]
  · rw [t.judgeLeave_run h, t.leaveRun_eq]
    refine ⟨t.discarded, t.leavingBegun.emptySends.send, t.leavingBegun.emptySends.counters, t.dropTrigger.trigger,
      t.send.leftEvents, t.trigger.abandonEvents .left, rfl, t.discarded_unreserved,
      fun c older e => t.discarded_reserved c older e, fun hqueue => ?_, fun e behind hqueue => ?_, fun hown => ?_,
      fun g hown hg => ?_⟩
    · rw [t.leavingBegun.emptySends_idle hqueue]
      exact ⟨rfl, rfl, t.send.leftEvents_idle hqueue⟩
    · refine ⟨leftBehind behind, t.send.emptied, rfl, rfl, fun h => ?_, fun h => ?_, fun h => ?_⟩
      · rw [t.leavingBegun.emptySends_fetching e behind hqueue h]
        exact ⟨t.leftEvents_fetching e behind hqueue h, rfl, rfl⟩
      · obtain ⟨hfetching, hflight⟩ := headIdle h
        rw [t.leavingBegun.emptySends_idleHead e behind hqueue hfetching hflight]
        exact ⟨t.leftEvents_idleHead e behind hqueue hfetching hflight, rfl, rfl⟩
      · refine ⟨t.leftEvents_inFlight e behind hqueue h, fun hcontext => ?_, fun hcontext => ?_⟩
        · rw [t.leavingBegun.emptySends_stale e behind hqueue h hcontext]
          exact ⟨rfl, rfl⟩
        · rw [t.leavingBegun.emptySends_closed e behind hqueue h hcontext]
          exact ⟨rfl, rfl⟩
    · obtain ⟨hdrop, hnone⟩ := t.dropTrigger_none .left hown
      rw [hdrop]
      exact ⟨rfl, hnone⟩
    · obtain ⟨hdrop, hdone⟩ := t.dropTrigger_pending .left g hown hg
      rw [hdrop]
      exact ⟨hdone, rfl⟩

end Sys2Proof.Machine
end

section
/-! PROOF. The bus partner's answers (O49, O51): the word that is transferred, the next word of a burst, and what the last word
tells the client; and the words of a delivery slot (O52). -/

namespace Sys2Proof.Machine

/-! ### The transferred word (R55, R59, R144) -/

section Transfer
variable (s : State) (b : Burst) (r : Request) (w : Word)

theorem State.transferWord_loader (h : b.client = .loader) :
    s.transferWord b r w = { s with host := { s.host with loadBuffer := s.host.loadBuffer ++ [w] } } := by
  unfold State.transferWord; rw [h]

theorem State.transferWord_delivery (h : b.client = .delivery) : s.transferWord b r w = { s with outside := { s.outside with
    written := writeWord s.outside.written (b.first + BitVec.ofNat 32 (4 * b.answered)).toNat
      (s.deliveryWord (r.done + b.answered)) } } := by
  unfold State.transferWord; rw [h]; rfl

theorem State.transferWord_fetch (e : SendEntry) (rest : List SendEntry) (h : b.client = .fetch)
    (hqueue : s.send.queue = e :: rest) : s.transferWord b r w =
      { s with send := s.send.stage e s.path.insertion.isSome (s.bus.order.split w) } := by
  unfold State.transferWord State.stageWord; rw [h, hqueue]

/-- The staging buffer is free: the halfwords are placed in it, no more than the payload. -/
theorem State.transferWord_staged (e : SendEntry) (rest : List SendEntry) (h : b.client = .fetch)
    (hqueue : s.send.queue = e :: rest) (hfree : s.path.insertion = none) : s.transferWord b r w =
      { s with send := { s.send with staging := (s.send.staging ++ s.bus.order.split w).take e.length.toNat } } := by
  rw [s.transferWord_fetch b r w e rest h hqueue, hfree]; rfl

/-- An own record in progress holds the staging buffer: the halfwords wait for it. -/
theorem State.transferWord_waits (e : SendEntry) (rest : List SendEntry) (h : b.client = .fetch)
    (hqueue : s.send.queue = e :: rest) (hheld : s.path.insertion ≠ none) : s.transferWord b r w =
      { s with send := { s.send with incoming :=
        (s.send.incoming ++ s.bus.order.split w).take (e.length.toNat - s.send.staging.length) } } := by
  rw [s.transferWord_fetch b r w e rest h hqueue, Option.isSome_iff_ne_none.mpr hheld]; rfl

theorem State.transferWord_bus : (s.transferWord b r w).bus = s.bus := by
  obtain ⟨_, _, _, e⟩ := s.transferWord_frame b r w
  rw [e]

theorem State.transferWord_delivery_kept : (s.transferWord b r w).delivery = s.delivery := by
  obtain ⟨_, _, _, e⟩ := s.transferWord_frame b r w
  rw [e]

/-- A transfer leaves the pending disposition of the head entry (R55). -/
theorem State.transferWord_disposition : (s.transferWord b r w).send.disposition = s.send.disposition := by
  unfold State.transferWord
  split
  · rfl
  · unfold State.stageWord
    split
    · rfl
    · unfold SendUnit.stage
      split <;> rfl
  · rfl

end Transfer

/-! ### The answer (R144, R145) -/

theorem exec_busWordAnswered_released (o : Occasion) (answer : BusAnswer) (s : State) (h : s.resetPin = false) :
    exec (.busWordAnswered o answer) s = .next ((s.at o).busAnswer answer) :=
  congrArg Host.Outcome.next (s.live_released o _ h)

section Answer
variable (s : State)

theorem State.busAnswer_free (h : s.bus.burst = none) (answer : BusAnswer) : s.busAnswer answer = s := by
  unfold State.busAnswer; rw [h]

theorem State.busAnswer_late : s.busAnswer .late = s := by
  unfold State.busAnswer
  split
  next => rfl
  next b _ => cases s.bus.request b.client <;> rfl

variable (b : Burst) (r : Request) (w : Word) (hburst : s.bus.burst = some b) (hrequest : s.bus.request b.client = some r)
include hburst hrequest

theorem State.busAnswer_ok : s.busAnswer (.ok w) = s.answerWord b r w := by
  unfold State.busAnswer
  rw [hburst]
  dsimp only
  rw [hrequest]

theorem State.busAnswer_within (h : b.answered + 1 < b.words) : s.busAnswer (.ok w) = { s.transferWord b r w with
    bus := { s.bus with burst := some { b with answered := b.answered + 1 }, timeout := some (s.now + 6400) } } := by
  rw [s.busAnswer_ok b r w hburst hrequest, State.answerWord, if_pos h, s.transferWord_bus]
  obtain ⟨_, _, _, e⟩ := s.transferWord_frame b r w
  rw [e]
  rfl

theorem State.busAnswer_last (h : b.answered + 1 = b.words) :
    s.busAnswer (.ok w) = (s.transferWord b r w).completeBurst b r := by
  rw [s.busAnswer_ok b r w hburst hrequest, State.answerWord, if_neg (by rw [h]; exact lt_irrefl _)]

end Answer

/-- Settles O49. -/
theorem answeredWordIsTransferred : Obligations.AnsweredWordIsTransferred := by
  intro s u o w b r hu hreset
  rw [exec_busWordAnswered_released o .late s hreset, exec_busWordAnswered_released o (.ok w) s hreset, ← hu, u.busAnswer_late]
  refine ⟨rfl, fun hfree answer => ?_, fun hburst hrequest hmore => ⟨_, rfl, ?_⟩⟩
  · rw [exec_busWordAnswered_released o answer s hreset, ← hu, u.busAnswer_free hfree]
  · rw [u.busAnswer_within b r w hburst hrequest hmore, ← s.at_now o, ← s.at_host o, ← s.at_send_queue o, ← hu]
    refine ⟨fun hclient => ?_, fun e rest hclient hqueue => ⟨fun hfree => ?_, fun hheld => ?_⟩, fun hclient => ?_⟩
    · rw [u.transferWord_loader b r w hclient]
    · rw [u.transferWord_staged b r w e rest hclient hqueue hfree]
    · rw [u.transferWord_waits b r w e rest hclient hqueue hheld]
    · rw [u.transferWord_delivery b r w hclient]

/-! ### The last word of a burst (R55, R56, R107, R108, R146) -/

section LastWord
variable (s : State) (b : Burst) (r : Request)

theorem State.completeBurst_continues (h : r.done + b.words < r.words) : s.completeBurst b r = State.grant { s with
    bus := BusMaster.setRequest { s.bus with burst := none, timeout := none } b.client
      (some { r with done := r.done + b.words }) } := if_neg h.not_ge

/-- The request completes: burst and request end, the client is told, and the arbiter grants. -/
theorem State.completeBurst_completes (h : r.words ≤ r.done + b.words) :
    s.completeBurst b r = ((s.burstFailed b).requestCompleted b.client).grant := if_pos h

theorem State.fetchCompleted_staged (h : s.send.disposition = none) :
    s.fetchCompleted = { s with send := { s.send with head := some .staged } } := by
  unfold State.fetchCompleted; rw [h]

theorem State.fetchCompleted_cancelled (h : s.send.disposition = some .cancelled) :
    s.fetchCompleted = s.completeHead .cancelled := by
  unfold State.fetchCompleted; rw [h]

theorem State.fetchCompleted_left (h : s.send.disposition = some .left) : s.fetchCompleted = s.completeHead .left := by
  unfold State.fetchCompleted; rw [h]

variable (ring : BitVec 2) (slot : Nat)

theorem State.deliveryRequestCompleted_body (h : s.delivery.engine = .delivering .body ring slot) :
    s.deliveryRequestCompleted = State.makeRequest
      { s with delivery := { s.delivery with engine := .delivering .header1 ring slot } }
      .delivery true ((s.delivery.ring ring).base + BitVec.ofNat 32 (136 * slot) + 4) 1 := by
  unfold State.deliveryRequestCompleted; rw [h]; rfl

theorem State.deliveryRequestCompleted_header1 (h : s.delivery.engine = .delivering .header1 ring slot) :
    s.deliveryRequestCompleted = State.makeRequest
      { s with delivery := { s.delivery with engine := .delivering .header0 ring slot } }
      .delivery true ((s.delivery.ring ring).base + BitVec.ofNat 32 (136 * slot)) 1 := by
  unfold State.deliveryRequestCompleted; rw [h]; rfl

theorem State.deliveryRequestCompleted_header0 (e : StoreEntry) (rest : List StoreEntry)
    (h : s.delivery.engine = .delivering .header0 ring slot) (hstore : s.delivery.store = e :: rest) :
    s.deliveryRequestCompleted = State.beginDelivery (State.post
      { s with
        delivery := Delivery.setRing { s.delivery with store := rest, engine := .idle } ring (s.delivery.ring ring).afterDelivery }
      (.delivered ring slot e.source e.stream e.seq e.length)) := by
  unfold State.deliveryRequestCompleted
  rw [h]
  unfold State.completeDelivery
  rw [h, hstore]
  rfl

end LastWord

/-- Settles O51. -/
theorem completedRequestTellsItsClient : Obligations.CompletedRequestTellsItsClient := by
  intro s x o w b r hx hreset hburst hrequest hlast
  rw [exec_busWordAnswered_released o (.ok w) s hreset, ← s.at_host o, ← s.at_send_queue o, ← s.at_delivery o, ← hx,
    x.busAnswer_last b r w hburst hrequest hlast]
  have hbus := x.transferWord_bus b r w
  have hdelivery := x.transferWord_delivery_kept b r w
  have hfreed : (x.transferWord b r w).burstFailed b = { x.transferWord b r w with
      bus := BusMaster.setRequest { x.bus with burst := none, timeout := none } b.client none } := by
    unfold State.burstFailed; rw [hbus]
  refine ⟨x.transferWord b r w, (x.transferWord b r w).burstFailed b, x.transferWord_loader b r w, fun e rest hclient hqueue =>
      ⟨x.transferWord_staged b r w e rest hclient hqueue, x.transferWord_waits b r w e rest hclient hqueue⟩,
    x.transferWord_delivery b r w, hfreed, fun hmore => ?_, fun hdone => ?_⟩
  · rw [State.completeBurst_continues _ b r hmore, hbus]
  rw [State.completeBurst_completes _ b r hdone, ← x.transferWord_disposition b r w, ← hdelivery]
  generalize x.transferWord b r w = t
  refine ⟨fun hclient => ?_, fun ring slot hclient hengine => ?_, fun ring slot hclient hengine => ?_,
    fun ring slot e rest hclient hengine hstore => ?_⟩
  · rw [hclient, State.requestCompleted]
    refine ⟨fun h => ?_, fun h => ?_, fun h => ?_⟩
    · rw [(t.burstFailed b).fetchCompleted_staged h]; rfl
    · rw [(t.burstFailed b).fetchCompleted_cancelled h]
    · rw [(t.burstFailed b).fetchCompleted_left h]
  · rw [hclient, State.requestCompleted, (t.burstFailed b).deliveryRequestCompleted_body ring slot hengine]
    rfl
  · rw [hclient, State.requestCompleted, (t.burstFailed b).deliveryRequestCompleted_header1 ring slot hengine]
    rfl
  · rw [hclient, State.requestCompleted,
      (t.burstFailed b).deliveryRequestCompleted_header0 ring slot e rest hengine hstore]
    rfl

/-! ### The words of a slot (R101, R106, R107, 11.3) -/

section SlotWords
variable (s : State) (e : StoreEntry) (rest : List StoreEntry) (ring : BitVec 2) (slot k : Nat)
  (hstore : s.delivery.store = e :: rest)
include hstore

theorem State.deliveryWord_body (h : s.delivery.engine = .delivering .body ring slot) :
    s.deliveryWord k = payloadWord s.bus.order e.payload k := by
  unfold State.deliveryWord; rw [h, hstore]

theorem State.deliveryWord_header1 (h : s.delivery.engine = .delivering .header1 ring slot) :
    s.deliveryWord k = e.header1 (s.delivery.ring ring).delivered := by
  unfold State.deliveryWord; rw [h, hstore]

theorem State.deliveryWord_header0 (h : s.delivery.engine = .delivering .header0 ring slot) :
    s.deliveryWord k = e.header0 := by
  unfold State.deliveryWord; rw [h, hstore]

end SlotWords

/-- Settles O52. -/
theorem slotWordsHoldTheRecord : Obligations.SlotWordsHoldTheRecord := by
  intro s e rest ring slot k hstore
  refine ⟨fun h => ?_, fun h => ?_, fun h => ?_⟩
  · rw [s.deliveryWord_body e rest ring slot k hstore h]
    unfold payloadWord HalfwordOrder.join
    rfl
  · rw [s.deliveryWord_header1 e rest ring slot k hstore h]
    obtain ⟨hzero, hepoch, hcount⟩ := (three_fields_iff 0#8 e.epoch (s.delivery.ring ring).delivered _).mp rfl
    exact ⟨hcount, hepoch, hzero⟩
  · rw [s.deliveryWord_header0 e rest ring slot k hstore h]
    obtain ⟨hlength, hseq, hstream, hsource⟩ := (four_fields_iff (byte e.length) e.seq (byte e.stream) (byte e.source) e.header0).mp
      (BitVec.append_assoc ..)
    exact ⟨hsource, hstream, hseq, hlength⟩

end Sys2Proof.Machine
end

section
/-! PROOF. The configuration record (O53): where each item stands, the reasons of a rejection in their order, and the end of a
load. -/

namespace Sys2Proof.Machine

/-! ### Where the items stand (R160, R185, 11.2) -/

theorem recordSubscription_even (words : List Word) (j : Nat) : recordSubscription words (2 * j) =
    ((recordWord words (12 + j)).extractLsb' 0 6, (recordWord words (12 + j)).extractLsb' 8 2) := by
  have hentry : recordEntry words (2 * j) = lowHalf (recordWord words (12 + j)) := by
    unfold recordEntry
    rw [if_pos (Nat.mul_mod_right 2 j), Nat.mul_div_cancel_left j two_pos]
  unfold recordSubscription
  rw [hentry]
  exact congrArg₂ Prod.mk (field_of_field _ 0 16 0 6 (by omega)) (field_of_field _ 0 16 8 2 (by omega))

theorem recordSubscription_odd (words : List Word) (j : Nat) : recordSubscription words (2 * j + 1) =
    ((recordWord words (12 + j)).extractLsb' 16 6, (recordWord words (12 + j)).extractLsb' 24 2) := by
  have hentry : recordEntry words (2 * j + 1) = highHalf (recordWord words (12 + j)) := by
    unfold recordEntry
    rw [if_neg (by omega), show (2 * j + 1) / 2 = j by omega]
  unfold recordSubscription
  rw [hentry]
  exact congrArg₂ Prod.mk (field_of_field _ 16 16 0 6 (by omega)) (field_of_field _ 16 16 8 2 (by omega))

/-! ### The end of a load (R158, R161, R162) -/

section Load
variable (s : State)

theorem State.loadCompleted_rejected (reason : RejectReason) (index : Nat)
    (h : recordFault s.host.loadBuffer = some (reason, index)) :
    s.loadCompleted = State.post { s with host := s.host.endLoad } (.configRejected reason index) := by
  unfold State.loadCompleted; rw [h]

theorem State.loadCompleted_loaded (h : recordFault s.host.loadBuffer = none) :
    s.loadCompleted = s.loadRecord s.host.loadBuffer := by
  unfold State.loadCompleted; rw [h]

end Load

/-! ### The reasons in their order (R161) -/

theorem entryFault_named (slots : BitVec 2 → Nat) (seen : List (BitVec 6)) (index : Nat) (x : BitVec 6 × BitVec 2)
    (rest : List (BitVec 6 × BitVec 2)) (h : x.1 ∈ seen) :
    entryFault slots seen index (x :: rest) = some (.subscriptionDuplicate, index) := if_pos (List.contains_iff_mem.mpr h)

theorem entryFault_unused (slots : BitVec 2 → Nat) (seen : List (BitVec 6)) (index : Nat) (x : BitVec 6 × BitVec 2)
    (rest : List (BitVec 6 × BitVec 2)) (hnew : x.1 ∉ seen) (hunused : slots x.2 < 2) :
    entryFault slots seen index (x :: rest) = some (.subscriptionRing, index) :=
  (if_neg fun h => hnew (List.contains_iff_mem.mp h)).trans (if_pos hunused)

section Record
variable (words : List Word)

/-- The used entries with entry `j` picked out. -/
theorem recordSubscriptions_split (j : Nat) (h : j < recordSubscriptionCount words) : ∃ rest, recordSubscriptions words =
    (List.range j).map (recordSubscription words) ++ recordSubscription words j :: rest := by
  obtain ⟨d, hd⟩ := Nat.exists_eq_add_of_lt h
  refine ⟨(((List.range d).map Nat.succ).map (j + ·)).map (recordSubscription words), ?_⟩
  unfold recordSubscriptions
  rw [hd, Nat.add_assoc, List.range_add, List.range_succ_eq_map, List.map_append, List.map_cons, List.map_cons]
  rfl

theorem mem_streams_before (j : Nat) (x : BitVec 6) :
    x ∈ ((((List.range j).map (recordSubscription words)).map (·.1)).reverse ++ []) ↔
      ∃ i, i < j ∧ (recordSubscription words i).1 = x := by
  simp

/-- Entries that pass bring the last two checks to entry `j`, with the streams before it named. -/
theorem entryFault_reaches (j : Nat) (h : j < recordSubscriptionCount words)
    (hbefore : ∀ k, k < j → (∀ i, i < k → (recordSubscription words i).1 ≠ (recordSubscription words k).1) ∧
      2 ≤ recordSlots words (recordSubscription words k).2.toNat) : ∃ rest,
    entryFault (fun r => recordSlots words r.toNat) [] 0 (recordSubscriptions words) =
      entryFault (fun r => recordSlots words r.toNat)
        ((((List.range j).map (recordSubscription words)).map (·.1)).reverse ++ []) j (recordSubscription words j :: rest) := by
  obtain ⟨rest, hsplit⟩ := recordSubscriptions_split words j h
  refine ⟨rest, ?_⟩
  have hnodup : (((List.range j).map (recordSubscription words)).map (·.1)).Nodup := by
    rw [List.map_map]
    refine List.Nodup.map_on (fun x hx y hy he => ?_) List.nodup_range
    rcases Nat.lt_trichotomy x y with hlt | heq | hgt
    · exact absurd he ((hbefore y (List.mem_range.mp hy)).1 x hlt)
    · exact heq
    · exact absurd he.symm ((hbefore x (List.mem_range.mp hx)).1 y hgt)
  rw [hsplit, entryFault_append _ _ _ _ _ hnodup]
  · rw [List.length_map, List.length_range, Nat.zero_add]
  · intro x hx
    obtain ⟨k, hk, rfl⟩ := List.mem_map.mp hx
    exact ⟨List.not_mem_nil, (hbefore k (List.mem_range.mp hk)).2⟩

variable (hmark : recordMark words ≠ 0) (hlimit : recordRetryLimit words ≤ 15)
  (hlength : recordBurstLength words ∈ [1, 2, 4, 8])
include hmark hlimit hlength

theorem recordFault_firstRing (r : Nat) (hr : r < 4)
    (hbefore : ∀ q, q < r → recordSlots words q = 0 ∨ 2 ≤ recordSlots words q ∧ recordSlots words q ≤ 128)
    (hslots : recordSlots words r = 1 ∨ 128 < recordSlots words r) : recordFault words = some (.ringSlots, r) := by
  refine recordFault_ringSlots words hmark hlimit hlength r (List.find?_range_eq_some.mpr ⟨?_, List.mem_range.mpr hr, fun q hq => ?_⟩)
  · rw [Bool.not_eq_true', Bool.eq_false_iff, ne_eq, slotCountAllowed_iff]
    omega
  · rw [Bool.not_not, slotCountAllowed_iff]
    exact hbefore q hq

variable (hrings : ∀ q, q < 4 → recordSlots words q = 0 ∨ 2 ≤ recordSlots words q ∧ recordSlots words q ≤ 128)
include hrings

theorem recordFault_subscriptionCount (h : 16 < recordSubscriptionCount words) :
    recordFault words = some (.subscriptionCount, 0) := by
  rw [recordFault_entries words hmark hlimit hlength hrings, if_pos h]

/-- The first entry that fails one of the last two checks gives the reason: a stream named before it goes first. -/
theorem recordFault_firstEntry (j : Nat) (hcount : recordSubscriptionCount words ≤ 16) (h : j < recordSubscriptionCount words)
    (hbefore : ∀ k, k < j → (∀ i, i < k → (recordSubscription words i).1 ≠ (recordSubscription words k).1) ∧
      2 ≤ recordSlots words (recordSubscription words k).2.toNat) :
    ((∃ i, i < j ∧ (recordSubscription words i).1 = (recordSubscription words j).1) →
      recordFault words = some (.subscriptionDuplicate, j)) ∧
    ((∀ i, i < j → (recordSubscription words i).1 ≠ (recordSubscription words j).1) →
      recordSlots words (recordSubscription words j).2.toNat < 2 → recordFault words = some (.subscriptionRing, j)) := by
  obtain ⟨rest, hreaches⟩ := entryFault_reaches words j h hbefore
  rw [recordFault_entries words hmark hlimit hlength hrings, if_neg (Nat.not_lt.mpr hcount), hreaches]
  refine ⟨fun hnamed => entryFault_named _ _ _ _ _ ((mem_streams_before words j _).mpr hnamed), fun hnew hunused => ?_⟩
  refine entryFault_unused _ _ _ _ _ (fun hin => ?_) hunused
  obtain ⟨i, hi, he⟩ := (mem_streams_before words j _).mp hin
  exact hnew i hi he

end Record

/-- Settles O53. -/
theorem recordIsValidatedAndLoaded : Obligations.RecordIsValidatedAndLoaded := by
  refine ⟨fun words word hword => ?positions, ?load, fun words => ?validation,
    fun words hmark hlimit hlength hrings => ⟨recordFault_subscriptionCount words hmark hlimit hlength hrings,
      fun j => recordFault_firstEntry words hmark hlimit hlength hrings j⟩⟩
  case positions =>
    obtain rfl : word = recordWord words := funext hword
    exact ⟨rfl, rfl, rfl, rfl, rfl, rfl, fun r _ => ⟨recordBase_toNat words r, rfl⟩,
      fun j _ => ⟨recordSubscription_even words j, recordSubscription_odd words j⟩, rfl⟩
  case load =>
    intro s x o w b r hx hreset hburst hclient hrequest hlast hdone
    rw [exec_busWordAnswered_released o (.ok w) s hreset, ← s.at_host o, ← s.at_delivery o, ← s.at_filter o, ← hx,
      x.busAnswer_last b r w hburst (by rw [hclient]; exact hrequest) hlast, State.completeBurst_completes _ b r hdone,
      x.transferWord_loader b r w hclient, hclient, State.requestCompleted]
    refine ⟨_, _, rfl, rfl, fun reason index hfault => ?_, fun hvalid => ?_⟩
    · rw [State.loadCompleted_rejected _ reason index (by exact hfault)]
      unfold State.burstFailed
      rw [hclient]
      rfl
    · rw [State.loadCompleted_loaded _ (by exact hvalid)]
      unfold State.burstFailed
      rw [hclient]
      rfl
  case validation =>
    exact ⟨recordFault_eq_none_iff words, recordFault_mark words, recordFault_retryLimit words,
      recordFault_burstLength words, fun r hr hmark hlimit hlength =>
        recordFault_firstRing words hmark hlimit hlength r hr⟩

end Sys2Proof.Machine
end
